-- ==== Sys2Proof/Word.lean ====
section
/-!
DEFINITION. Word.lean: the plain words of the WJ-340's manual: bytes, triples of the three picture
channels, one value for each of the three recorder links, and the closed sets of names that the
commands of Syntax.lean speak of.
-/
namespace Sys2Proof

/-- One byte of the exchange area. -/
abbrev Byte := BitVec 8

/-- A value for each of the picture channels R, G and B. -/
structure Rgb (α : Type) where
  r : α
  g : α
  b : α
  deriving DecidableEq, Repr

/-- The same function on each channel. -/
def Rgb.map {α β : Type} (f : α → β) (x : Rgb α) : Rgb β := ⟨f x.r, f x.g, f x.b⟩

/-- A function of two triples, channel by channel. -/
def Rgb.zip {α β γ : Type} (f : α → β → γ) (x : Rgb α) (y : Rgb β) : Rgb γ :=
  ⟨f x.r y.r, f x.g y.g, f x.b y.b⟩

/-- The same value in every channel. -/
def Rgb.same {α : Type} (x : α) : Rgb α := ⟨x, x, x⟩

/-- Clamping (00_scope.md, Clamping): below `lo` becomes `lo`, above `hi` becomes `hi`. -/
def clamp (lo hi x : Int) : Int := if x < lo then lo else if hi < x then hi else x

/-- The recorder links A, B and C. -/
inductive Link where
  | a
  | b
  | c
  deriving DecidableEq, Repr

/-- The links in the order the pass controller works through them. -/
def Link.all : List Link := [.a, .b, .c]

/-- A value for each recorder link. -/
structure PerLink (α : Type) where
  a : α
  b : α
  c : α
  deriving DecidableEq, Repr

/-- The value of one link. -/
def PerLink.get {α : Type} (x : PerLink α) : Link → α
  | .a => x.a
  | .b => x.b
  | .c => x.c

/-- Replace the value of one link. -/
def PerLink.set {α : Type} (x : PerLink α) (l : Link) (v : α) : PerLink α :=
  match l with
  | .a => { x with a := v }
  | .b => { x with b := v }
  | .c => { x with c := v }

/-- The same function on each link's value. -/
def PerLink.map {α β : Type} (f : α → β) (x : PerLink α) : PerLink β := ⟨f x.a, f x.b, f x.c⟩

/-- The same value for every link. -/
def PerLink.same {α : Type} (x : α) : PerLink α := ⟨x, x, x⟩

/-- A set of recorder links. -/
abbrev LinkSet := PerLink Bool

/-- Field parity (00_scope.md, Fields and parity). -/
inductive Parity where
  | first
  | second
  deriving DecidableEq, Repr

/-- The other parity. -/
def Parity.opposite : Parity → Parity
  | .first => .second
  | .second => .first

/-- The direction of film travel that a perf event reports (R42). -/
inductive Direction where
  | forward
  | reverse
  deriving DecidableEq, Repr

/-- What the blocks do with one field event once its position record is published. Where the
order of two of them decides an outcome the manual gives the outcome for either order (00_scope.md),
so a field command carries the order. `restEntry`, `timer` and `autoDown` are steps of their own in the
opcode table (ENTER_REST, the timer expiries, AUTO_DOWN): they may stand in a field's order or
come later as commands. -/
inductive FieldAct where
  /-- the grade engine makes the field grade (R65, R66) -/
  | grade
  /-- the light monitor updates its rest count and may leave REST (R106, R108) -/
  | restCount
  /-- the light monitor decides on entering REST (R107) -/
  | restEntry
  /-- the level monitor finishes, deals with and opens measurements (R113) -/
  | measure
  /-- the receive framers give up overdue frames (R133) -/
  | framers
  /-- the link controller updates the silence counts (R142) -/
  | silence
  /-- the link controller looks at one link's timer (R135) -/
  | timer (l : Link)
  /-- the link controller decides on one link's auto-down (R142) -/
  | autoDown (l : Link)
  /-- the pass controller takes the position record (R153 to R167) -/
  | pass
  /-- the report writer forms the field report (R182) -/
  | report
  /-- the exchange port begins its field poll (R172) -/
  | poll
  deriving DecidableEq, Repr

end Sys2Proof
end

