-- ==== Sys2Proof/Syntax.lean ====
section
/-!
DEFINITION. Syntax.lean: the commands of the WJ-340, one constructor for each row of
spec/opcode_table.json, in the table's order, with their plain operands.

An order row (PUT SCENE to MARK) carries no operand: its parameters stand in the order block that the
walker has read (R173) and State holds. A completion of a memory READ carries the bits that the bus
delivered (the exchange area is the controller's memory); a completion of a WRITE carries none.
-/
namespace Sys2Proof

inductive Instr where
  -- scene orders (01)
  | putScene
  | sceneFetchComplete (record : BitVec 512)
  | removeScene
  | clearScenes
  | lockScenes
  | unlockScenes
  | loadScenes
  | loadRecordFetchComplete (record : BitVec 512)
  | readScenes
  | readScenesSlotWritten
  -- look orders (02)
  | putLook
  | lookFetchComplete (record : BitVec 256)
  | readLooks
  | readLooksSlotWritten
  | setHouseArea
  | clearHouseLooks
  -- follower, picture, light and level orders (03, 04, 06, 07)
  | setStandard
  | setPosition
  | setFollow
  | setPicture
  | setLight
  | setMonitor
  | ackMonitor
  -- routing and link orders (08)
  | setRoute
  | setLink
  | wakeLink
  | resetLink
  -- pass orders (09)
  | startPass
  | abortPass
  -- exchange-area orders (10)
  | setJournal
  | setReports
  | mark
  -- register writes and resets (10)
  | runWritten1
  | runWritten0
  | softReset
  | powerOnReset
  | boardReset
  | baseWrite (value : BitVec 32)
  | attentionWrite (value : BitVec 32)
  | noticeMaskWrite (value : BitVec 32)
  -- scanner events (03 to 07)
  | perfEvent (direction : Direction)
  | fieldEvent (parity : Parity) (order : List FieldAct)
  | referenceWatchExpiry (order : List FieldAct)
  | standInField (order : List FieldAct)
  | sampleTriple (triple : Rgb (BitVec 10))
  | lightSampleEvent (reading : BitVec 12)
  | enterRest
  -- recorder link events (08)
  | awake (link : Link) (value : BitVec 24)
  | cued (link : Link) (value : BitVec 24)
  | locked (link : Link) (value : BitVec 24)
  | written (link : Link) (value : BitVec 24)
  | done (link : Link) (value : BitVec 24)
  | trouble (link : Link) (value : BitVec 24)
  | damagedFrame (link : Link) (kind : BitVec 8) (value : BitVec 24) (sum : BitVec 8)
  | directiveSent (link : Link)
  | wakeTimerExpiry (link : Link)
  | cueTimerExpiry (link : Link)
  | watchdogExpiry (link : Link)
  | closeTimerExpiry (link : Link)
  | autoDown (link : Link)
  -- exchange port events (10)
  | headerReadComplete (bytes : BitVec 64)
  | headerWriteComplete
  | linkReadComplete (link : BitVec 32)
  | blockReadComplete (block : BitVec 256)
  | takenWriteComplete
  | resultIndexWriteComplete
  | finalWriteComplete
  | abortedWriteComplete
  | accessGrant
  | busError
  | journalWriteComplete
  | reportWriteComplete
  | startByte (link : Link)
  deriving DecidableEq, Repr

end Sys2Proof
end

