-- ==== Sys2Proof/Decode.lean ====
section
/-!
DEFINITION. Decode.lean: the commands that words spell. No row of spec/opcode_table.json gives a command any bits: a
command of the WJ-340 is an event at its boundary, not a word.
-/
namespace Sys2Proof

/-- The command that the low `nbits` bits of `w` spell by the opcode table's bits: none, since no row has bits. -/
def decodeTableWord (_nbits _w : Nat) : Option Instr := none

end Sys2Proof
end

