-- ==== Sys2Proof/Config.lean ====
section
/-!
DEFINITION. Config.lean: the constants that the manual fixes for every WJ-340, and the values that it
leaves open, which have no body here: nothing can be proved of them but their type.
-/
namespace Sys2Proof.Config

/-- First film frame number (00_scope.md, Film frames; R2). -/
def frameMin : Int := -10000

/-- Last film frame number (00_scope.md, Film frames; R2). -/
def frameMax : Int := 999999

/-- Records the scene store holds at most (R2). -/
def storeCapacity : Nat := 2048

/-- Bytes of the exchange window (00_scope.md, Exchange offsets). -/
def windowSize : Nat := 1048576

/-- The top of the wear accumulator, 2^40 - 1 (R99, R104). -/
def wearTop : Nat := 1099511627775

/-- The top of the saturating 16-bit counts (R99, R122, R142, R179). -/
def countTop : Nat := 65535

/-- Directives a link's send queue holds at most (R132). -/
def sendCapacity : Nat := 4

/-- Entries the staging queue holds at most (R179). -/
def stagingCapacity : Nat := 8

/-- Blocks one walk reads at most (R175). -/
def walkLimit : Nat := 16

/-- The start byte of a link message (R131). -/
def startByte : BitVec 8 := 165

/-- The last report slot when there is none (R170, R182). -/
def noReportSlot : Nat := 65535

/-- FREE VALUE (notes/assumptions/5.md): the bits of a memory write that no layout of the manual names. Each
use takes them from `freeBits n` with the next n; State counts n. -/
opaque freeBits : Nat → BitVec 512

/-- FREE VALUE (notes/assumptions/6.md): which revision of the part this is. The manual says only
that revisions run from 1 in eight bits (Registers, IDENT bits 16 to 23). -/
opaque revisionLessOne : Fin 255

/-- The part's revision, from 1 (Registers, IDENT). -/
def revision : Nat := revisionLessOne.val + 1

/-- FREE VALUE (notes/assumptions/6.md): the register bits that the manual's register table does not name.
The argument is the register's backplane offset. -/
opaque unnamedRegisterBits : Nat → BitVec 32

end Sys2Proof.Config
end

