-- ==== Sys2Proof/Machine/State.lean ====
section
/-!
DEFINITION. Machine/State.lean: everything the manual gives the WJ-340 to hold, block by block, as plain
data, the reasons a step can stop, and the state right after a power-on reset.
-/
namespace Sys2Proof.Machine

/-! ### The scene store (01_the_scene_store.md) -/

/-- A grade: lift, gain and mid of each channel, and one saturation (R1, R24, R64). -/
structure Grade where
  lift : Rgb Int
  gain : Rgb Int
  mid : Rgb Int
  sat : Int
  deriving DecidableEq, Repr

/-- The unity grade (R24): L 0, G 1024, m 512 in each channel, S 1024. -/
def unityGrade : Grade := ⟨Rgb.same 0, Rgb.same 1024, Rgb.same 512, 1024⟩

/-- A trim key: an offset from the scene's start and a gain trim per channel (R1). -/
structure TrimKey where
  offset : Nat
  trim : Rgb Int
  deriving DecidableEq, Repr

/-- How a scene is entered from its predecessor (R1). -/
inductive Transition where
  | cut
  | dissolve (length : Nat)
  deriving DecidableEq, Repr

/-- The statistics part of a scene record (R8). -/
structure Stats where
  frame : Int
  field : BitVec 32
  min : Rgb Int
  max : Rgb Int
  mean : Rgb Int
  excursion : Bool
  deriving DecidableEq, Repr

/-- A stored scene record (R1). -/
structure Scene where
  start : Int
  number : Nat
  own : Grade
  look : Fin 64
  transition : Transition
  keys : List TrimKey
  group : Fin 16
  negative : Bool
  locked : Bool
  stats : Option Stats
  deriving DecidableEq, Repr

/-! ### The look table (02_looks_house_looks_and_approval_locks.md) -/

/-- A look record (R24). -/
structure Look where
  grade : Grade
  parent : Fin 64
  level : Nat
  children : Nat
  locks : Nat
  deriving DecidableEq, Repr

/-- The look table: 64 looks and the house size H; protection is on while H is above 0 (R24, R34). -/
structure LookTable where
  looks : Vector Look 64
  house : Nat
  deriving DecidableEq, Repr

/-! ### The transport follower (03_film_position_and_cadence.md) -/

/-- The field standard (00_scope.md, Field standards). -/
inductive Standard where
  | s50
  | s60
  deriving DecidableEq, Repr

/-- The follow mode with the sync state and the sync account E, c (R46, R51, R52). -/
inductive Follow where
  | free
  | seeking
  | locked (frame : Int) (count : Nat)
  deriving DecidableEq, Repr

/-- The mode of a published field, with c and the field index of a LOCKED field (R58). -/
inductive FieldMode where
  | free
  | seeking
  | locked (count : Nat) (index : Int)
  deriving DecidableEq, Repr

/-- The field position record (R58). -/
structure PosRecord where
  field : BitVec 32
  frame : Int
  parity : Parity
  mode : FieldMode
  limit : Bool
  slip : Bool
  unlocked : Bool
  deriving DecidableEq, Repr

/-- The transport follower (R42 to R63). -/
structure Follower where
  perf : Int
  standard : Standard
  ppf : Nat
  mode : Follow
  origin : Int
  div : Nat
  odd : Nat
  /-- the field counter (R57) -/
  fields : BitVec 32
  /-- stand-in is under way (R60) -/
  standIn : Bool
  /-- the note of held perf events (R42, R58) -/
  heldNote : Bool
  /-- the parity of the field event before, none since a reset (R60) -/
  lastParity : Option Parity
  /-- the frame-reference output pulsed at the latest field event (R56) -/
  frameRef : Bool
  /-- the record latest published (R59) -/
  record : PosRecord
  deriving DecidableEq, Repr

/-! ### The field grade and the picture path (04_the_field_grade.md, 05_the_picture_path.md) -/

/-- The field grade in force (R64). -/
structure FieldGrade where
  field : BitVec 32
  grade : Grade
  k : Int
  negative : Bool
  rest : Bool
  scene : Nat
  deriving DecidableEq, Repr

/-- The picture settings (R84), the two flags taken with the grade (R86), and the code values on the
output bus (R87). -/
structure Picture where
  legalClip : Bool
  defaultNegative : Bool
  haltPassage : Bool
  legalInForce : Bool
  output : Rgb Int
  deriving DecidableEq, Repr

/-! ### The light monitor (06_tube_light_compensation_and_rest.md) -/

/-- The light monitor (R99). The beam-dim output is on while `rest` is set. -/
structure Light where
  floor : Nat
  blockSize : Nat
  target : Nat
  restLimit : Nat
  service : Nat
  blockCount : Nat
  blockSum : Nat
  k : Int
  lowRun : Nat
  lowReported : Bool
  wear : Nat
  serviceArmed : Bool
  restCount : Nat
  lastFrame : Option Int
  rest : Bool
  /-- THE MODEL'S OWN (notes/assumptions/4.md): the decision of R107 is still to be made for the latest field -/
  restDue : Bool
  deriving DecidableEq, Repr

/-! ### The level monitor (07_level_monitoring_and_scene_statistics.md) -/

/-- The six alert flags (R112). -/
structure AlertFlags where
  high : Rgb Bool
  low : Rgb Bool
  deriving DecidableEq, Repr

/-- One channel of a measurement (R112). -/
structure ChanMeas where
  count : Nat
  min : Int
  max : Int
  sum : Int
  above : Nat
  below : Nat
  deriving DecidableEq, Repr

/-- A measurement record (R112). -/
structure Measurement where
  field : BitVec 32
  frame : Int
  start : Option Int
  number : Nat
  recorded : Bool
  rest : Bool
  expected : Nat
  chans : Rgb ChanMeas
  deriving DecidableEq, Repr

/-- The excursion tally (R122); `start` is none for the no-scene frames. -/
structure Tally where
  start : Option Int
  number : Nat
  count : Nat
  union : AlertFlags
  field : BitVec 32
  frame : Int
  deriving DecidableEq, Repr

/-- FIELD or AVERAGED judging (R112). -/
inductive JudgeMode where
  | field
  | averaged
  deriving DecidableEq, Repr

/-- FOLLOW or LATCH (R112). -/
inductive FlagMode where
  | follow
  | latch
  deriving DecidableEq, Repr

/-- The level monitor's settings (R112). -/
structure LevelSettings where
  high : Rgb Int
  low : Rgb Int
  countLimit : Nat
  judge : JudgeMode
  m : Nat
  flagMode : FlagMode
  on : Bool
  deriving DecidableEq, Repr

/-- The averaging block of AVERAGED judging (R112, R119). -/
structure LevelBlock where
  fields : Nat
  maxSum : Rgb Int
  minSum : Rgb Int
  deriving DecidableEq, Repr

/-- The level monitor (R112). -/
structure Level where
  set : LevelSettings
  openMeas : Option Measurement
  last : Option Measurement
  block : LevelBlock
  flags : AlertFlags
  tally : Option Tally
  deriving DecidableEq, Repr

/-! ### Routes and recorder links (08_routing_and_recorder_links.md) -/

/-- ALL or ANY (R128). -/
inductive RouteMode where
  | all
  | any
  deriving DecidableEq, Repr

/-- A route entry (R128). -/
structure Route where
  dest : LinkSet
  mode : RouteMode
  safety : Bool
  valid : Bool
  deriving DecidableEq, Repr

/-- The nine link states (R130). -/
inductive LinkState where
  | down
  | waking
  | idle
  | cueing
  | armed
  | rolling
  | recording
  | closing
  | fault
  deriving DecidableEq, Repr

/-- The eight fault causes (R130). -/
inductive FaultCause where
  | noTape
  | noAnswer
  | cueMismatch
  | timecode
  | stall
  | notLocked
  | trouble
  | overrun
  deriving DecidableEq, Repr

/-- Who woke the link (R130). -/
inductive WakeOwner where
  | none
  | order
  | pass
  deriving DecidableEq, Repr

/-- The kinds of link timer (R130). -/
inductive TimerKind where
  | wake
  | cue
  | watchdog
  | close
  deriving DecidableEq, Repr

/-- A running link timer (R130, R135). -/
structure LinkTimer where
  kind : TimerKind
  start : BitVec 32
  limit : Nat
  deriving DecidableEq, Repr

/-- The directives of the line (R131). -/
inductive Directive where
  | wake
  | cue (timecode : Nat)
  | roll
  | recordIn
  | out
  | standby
  deriving DecidableEq, Repr

/-- The receive framer (R130, R133): hunting, or assembling a frame, with the field number noted at its start byte and the
1 to 5 bytes gathered so far, the start byte first. -/
inductive Framer where
  | hunting
  | assembling (noted : BitVec 32) (bytes : List Byte)
  deriving DecidableEq, Repr

/-- A link record (R130). The oldest directive of `queue` is the one on the line (R132). -/
structure LinkRec where
  state : LinkState
  cause : Option FaultCause
  recorderCode : Nat
  owner : WakeOwner
  held : Bool
  requestedTc : Nat
  lockedMark : Bool
  expectedTc : Nat
  timer : Option LinkTimer
  silence : Nat
  queue : List Directive
  framer : Framer
  wakeLimit : Nat
  cueLimit : Nat
  closeLimit : Nat
  silenceLimit : Nat
  watchdogLimit : Nat
  autoWake : Bool
  /-- THE MODEL'S OWN (notes/assumptions/4.md): the auto-down decision of R142 is still to be made for the latest field -/
  downDue : Bool
  deriving DecidableEq, Repr

/-! ### The pass controller (09_record_passes.md) -/

/-- The pass states; "no pass" is the absence of a pass record (R149). -/
inductive PassState where
  | preparing
  | waiting
  | rolling
  | recording
  | closing
  deriving DecidableEq, Repr

/-- The abort causes (R164). -/
inductive AbortCause where
  | order
  | slip
  | referenceLost
  | linkFault
  | noRecorder
  | lateRoll
  deriving DecidableEq, Repr

/-- A group of the pass's group table (R149, R152, R154): `awaited` is a valid used group before resolution. -/
inductive GroupEntry where
  | unused
  | spilled
  | awaited
  | resolved (set : LinkSet) (mode : RouteMode) (safety : Bool)
  deriving DecidableEq, Repr

/-- The scene last recorded: its start (none for the no-scene frames), number and group (R149, R160). -/
structure RecScene where
  start : Option Int
  number : Nat
  group : Fin 16
  deriving DecidableEq, Repr

/-- The pass record (R149). -/
structure Pass where
  state : PassState
  inFrame : Int
  outFrame : Int
  preroll : Nat
  tcIn : PerLink Nat
  inIndex : Int
  rollIndex : Int
  endIndex : Int
  needed : LinkSet
  cuesIssued : Bool
  groups : Vector GroupEntry 16
  recording : LinkSet
  lastScene : Option RecScene
  lastIndex : Option Int
  cause : Option AbortCause
  deriving DecidableEq, Repr

/-! ### The journal writer and the report writer (10_the_exchange_area.md) -/

/-- The kinds of journal entry (Layouts, Journal entry). -/
inductive EntryKind where
  | passStart
  | passEnd
  | editIn
  | editOut
  | scene
  | spill
  | excursion
  | linkFault
  | slip
  | reference
  | light
  | wear
  deriving DecidableEq, Repr

/-- A staged journal entry (R179). -/
structure Entry where
  kind : EntryKind
  link : Option Link
  regained : Bool
  frame : Int
  field : BitVec 32
  timecode : Option Nat
  scene : Nat
  value1 : Int
  value2 : Int
  deriving DecidableEq, Repr

/-- The settings of SET JOURNAL (R181). -/
structure JournalSet where
  offset : Nat
  capacity : Nat
  threshold : Nat
  deriving DecidableEq, Repr

/-- The journal writer (R179 to R181). -/
structure Journal where
  setting : Option JournalSet
  fill : BitVec 16
  taken : BitVec 16
  lost : Nat
  lostFlag : Bool
  queue : List Entry
  deriving DecidableEq, Repr

/-- The settings of SET REPORTS (R182). -/
structure ReportSet where
  offset : Nat
  slots : Nat
  deriving DecidableEq, Repr

/-- A formed field report waiting for its write (R182): its slot, its offset and its 32 bytes. -/
structure FieldReport where
  slot : Nat
  offset : Nat
  bytes : BitVec 256
  deriving DecidableEq, Repr

/-- The report writer (R182). -/
structure Reports where
  setting : Option ReportSet
  lastSlot : Nat
  waiting : Option FieldReport
  deriving DecidableEq, Repr

/-! ### The exchange port (10_the_exchange_area.md) -/

/-- The outcome codes (R173). -/
inductive OutcomeCode where
  | ok
  | clamped
  | partially
  | badOrder
  | range
  | full
  | locked
  | protectedLook
  | chain
  | passActive
  | noPass
  | mode
  | notReady
  | busFault
  | aborted
  deriving DecidableEq, Repr

/-- What an order's owner gives back: outcome and detail count (R176). -/
structure Result where
  outcome : OutcomeCode
  detail : Nat
  deriving DecidableEq, Repr

/-- An order block as the walker read it (R173): where it lies, its link word, code, NOTIFY flag and its 20
parameter bytes, with bit 0 the lowest bit of byte 12. -/
structure OrderBlock where
  offset : BitVec 32
  link : BitVec 32
  code : BitVec 8
  notify : Bool
  params : BitVec 160
  deriving DecidableEq, Repr

/-- A LOAD SCENES under way (R18, R19). -/
structure LoadRun where
  offset : Nat
  count : Nat
  index : Nat
  refused : Nat
  firstRefused : Option Nat
  clamped : Bool
  deriving DecidableEq, Repr

/-- A READ SCENES under way (R20). -/
structure SceneRead where
  first : Int
  count : Nat
  offset : Nat
  written : Nat
  deriving DecidableEq, Repr

/-- A READ LOOKS under way (R38). -/
structure LookRead where
  first : Nat
  count : Nat
  offset : Nat
  written : Nat
  deriving DecidableEq, Repr

/-- How far an order in flight has got (R176): handed to its owner, waiting for a data access of its owner,
for the result-index write, or for its final write. -/
inductive Progress where
  | handed
  | fetchScene (offset : Nat)
  | fetchLoad (run : LoadRun)
  | slotScene (run : SceneRead)
  | fetchLook (index : Fin 64) (offset : Nat)
  | slotLook (run : LookRead)
  | resultIndex (index : Nat) (result : Result)
  | finishing (result : Result)
  deriving DecidableEq, Repr

/-- The order walker (R174 to R176). `halted` marks a write that was in progress when the part halted (R171). -/
inductive Walker where
  /-- no walk and no order in flight -/
  | idle
  /-- the read of the block at `offset`, after `count` blocks of this walk -/
  | reading (offset : BitVec 32) (count : Nat)
  /-- the TAKEN write of a POSTED block -/
  | taking (block : OrderBlock) (halted : Bool)
  /-- the ABORTED write of a block found TAKEN, after `count` blocks of this walk -/
  | closing (block : OrderBlock) (count : Nat) (halted : Bool)
  /-- the order in flight -/
  | flight (block : OrderBlock) (progress : Progress)
  /-- the ABORTED write of an order that a halt cut short -/
  | aborting (block : OrderBlock)
  deriving DecidableEq, Repr

/-- The field poll: which POLL access it waits for (R172). -/
inductive PollPhase where
  | idle
  | headerRead
  | headerWrite
  | linkRead
  deriving DecidableEq, Repr

/-- What a memory access is for (R172, R176, R177). A journal write says whether its entry leaves the queue and
whether fill advances on completion (R171, R181); a report write names its slot. -/
inductive AccessKind where
  | headerRead
  | headerWrite
  | linkRead
  | blockRead
  | takenWrite
  | abortedWrite
  | sceneFetch
  | loadFetch
  | lookFetch
  | sceneSlot
  | lookSlot
  | resultIndex
  | finalWrite
  | journal (pops advances : Bool)
  | report (slot : Nat)
  deriving DecidableEq, Repr

/-- What becomes of an access's result: `live`; `stale` when a halt, a newer poll or a newer SET REPORTS gave
up what it served (R171, R172, R182); `forgotten` when a reset did (R170). -/
inductive AccessStatus where
  | live
  | stale
  | forgotten
  deriving DecidableEq, Repr

/-- The access in progress (R178): its address and, for a write, the bytes it stores. -/
structure Access where
  kind : AccessKind
  address : Nat
  cells : List Host.Cell
  status : AccessStatus
  deriving DecidableEq, Repr

/-- The last reset (R169, IDENT). -/
inductive ResetKind where
  | power
  | board
  | soft
  deriving DecidableEq, Repr

/-- The halt cause (R169, CONTROL). -/
inductive HaltCause where
  | reset
  | order
  | bus
  deriving DecidableEq, Repr

/-- The four requesters of the memory arbiter (R178). -/
inductive Requester where
  | poll
  | journal
  | order
  | report
  deriving DecidableEq, Repr

/-- The holdoff of the notice line (R183), by what ends it. -/
inductive Holdoff where
  /-- no holdoff is in force -/
  | clear
  /-- in force until a field poll that begins after the ATTENTION write is complete; none has begun yet -/
  | nextPoll
  /-- in force until the field poll that has begun since the ATTENTION write is complete -/
  | thisPoll
  /-- in force until the next field event: started while HALTED, or the run state has changed since it started -/
  | nextField
  deriving DecidableEq, Repr

/-- The exchange port (R169 to R178, R183). `base` holds bits 16 to 31 of BASE. `lastHigh` and `lastLow` are the
members of the two classes granted last. -/
structure Port where
  resetKind : ResetKind
  base : BitVec 16
  running : Bool
  haltCause : HaltCause
  attention : BitVec 9
  mask : BitVec 9
  followPoint : BitVec 32
  finished : BitVec 32
  brokenNote : Option (BitVec 32)
  holdoff : Holdoff
  poll : PollPhase
  firstOrder : BitVec 32
  walker : Walker
  access : Option Access
  lastHigh : Requester
  lastLow : Requester
  deriving DecidableEq, Repr

/-! ### The machine -/

/-- The whole part. `area` holds the bytes of the controller's memory that the part has written, by address;
`freeIndex` counts the uses of free bits; `pending` is the queue of waiting commands. -/
structure State where
  pending : List Instr
  port : Port
  journal : Journal
  reports : Reports
  follower : Follower
  store : List Scene
  table : LookTable
  grade : FieldGrade
  picture : Picture
  light : Light
  level : Level
  routes : Vector Route 16
  links : PerLink LinkRec
  pass : Option Pass
  area : List Host.Cell
  freeIndex : Nat
  deriving DecidableEq, Repr

/-- The reasons to stop with a fault: there is none. The manual gives every command of the table an effect in
every state in which its event can come; a command whose event cannot come in the state at hand leaves the
state as it is (notes/assumptions/2.md). -/
inductive Fault where
  deriving DecidableEq, Repr

/-- The reasons to refuse a command. -/
inductive Refusal where
  /-- Raised by an arm of exec whose command has no meaning yet. Safe: nothing is claimed of the command. No arm
  raises it. -/
  | notModelled (mnemonic : String)
  deriving DecidableEq, Repr

/-! ### Reset values (power-on) -/

/-- A look never put since the last power-on reset (R24, R41). -/
def Look.fresh : Look := ⟨unityGrade, 0, 1, 0, 0⟩

/-- The look table after a power-on reset (R41). -/
def LookTable.reset : LookTable :=
  ⟨(Vector.replicate 64 Look.fresh).set 0 { Look.fresh with level := 0 }, 0⟩

/-- The record that stands before any field event (notes/assumptions/7.md). -/
def PosRecord.reset : PosRecord := ⟨0, 0, .first, .free, false, false, false⟩

/-- The follower after a power-on reset (R63). -/
def Follower.reset : Follower :=
  { perf := 0, standard := .s60, ppf := 4, mode := .free, origin := 0, div := 2, odd := 1, fields := 0,
    standIn := false, heldNote := false, lastParity := none, frameRef := false, record := PosRecord.reset }

/-- The halt grade, carrying a field number (R66). -/
def haltGrade (field : BitVec 32) : FieldGrade :=
  { field := field, grade := unityGrade, k := 4096, negative := false, rest := false, scene := 0 }

/-- The picture path after a power-on reset (R84, R86). -/
def Picture.reset : Picture :=
  { legalClip := true, defaultNegative := false, haltPassage := true, legalInForce := false,
    output := Rgb.same 64 }

/-- The light monitor after a power-on reset (R111). -/
def Light.reset : Light :=
  { floor := 400, blockSize := 16, target := 2048, restLimit := 3000, service := 0, blockCount := 0,
    blockSum := 0, k := 4096, lowRun := 0, lowReported := false, wear := 0, serviceArmed := true,
    restCount := 0, lastFrame := none, rest := false, restDue := false }

/-- The empty averaging block of the level monitor. -/
def LevelBlock.empty : LevelBlock := ⟨0, Rgb.same 0, Rgb.same 0⟩

/-- All six flags clear. -/
def AlertFlags.clear : AlertFlags := ⟨Rgb.same false, Rgb.same false⟩

/-- The level monitor after a power-on reset (R112, R127). -/
def Level.reset : Level :=
  { set := { high := Rgb.same 1023, low := Rgb.same 0, countLimit := 0, judge := .field, m := 1,
             flagMode := .follow, on := false },
    openMeas := none, last := none, block := LevelBlock.empty, flags := AlertFlags.clear, tally := none }

/-- The empty link set. -/
def noLinks : LinkSet := PerLink.same false

/-- A route entry that is not valid (R128). -/
def Route.invalid : Route := ⟨noLinks, .all, false, false⟩

/-- A link record after a power-on reset (R130, R148). -/
def LinkRec.reset : LinkRec :=
  { state := .down, cause := none, recorderCode := 0, owner := .none, held := false, requestedTc := 0,
    lockedMark := false, expectedTc := 0, timer := none, silence := 0, queue := [], framer := .hunting,
    wakeLimit := 120, cueLimit := 1800, closeLimit := 300, silenceLimit := 1800, watchdogLimit := 4,
    autoWake := true, downDue := false }

/-- The journal writer after every reset (R170). -/
def Journal.reset : Journal :=
  { setting := none, fill := 0, taken := 0, lost := 0, lostFlag := false, queue := [] }

/-- The report writer after every reset (R170). -/
def Reports.reset : Reports := { setting := none, lastSlot := Config.noReportSlot, waiting := none }

/-- The exchange port after a power-on reset (R170, R178). -/
def Port.reset : Port :=
  { resetKind := .power, base := 0, running := false, haltCause := .reset, attention := 0, mask := 0,
    followPoint := 0, finished := 0, brokenNote := none, holdoff := .clear, poll := .idle, firstOrder := 0,
    walker := .idle, access := none, lastHigh := .poll, lastLow := .order }

/-- The machine right after a power-on reset, with no command waiting. -/
def State.reset : State :=
  { pending := [], port := Port.reset, journal := Journal.reset, reports := Reports.reset,
    follower := Follower.reset, store := [], table := LookTable.reset, grade := haltGrade 0,
    picture := Picture.reset, light := Light.reset, level := Level.reset,
    routes := Vector.replicate 16 Route.invalid, links := PerLink.same LinkRec.reset, pass := none,
    area := [], freeIndex := 0 }

end Sys2Proof.Machine
end

