-- ==== Sys2Proof/Machine/Layout.lean ====
section
/-!
DEFINITION. Machine/Layout.lean: the layouts that software and the recorders see (Layouts, in
10_the_exchange_area.md): bit fields, the scene, look, journal and report records, and the six-byte
link message with the framer's judgement of it.
-/
namespace Sys2Proof.Machine

/-! ### Bit fields -/

/-- The `len` bits of `w` from bit `pos` up (Layouts: a field's lowest bit is its first bit). -/
def bitsOf (w pos len : Nat) : Nat := (w >>> pos) % 2 ^ len

/-- The same bits as a two's complement number (Layouts). -/
def signedOf (w pos len : Nat) : Int :=
  let v := bitsOf w pos len
  if 2 ^ (len - 1) ≤ v then (v : Int) - 2 ^ len else v

/-- A value put into the `len` bits from bit `pos` up, negative values in two's complement. -/
def place (pos len : Nat) (v : Int) : Nat := (v % 2 ^ len).toNat <<< pos

/-- A flag as a number. -/
def bit (b : Bool) : Nat := if b then 1 else 0

/-- The `n` bytes of `w` at addresses from `address` up, low byte first (Layouts: little-endian). -/
def cellsOf (address n w : Nat) : List Host.Cell :=
  (List.range n).map fun i => (address + i, BitVec.ofNat 8 (w >>> (8 * i)))

/-! ### Scene records -/

/-- The fields of a fetched scene record before any check (Layouts, Scene record). -/
structure RawScene where
  start : Int
  number : Nat
  look : Nat
  keyCount : Nat
  dissolve : Bool
  length : Nat
  group : Nat
  negative : Bool
  own : Grade
  keys : List TrimKey
  deriving DecidableEq, Repr

/-- Trim key `k` of a scene record (Layouts, Scene record). -/
def decodeKey (w k : Nat) : TrimKey :=
  { offset := bitsOf w (174 + 49 * k) 16,
    trim := ⟨signedOf w (190 + 49 * k) 11, signedOf w (201 + 49 * k) 11, signedOf w (212 + 49 * k) 11⟩ }

/-- Read a scene record (Layouts, Scene record). LOCKED and the statistics part are not read (R1, R7). -/
def decodeScene (record : BitVec 512) : RawScene :=
  let w := record.toNat
  { start := signedOf w 0 21, look := bitsOf w 21 7, keyCount := bitsOf w 28 3,
    dissolve := bitsOf w 31 1 == 1, number := bitsOf w 32 16, length := bitsOf w 48 8,
    group := bitsOf w 56 4, negative := bitsOf w 60 1 == 1,
    own :=
      { lift := ⟨signedOf w 64 10, signedOf w 74 10, signedOf w 84 10⟩,
        gain := ⟨bitsOf w 94 13, bitsOf w 107 13, bitsOf w 120 13⟩,
        mid := ⟨bitsOf w 133 10, bitsOf w 143 10, bitsOf w 153 10⟩,
        sat := bitsOf w 163 11 },
    keys := (List.range 4).map (decodeKey w) }

/-- A grade's bits in a scene record. -/
def encodeOwn (g : Grade) : Nat :=
  place 64 10 g.lift.r + place 74 10 g.lift.g + place 84 10 g.lift.b
    + place 94 13 g.gain.r + place 107 13 g.gain.g + place 120 13 g.gain.b
    + place 133 10 g.mid.r + place 143 10 g.mid.g + place 153 10 g.mid.b + place 163 11 g.sat

/-- A trim key's bits at place `k`. -/
def encodeKey (k : Nat) (t : TrimKey) : Nat :=
  place (174 + 49 * k) 16 t.offset + place (190 + 49 * k) 11 t.trim.r
    + place (201 + 49 * k) 11 t.trim.g + place (212 + 49 * k) 11 t.trim.b

/-- The bits of the stored keys from place `k` on; the manual names nothing for the places beyond the key count, whose
bits come from `free` (notes/assumptions/5.md). -/
def encodeKeys (free : Nat) : Nat → List TrimKey → Nat → Nat
  | 0, _, _ => 0
  | n + 1, [], k => place (174 + 49 * k) 49 (bitsOf free (49 * k) 49) + encodeKeys free n [] (k + 1)
  | n + 1, t :: ts, k => encodeKey k t + encodeKeys free n ts (k + 1)

/-- The statistics part's bits, with its present mark and excursion flag; all 0 when it is absent (R21). -/
def encodeStats (start : Int) : Option Stats → Nat
  | none => 0
  | some t =>
    place 62 1 1 + place 63 1 (bit t.excursion) + place 370 20 (t.frame - start) + place 390 32 t.field.toNat
      + place 422 10 t.min.r + place 432 10 t.min.g + place 442 10 t.min.b
      + place 452 10 t.max.r + place 462 10 t.max.g + place 472 10 t.max.b
      + place 482 10 t.mean.r + place 492 10 t.mean.g + place 502 10 t.mean.b

/-- The dissolve length as a record holds it; a CUT is stored with length 0 (R7). -/
def Transition.length : Transition → Nat
  | .cut => 0
  | .dissolve n => n

/-- Whether a transition is a DISSOLVE. -/
def Transition.dissolves : Transition → Bool
  | .cut => false
  | .dissolve _ => true

/-- A scene record as READ SCENES writes it (R21; Layouts, Scene record). -/
def encodeScene (s : Scene) (free : BitVec 512) : Nat :=
  place 0 21 s.start + place 21 7 s.look.val + place 28 3 s.keys.length
    + place 31 1 (bit s.transition.dissolves) + place 32 16 s.number + place 48 8 s.transition.length
    + place 56 4 s.group.val + place 60 1 (bit s.negative) + place 61 1 (bit s.locked)
    + encodeOwn s.own + encodeKeys free.toNat 4 s.keys 0 + encodeStats s.start s.stats

/-! ### Look records -/

/-- The grade of a fetched look record (Layouts, Look record: bytes 8 to 27, signed). -/
def decodeLookGrade (w : Nat) : Grade :=
  { lift := ⟨signedOf w 64 16, signedOf w 80 16, signedOf w 96 16⟩,
    gain := ⟨signedOf w 112 16, signedOf w 128 16, signedOf w 144 16⟩,
    mid := ⟨signedOf w 160 16, signedOf w 176 16, signedOf w 192 16⟩,
    sat := signedOf w 208 16 }

/-- The parent byte of a fetched look record (Layouts, Look record). -/
def decodeLookParent (w : Nat) : Nat := bitsOf w 0 8

/-- A look record as READ LOOKS writes it (Layouts, Look record). Bits 25 to 31 and bytes 6 and 7, which the layout does
not name, come from `free` (notes/assumptions/5.md). -/
def encodeLook (g : Grade) (parent level children locks : Nat) (withheld : Bool) (free : BitVec 512) : Nat :=
  place 0 8 parent + place 8 8 level + place 16 8 children + place 24 1 (bit withheld)
    + place 25 7 (bitsOf free.toNat 0 7) + place 32 16 locks + place 48 16 (bitsOf free.toNat 7 16)
    + place 64 16 g.lift.r + place 80 16 g.lift.g + place 96 16 g.lift.b
    + place 112 16 g.gain.r + place 128 16 g.gain.g + place 144 16 g.gain.b
    + place 160 16 g.mid.r + place 176 16 g.mid.g + place 192 16 g.mid.b + place 208 16 g.sat

/-! ### Journal entries and field reports -/

/-- The number of an entry kind (Layouts, Journal entry). -/
def EntryKind.number : EntryKind → Nat
  | .passStart => 1
  | .passEnd => 2
  | .editIn => 3
  | .editOut => 4
  | .scene => 5
  | .spill => 6
  | .excursion => 7
  | .linkFault => 8
  | .slip => 9
  | .reference => 10
  | .light => 11
  | .wear => 12

/-- The link code: A 1, B 2, C 4 (R149; Layouts). -/
def linkCode : Link → Nat
  | .a => 1
  | .b => 2
  | .c => 4

/-- The code of a set of links (R149). -/
def setCode (x : LinkSet) : Nat := bit x.a + 2 * bit x.b + 4 * bit x.c

/-- A journal entry's 32 bytes under the fill mark `seq` (Layouts, Journal entry). The flag bits that the layout does not
name come from `free` (notes/assumptions/5.md). -/
def encodeEntry (e : Entry) (seq : Nat) (free : BitVec 512) : Nat :=
  place 0 8 e.kind.number + place 8 8 ((e.link.map linkCode).getD 0)
    + place 16 1 (bit e.timecode.isSome) + place 17 1 (bit e.regained) + place 18 14 (bitsOf free.toNat 0 14)
    + place 32 32 e.frame + place 64 32 e.field.toNat + place 96 32 (e.timecode.getD 0)
    + place 128 16 e.scene + place 144 16 seq + place 160 32 e.value1 + place 192 32 e.value2

/-- The follow mode's number (Layouts, Header). -/
def FieldMode.number : FieldMode → Nat
  | .free => 0
  | .seeking => 1
  | .locked _ _ => 2

/-- The parity bit of a field report: 1 for SECOND (Layouts, Field report). -/
def parityBit : Parity → Nat
  | .first => 0
  | .second => 1

/-- A field report's 32 bytes (Layouts, Field report) from the position record, the grade in force and the measured
mean and maximum of each channel. -/
def encodeReport (r : PosRecord) (g : FieldGrade) (mean max : Rgb Int) : BitVec 256 :=
  BitVec.ofNat 256
    (place 0 32 r.field.toNat + place 32 24 r.frame + place 56 1 (parityBit r.parity) + place 57 2 r.mode.number
      + place 59 1 (bit r.limit) + place 60 1 (bit r.slip) + place 61 1 (bit r.unlocked)
      + place 62 1 (bit g.rest) + place 63 1 (bit g.negative) + place 64 16 g.scene
      + place 80 12 g.grade.gain.r + place 92 12 g.grade.gain.g + place 104 12 g.grade.gain.b
      + place 116 10 g.grade.lift.r + place 126 10 g.grade.mid.r + place 136 11 g.grade.sat + place 147 13 g.k
      + place 160 16 mean.r + place 176 16 mean.g + place 192 16 mean.b
      + place 208 16 max.r + place 224 16 max.g + place 240 16 max.b)

/-! ### Outcomes, states and orders -/

/-- The outcome codes (Layouts, Order block). -/
def OutcomeCode.number : OutcomeCode → Nat
  | .ok => 0
  | .clamped => 1
  | .partially => 2
  | .badOrder => 3
  | .range => 4
  | .full => 5
  | .locked => 6
  | .protectedLook => 7
  | .chain => 8
  | .passActive => 9
  | .noPass => 10
  | .mode => 11
  | .notReady => 12
  | .busFault => 13
  | .aborted => 14

/-- The block state that an outcome leaves: DONE 3, REFUSED 4 or ABORTED 5 (R173). -/
def OutcomeCode.blockState : OutcomeCode → Nat
  | .ok => 3
  | .clamped => 3
  | .partially => 3
  | .aborted => 5
  | .badOrder => 4
  | .range => 4
  | .full => 4
  | .locked => 4
  | .protectedLook => 4
  | .chain => 4
  | .passActive => 4
  | .noPass => 4
  | .mode => 4
  | .notReady => 4
  | .busFault => 4

/-- The order codes that have an owner (Layouts, Order block). -/
def knownCodes : List (BitVec 8) :=
  [1, 2, 3, 4, 5, 6, 7, 16, 17, 18, 19, 32, 33, 34, 40, 48, 56, 57, 64, 65, 66, 67, 80, 81, 96, 97, 98]

/-- An order block read at `offset` (R173; Layouts, Order block). -/
def decodeBlock (offset : BitVec 32) (block : BitVec 256) : OrderBlock :=
  let w := block.toNat
  { offset := offset, link := BitVec.ofNat 32 w, code := BitVec.ofNat 8 (w >>> 32),
    notify := bitsOf w 40 1 == 1, params := BitVec.ofNat 160 (w >>> 96) }

/-- The state word of a block as read (Layouts, Order block, bytes 6 and 7). -/
def blockStateOf (block : BitVec 256) : Nat := bitsOf block.toNat 48 16

/-! ### Link messages -/

/-- The report kinds (R131). -/
inductive ReportKind where
  | awake
  | cued
  | locked
  | written
  | done
  | trouble
  deriving DecidableEq, Repr

/-- A report's kind byte (Layouts, Link message). -/
def ReportKind.code : ReportKind → BitVec 8
  | .awake => 17
  | .cued => 18
  | .locked => 19
  | .written => 20
  | .done => 21
  | .trouble => 22

/-- The report that a kind byte names, if it names one (R133). -/
def reportOfCode (kind : BitVec 8) : Option ReportKind :=
  if kind = 17 then some .awake
  else if kind = 18 then some .cued
  else if kind = 19 then some .locked
  else if kind = 20 then some .written
  else if kind = 21 then some .done
  else if kind = 22 then some .trouble
  else none

/-- Timecodes in 24 hours at a field standard (00_scope.md, Field standards). -/
def tcRange : Standard → Nat
  | .s50 => 2160000
  | .s60 => 2592000

/-- The sum byte of a message (R131): the low 8 bits of the sum of the five bytes before it. -/
def messageSum (kind : BitVec 8) (value : BitVec 24) : BitVec 8 :=
  Config.startByte + kind + BitVec.ofNat 8 value.toNat + BitVec.ofNat 8 (value.toNat >>> 8)
    + BitVec.ofNat 8 (value.toNat >>> 16)

/-- Whether a report's value passes the framer at a field standard (R133). -/
def valuePasses (std : Standard) (kind : ReportKind) (value : BitVec 24) : Bool :=
  match kind with
  | .awake => value.toNat ≤ 1
  | .cued => value.toNat < tcRange std
  | .locked => value.toNat < tcRange std
  | .written => value.toNat < tcRange std
  | .done => true
  | .trouble => value.toNat ≤ 65535

/-- The framer's judgement of a completed frame (R133): the report it is, or none when it is discarded. -/
def judgeFrame (std : Standard) (kind : BitVec 8) (value : BitVec 24) (sum : BitVec 8) : Option ReportKind :=
  if sum ≠ messageSum kind value then none
  else (reportOfCode kind).filter fun k => valuePasses std k value

/-- The bytes of a message after its start byte, in the order in which the line brings them: kind, value, sum (R131; Layouts,
Link message). -/
def messageBytes (kind : BitVec 8) (value : BitVec 24) (sum : BitVec 8) : List Byte :=
  [kind, value.extractLsb' 0 8, value.extractLsb' 8 8, value.extractLsb' 16 8, sum]

/-- A directive's kind byte (Layouts, Link message). -/
def Directive.code : Directive → BitVec 8
  | .wake => 1
  | .cue _ => 2
  | .roll => 3
  | .recordIn => 4
  | .out => 5
  | .standby => 6

/-- A directive's value: the timecode of a CUE, else 0 (R131). -/
def Directive.value : Directive → BitVec 24
  | .cue tc => BitVec.ofNat 24 tc
  | .wake => 0
  | .roll => 0
  | .recordIn => 0
  | .out => 0
  | .standby => 0

/-- The six bytes of a directive on the line, the start byte lowest (R131; Layouts, Link message). -/
def Directive.message (d : Directive) : BitVec 48 :=
  messageSum d.code d.value ++ d.value ++ d.code ++ Config.startByte

end Sys2Proof.Machine
end

