-- ==== Sys2Proof/Machine/Flags.lean ====
section
/-!
DEFINITION. Machine/Flags.lean: every flag and status word the manual computes: the attention causes and the
notice line, the alert flag code, the header status, what the five registers read, and the output lines.
-/
namespace Sys2Proof.Machine

/-- The nine attention causes (R183), in the bit order of ATTENTION (Layouts, Registers). -/
inductive Cause where
  | order
  | journal
  | pass
  | link
  | alert
  | tube
  | chain
  | bus
  | reference
  deriving DecidableEq, Repr

/-- A cause's bit in ATTENTION and NOTICE MASK (Layouts, Registers). -/
def Cause.bitIndex : Cause → Nat
  | .order => 0
  | .journal => 1
  | .pass => 2
  | .link => 3
  | .alert => 4
  | .tube => 5
  | .chain => 6
  | .bus => 7
  | .reference => 8

/-- The word with one cause's bit set. -/
def Cause.word (c : Cause) : BitVec 9 := 1#9 <<< c.bitIndex

/-- Whether a cause is pending (R183). -/
def isPending (c : Cause) (s : State) : Bool := s.port.attention.getLsbD c.bitIndex

/-- The notice line (R183): some pending cause is enabled and no holdoff is in force. -/
def noticeLine (s : State) : Bool := s.port.holdoff == .clear && (s.port.attention &&& s.port.mask) != 0

/-- The flag code (R112): weights 1, 2, 4 for HIGH and 8, 16, 32 for LOW of R, G, B. -/
def AlertFlags.code (f : AlertFlags) : Nat :=
  bit f.high.r + 2 * bit f.high.g + 4 * bit f.high.b + 8 * bit f.low.r + 16 * bit f.low.g + 32 * bit f.low.b

/-- The flags whose weight is part of a code (R125). -/
def flagsOfCode (v : Nat) : AlertFlags :=
  ⟨⟨bitsOf v 0 1 == 1, bitsOf v 1 1 == 1, bitsOf v 2 1 == 1⟩,
    ⟨bitsOf v 3 1 == 1, bitsOf v 4 1 == 1, bitsOf v 5 1 == 1⟩⟩

/-- A function of two sets of flags, flag by flag. -/
def AlertFlags.zip (f : Bool → Bool → Bool) (x y : AlertFlags) : AlertFlags :=
  ⟨x.high.zip f y.high, x.low.zip f y.low⟩

/-- Whether any flag is set. -/
def AlertFlags.any (f : AlertFlags) : Bool := f != AlertFlags.clear

/-- The pass state's number; 0 for no pass (R149). -/
def PassState.number : PassState → Nat
  | .preparing => 1
  | .waiting => 2
  | .rolling => 3
  | .recording => 4
  | .closing => 5

/-- The pass state as published (R149). -/
def publishedPass (s : State) : Option PassState := s.pass.map Pass.state

/-- The number of the published pass state (R149). -/
def passNumber (s : State) : Nat := ((publishedPass s).map PassState.number).getD 0

/-- A link state's number (R130). -/
def LinkState.number : LinkState → Nat
  | .down => 0
  | .waking => 1
  | .idle => 2
  | .cueing => 3
  | .armed => 4
  | .rolling => 5
  | .recording => 6
  | .closing => 7
  | .fault => 8

/-- A fault cause's number (R130). -/
def FaultCause.number : FaultCause → Nat
  | .noTape => 1
  | .noAnswer => 2
  | .cueMismatch => 3
  | .timecode => 4
  | .stall => 5
  | .notLocked => 6
  | .trouble => 7
  | .overrun => 8

/-- An abort cause's number (R164). -/
def AbortCause.number : AbortCause → Nat
  | .order => 1
  | .slip => 2
  | .referenceLost => 3
  | .linkFault => 4
  | .noRecorder => 5
  | .lateRoll => 6

/-- WEAR_SATURATED (R104): the accumulator stands at its top. -/
def wearSaturated (s : State) : Bool := s.light.wear == Config.wearTop

/-- The header status word (Layouts, Header); the follow mode is that of the latest position record (R59). Bits 9 to 31,
which the layout does not name, come from `free` (notes/assumptions/5.md). -/
def statusWord (s : State) (free : BitVec 512) : Nat :=
  place 0 1 (bit s.port.running) + place 1 3 (passNumber s) + place 4 2 s.follower.record.mode.number
    + place 6 1 (bit s.light.rest) + place 7 1 (bit (wearSaturated s)) + place 8 1 (bit s.journal.lostFlag)
    + place 9 23 (bitsOf free.toNat 0 23)

/-! ### What the registers read (R169; Layouts, Registers) -/

/-- A reset kind's code in IDENT. -/
def ResetKind.code : ResetKind → Nat
  | .power => 1
  | .board => 2
  | .soft => 3

/-- A halt cause's code in CONTROL. -/
def HaltCause.code : HaltCause → Nat
  | .reset => 0
  | .order => 1
  | .bus => 2

/-- The bits of `unnamedRegisterBits` at a register's offset that lie in `mask`. -/
def unnamed (offset : Nat) (mask : BitVec 32) : BitVec 32 := Config.unnamedRegisterBits offset &&& mask

/-- IDENT, at offset 0. -/
def readIdent (s : State) : BitVec 32 :=
  BitVec.ofNat 32 (340 + place 16 8 Config.revision + place 24 2 s.port.resetKind.code) ||| unnamed 0 0xFC000000

/-- BASE, at offset 4: the low 16 bits read 0 (R169). -/
def readBase (s : State) : BitVec 32 := s.port.base ++ 0#16

/-- NOTICE MASK, at offset 16. -/
def readNoticeMask (s : State) : BitVec 32 := s.port.mask.zeroExtend 32 ||| unnamed 16 0xFFFFFE00

/-- ATTENTION, at offset 12. -/
def readAttention (s : State) : BitVec 32 := s.port.attention.zeroExtend 32 ||| unnamed 12 0xFFFFFE00

/-! ### Output lines

The picture output is `picture.output`. -/

/-- The beam-dim output (R99): on while REST is set. -/
def beamDim (s : State) : Bool := s.light.rest

/-- The frame-reference output (R56): pulsed at the latest field event. -/
def frameReference (s : State) : Bool := s.follower.frameRef

/-- The six bytes on a link's line: those of its oldest directive, or none while the line is idle (R132). -/
def lineMessage (l : Link) (s : State) : Option (BitVec 48) := (s.links.get l).queue.head?.map Directive.message

end Sys2Proof.Machine
end

