-- ==== Sys2Proof/Machine/Operands.lean ====
section
/-!
DEFINITION. Machine/Operands.lean: the parameters of every order, read from the 20 parameter bytes of its
block as the order table of 10_the_exchange_area.md places them.
-/
namespace Sys2Proof.Machine

/-- `n` parameter bytes from byte `k` of the block (k is 12 to 31), little-endian. -/
def param (b : OrderBlock) (k n : Nat) : Nat := bitsOf b.params.toNat (8 * (k - 12)) (8 * n)

/-- A frame parameter: 4 bytes signed. -/
def paramFrame (b : OrderBlock) (k : Nat) : Int := signedOf b.params.toNat (8 * (k - 12)) 32

/-- A flag-like code (Layouts): 0 for the first named value, 1 for the second, any other none. -/
def flagCode (v : Nat) : Option Bool :=
  if v = 0 then some false else if v = 1 then some true else none

/-- A mark (Layouts): clear for 0 and set otherwise. -/
def markOf (v : Nat) : Bool := v != 0

/-- A link code (Layouts): A 1, B 2, C 4. -/
def linkOfCode (v : Nat) : Option Link :=
  if v = 1 then some .a else if v = 2 then some .b else if v = 4 then some .c else none

/-- A span of `len` bytes from `offset` is 32-byte aligned and lies in the exchange window (R12, R17, R20, R31, R38). -/
def inWindow (offset len : Nat) : Bool := offset % 32 == 0 && offset + len ≤ Config.windowSize

/-- A frame lies in the film's range (00_scope.md). -/
def isFrame (f : Int) : Bool := Config.frameMin ≤ f && f ≤ Config.frameMax

/-- The block sizes 1, 2, 4, 8, 16, 32 and 64 (R109, R124). -/
def isBlockSize (n : Nat) : Bool := [1, 2, 4, 8, 16, 32, 64].contains n

/-- The parameters of SET LIGHT. -/
structure LightArgs where
  floor : Nat
  blockSize : Nat
  target : Nat
  restLimit : Nat
  service : Nat
  load : Option Nat
  deriving DecidableEq, Repr

/-- SET LIGHT's parameters (code 48). -/
def lightArgs (b : OrderBlock) : LightArgs :=
  { floor := param b 12 2, blockSize := param b 14 1, target := param b 16 2, restLimit := param b 18 2,
    service := param b 20 5, load := if markOf (param b 25 1) then some (param b 26 5) else none }

/-- The checks of R109. -/
def LightArgs.inRange (a : LightArgs) : Bool :=
  1 ≤ a.floor && a.floor ≤ 4094 && isBlockSize a.blockSize && 256 ≤ a.target && a.target ≤ 4095
    && a.service ≤ Config.wearTop && a.load.getD 0 ≤ Config.wearTop

/-- SET MONITOR's parameters (code 56), none when a flag-like code names no value (R124). -/
def monitorArgs (b : OrderBlock) : Option LevelSettings := do
  let averaged ← flagCode (param b 26 1)
  let latch ← flagCode (param b 28 1)
  let on ← flagCode (param b 29 1)
  some
    { high := ⟨param b 12 2, param b 14 2, param b 16 2⟩, low := ⟨param b 18 2, param b 20 2, param b 22 2⟩,
      countLimit := param b 24 2, judge := if averaged then .averaged else .field, m := param b 27 1,
      flagMode := if latch then .latch else .follow, on := on }

/-- The limit and block-size checks of R124. -/
def LevelSettings.inRange (a : LevelSettings) : Bool :=
  a.high.r ≤ 1023 && a.high.g ≤ 1023 && a.high.b ≤ 1023
    && 0 ≤ a.low.r && 0 ≤ a.low.g && 0 ≤ a.low.b
    && a.low.r ≤ a.high.r && a.low.g ≤ a.high.g && a.low.b ≤ a.high.b && isBlockSize a.m

/-- The parameters of SET ROUTE. -/
structure RouteArgs where
  group : Nat
  dest : LinkSet
  mode : Option RouteMode
  safety : Bool
  valid : Bool
  deriving DecidableEq, Repr

/-- A set of links by its bits, bit 0 for A (R149; Layouts: bits 3 to 7 are ignored). -/
def setOfCode (v : Nat) : LinkSet := ⟨bitsOf v 0 1 == 1, bitsOf v 1 1 == 1, bitsOf v 2 1 == 1⟩

/-- SET ROUTE's parameters (code 64). -/
def routeArgs (b : OrderBlock) : RouteArgs :=
  { group := param b 12 1, dest := setOfCode (param b 13 1),
    mode := (flagCode (param b 14 1)).map fun any => if any then .any else .all,
    safety := markOf (param b 15 1), valid := markOf (param b 16 1) }

/-- The parameters of SET LINK. -/
structure LinkArgs where
  link : Option Link
  autoWake : Option Bool
  wakeLimit : Nat
  cueLimit : Nat
  closeLimit : Nat
  silenceLimit : Nat
  watchdogLimit : Nat
  deriving DecidableEq, Repr

/-- SET LINK's parameters (code 65). -/
def linkArgs (b : OrderBlock) : LinkArgs :=
  { link := linkOfCode (param b 12 1), autoWake := flagCode (param b 13 1), wakeLimit := param b 14 2,
    cueLimit := param b 16 2, closeLimit := param b 18 2, silenceLimit := param b 20 2,
    watchdogLimit := param b 22 1 }

/-- The limit checks of R143. -/
def LinkArgs.inRange (a : LinkArgs) : Bool :=
  1 ≤ a.wakeLimit && 1 ≤ a.cueLimit && 1 ≤ a.closeLimit && 1 ≤ a.watchdogLimit && a.watchdogLimit ≤ 15

/-- The parameters of START PASS. -/
structure PassArgs where
  inFrame : Int
  outFrame : Int
  preroll : Nat
  tcIn : PerLink Nat
  deriving DecidableEq, Repr

/-- START PASS's parameters (code 80). -/
def passArgs (b : OrderBlock) : PassArgs :=
  { inFrame := paramFrame b 12, outFrame := paramFrame b 16, preroll := param b 20 2,
    tcIn := ⟨param b 22 3, param b 25 3, param b 28 3⟩ }

/-- The range check of R150 at a field standard. -/
def PassArgs.inRange (a : PassArgs) (std : Standard) : Bool :=
  Config.frameMin ≤ a.inFrame && a.inFrame ≤ 999998 && a.inFrame ≤ a.outFrame && a.outFrame ≤ 999998
    && 30 ≤ a.preroll && a.preroll ≤ 600
    && a.tcIn.a < tcRange std && a.tcIn.b < tcRange std && a.tcIn.c < tcRange std

/-- SET JOURNAL's parameters (code 96). -/
def journalArgs (b : OrderBlock) : JournalSet :=
  { offset := param b 12 4, capacity := param b 16 2, threshold := param b 18 2 }

/-- The checks of R181 after the pass check. -/
def JournalSet.inRange (a : JournalSet) : Bool :=
  [16, 32, 64, 128, 256, 512, 1024, 2048, 4096].contains a.capacity && 1 ≤ a.threshold && a.threshold ≤ a.capacity
    && a.offset % 32 == 0 && 64 ≤ a.offset && a.offset + 32 * a.capacity ≤ Config.windowSize

/-- SET REPORTS' offset and slot count (code 97). -/
def reportArgs (b : OrderBlock) : ReportSet := { offset := param b 12 4, slots := param b 16 1 }

/-- The checks of R182 for turning reports on. -/
def ReportSet.inRange (a : ReportSet) : Bool :=
  2 ≤ a.slots && a.slots ≤ 64 && a.offset % 32 == 0 && 64 ≤ a.offset
    && a.offset + 32 * a.slots ≤ Config.windowSize

end Sys2Proof.Machine
end

