-- ==== Sys2Proof/Machine/Ops.lean ====
section
/-!
DEFINITION. Machine/Ops.lean: the named operations that the blocks share: the written part of the exchange area,
raising an attention cause, offering a journal entry, and handing an order's result back.
-/
namespace Sys2Proof.Machine

/-! ### The exchange area as the part has written it

The area is the controller's memory. State lists the bytes that the part has stored, by address, addresses strictly
rising; an address that is not listed holds what the controller keeps there, which the part does not know. -/

/-- The byte the part has written at an address, if it has written one. -/
def Memory.read : List Host.Cell → Nat → Option Byte
  | [], _ => none
  | (b, v) :: rest, a => if a = b then some v else Memory.read rest a

/-- Store one byte. -/
def Memory.put (a : Nat) (v : Byte) : List Host.Cell → List Host.Cell
  | [] => [(a, v)]
  | (b, w) :: rest =>
    if a < b then (a, v) :: (b, w) :: rest
    else if a = b then (a, v) :: rest
    else (b, w) :: Memory.put a v rest

/-- Store the bytes of one access. -/
def Memory.write (cells m : List Host.Cell) : List Host.Cell := cells.foldl (fun m c => Memory.put c.1 c.2 m) m

/-- The canonical form: every address lies above the ones before it. -/
def Memory.wf : List Host.Cell → Bool
  | [] => true
  | (a, _) :: rest => rest.all (fun c => a < c.1) && Memory.wf rest

/-- The controller address of an offset of the exchange area (00_scope.md, Exchange offsets; R169, BASE). -/
def areaAddress (s : State) (offset : Nat) : Nat := s.port.base.toNat * 65536 + offset

/-! ### Attention and journal -/

/-- Raise an attention cause: it becomes pending, whatever NOTICE MASK holds (R183). -/
def raise (c : Cause) (s : State) : State :=
  { s with port := { s.port with attention := s.port.attention ||| c.word } }

/-- Offer an entry to the staging queue (R179). -/
def offer (e : Entry) (s : State) : State :=
  if s.journal.setting.isNone then s
  else if s.journal.queue.length < Config.stagingCapacity then
    { s with journal := { s.journal with queue := s.journal.queue ++ [e] } }
  else
    { s with journal := { s.journal with lost := min Config.countTop (s.journal.lost + 1), lostFlag := true } }

/-- An entry filled as R179 fills the fields that its rule does not name, with the field number and film frame of the
position record latest published. -/
def entryNow (kind : EntryKind) (s : State) : Entry :=
  { kind := kind, link := none, regained := false, frame := s.follower.record.frame,
    field := s.follower.record.field, timecode := none, scene := 0, value1 := 0, value2 := 0 }

/-- Unread entries: (fill - taken) mod 65,536 (R180). -/
def unread (j : Journal) : Nat := (j.fill - j.taken).toNat

/-- There is room in the journal (R180); an invalid taken mark counts as no room. -/
def journalRoom (j : Journal) : Bool :=
  match j.setting with
  | none => false
  | some x => unread j < x.capacity

/-! ### Orders -/

/-- The order in flight that its owner has still to take, when its code is the given one (R176). -/
def handedOrder (code : BitVec 8) (s : State) : Option OrderBlock :=
  match s.port.walker with
  | .flight b .handed => if b.code = code then some b else none
  | .flight _ (.fetchScene _) => none
  | .flight _ (.fetchLoad _) => none
  | .flight _ (.slotScene _) => none
  | .flight _ (.fetchLook _ _) => none
  | .flight _ (.slotLook _) => none
  | .flight _ (.resultIndex _ _) => none
  | .flight _ (.finishing _) => none
  | .idle => none
  | .reading _ _ => none
  | .taking _ _ => none
  | .closing _ _ _ => none
  | .aborting _ => none

/-- Take the order handed over under a code; with no such order the command is no event of the part and changes nothing
(notes/assumptions/2.md). -/
def withOrder (code : BitVec 8) (s : State) (take : OrderBlock → State) : State :=
  match handedOrder code s with
  | none => s
  | some b => take b

/-- Where the walker stands. -/
def setWalker (w : Walker) (s : State) : State := { s with port := { s.port with walker := w } }

/-- The order in flight goes on to another step of its owner. -/
def proceed (b : OrderBlock) (p : Progress) (s : State) : State := setWalker (.flight b p) s

/-- The owner's result is to be written back (R176, Finishing). -/
def finish (b : OrderBlock) (outcome : OutcomeCode) (detail : Nat) (s : State) : State :=
  proceed b (.finishing ⟨outcome, detail⟩) s

/-- A pass exists (R149). -/
def passExists (s : State) : Bool := s.pass.isSome

/-! ### The picture output -/

/-- Code 64 on every component of the output, as outside the active picture (R87). Which commands show that the picture is
not active, and that the output keeps a triple's codes up to the first of them, is the model's choice
(notes/assumptions/15.md). -/
def blankOutput (s : State) : State := { s with picture := { s.picture with output := Rgb.same 64 } }

/-! ### Counts and timecodes -/

/-- Fields since a noted field number, modulo 2^32 (R135). -/
def fieldsSince (now noted : BitVec 32) : Nat := (now - noted).toNat

/-- A timecode some video frames on, with the 24-hour wrap (00_scope.md, Field standards). -/
def tcAdd (std : Standard) (tc : Nat) (n : Int) : Nat := (((tc : Int) + n) % (tcRange std : Int)).toNat

/-- A count one higher, holding at 65,535. -/
def saturate (n : Nat) : Nat := min Config.countTop (n + 1)

end Sys2Proof.Machine
end

