-- ==== Sys2Proof/Machine/Follower.lean ====
section
/-!
DEFINITION. Machine/Follower.lean: the transport follower (03_film_position_and_cadence.md): the perf counter, the
cadence map, following at a field event, and the reference watch.
-/
namespace Sys2Proof.Machine

/-- The lower limit of the perf counter (R42). -/
def perfMin (f : Follower) : Int := Config.frameMin * f.ppf

/-- The upper limit of the perf counter (R42). -/
def perfMax (f : Follower) : Int := 1000000 * f.ppf - 1

/-- A perf event (R42). -/
def countPerf (d : Direction) (f : Follower) : Follower :=
  match d with
  | .forward => if f.perf = perfMax f then { f with heldNote := true } else { f with perf := f.perf + 1 }
  | .reverse => if f.perf = perfMin f then { f with heldNote := true } else { f with perf := f.perf - 1 }

/-- The tach frame: P / PPF, rounded down (R43). -/
def tachFrame (f : Follower) : Int := f.perf / f.ppf

/-- Fields that a pair of frames takes (The cadence map). -/
def pairFields (f : Follower) : Int := 2 * f.div + f.odd

/-- The pair index q of a frame (R48). -/
def pairIndex (f : Follower) (frame : Int) : Int := (frame - f.origin) / 2

/-- The position j of a frame in its pair (R48). -/
def pairPlace (f : Follower) (frame : Int) : Int := frame - f.origin - 2 * pairIndex f frame

/-- The field count of a frame (R48). -/
def fieldCount (f : Follower) (frame : Int) : Nat := if pairPlace f frame = 0 then f.div else f.div + f.odd

/-- The start index s of a frame (R48). -/
def startIndex (f : Follower) (frame : Int) : Int :=
  pairIndex f frame * pairFields f + pairPlace f frame * f.div

/-- The parity of a field index: even is FIRST, odd is SECOND (R49). -/
def indexParity (x : Int) : Parity := if x - 2 * (x / 2) = 0 then .first else .second

/-- The start parity of a frame (R49). -/
def startParity (f : Follower) (frame : Int) : Parity := indexParity (startIndex f frame)

/-- What a field event makes of following: the new mode, the published frame and mode, whether E held (R53), and the
account frame at a slip (R54). -/
structure Followed where
  mode : Follow
  frame : Int
  published : FieldMode
  held : Bool
  slip : Option Int
  deriving DecidableEq, Repr

/-- The account one field on: E, c, and whether E held at its top (R52, R53). -/
def advanceAccount (f : Follower) (e : Int) (c : Nat) : Int × Nat × Bool :=
  if c + 1 < fieldCount f e then (e, c + 1, false)
  else if e = Config.frameMax then (e, 0, true)
  else (e + 1, 0, false)

/-- The field is in step with the account (R54). -/
def inStep (f : Follower) (e : Int) (c : Nat) (p : Parity) : Bool :=
  -1 ≤ tachFrame f - e && tachFrame f - e ≤ 1 && p == indexParity (startIndex f e + c)

/-- Following at a field event of parity `p` (R50 to R54). -/
def follow (f : Follower) (p : Parity) : Followed :=
  let t := tachFrame f
  match f.mode with
  | .free => ⟨.free, t, .free, false, none⟩
  | .seeking =>
    if p = startParity f t then ⟨.locked t 0, t, .locked 0 (startIndex f t), false, none⟩
    else ⟨.seeking, t, .seeking, false, none⟩
  | .locked e c =>
    let a := advanceAccount f e c
    if inStep f a.1 a.2.1 p then
      ⟨.locked a.1 a.2.1, a.1, .locked a.2.1 (startIndex f a.1 + a.2.1), a.2.2, none⟩
    else ⟨.seeking, t, .seeking, a.2.2, some a.1⟩

/-- The perf counter stands at one of its limits (R58). -/
def atLimit (f : Follower) : Bool := f.perf == perfMin f || f.perf == perfMax f

/-- The frame-reference output pulses for a published mode (R56). -/
def pulses : FieldMode → Bool
  | .locked 0 _ => true
  | .locked (_ + 1) _ => false
  | .free => false
  | .seeking => false

/-- The position record of a field event (R57, R58); `timer` marks a stand-in field. -/
def makeRecord (f : Follower) (p : Parity) (timer : Bool) : PosRecord :=
  let w := follow f p
  { field := f.fields + 1, frame := w.frame, parity := p, mode := w.published,
    limit := f.heldNote || atLimit f || w.held, slip := w.slip.isSome, unlocked := timer }

/-- The follower after a field event (R50 to R61). -/
def followField (f : Follower) (p : Parity) (timer : Bool) : Follower :=
  let w := follow f p
  { f with mode := w.mode, fields := f.fields + 1, standIn := timer, heldNote := false, lastParity := some p,
           frameRef := pulses w.published, record := makeRecord f p timer }

/-- A SLIP entry when a pass exists, with E and T as its values (R55). -/
def offerSlip (slip : Option Int) (t : Int) (s : State) : State :=
  match slip with
  | none => s
  | some e =>
    if passExists s then offer { entryNow .slip s with value1 := e, value2 := t } s else s

/-- REFERENCE raised and its entry offered when stand-in begins or ends at this field (R60, R61). -/
def noteReference (was timer : Bool) (s : State) : State :=
  if was = timer then s else offer { entryNow .reference s with regained := was } (raise .reference s)

/-- The follower's handling of a field event: it publishes the record and tells of the reference and of a slip. -/
def publish (p : Parity) (timer : Bool) (s : State) : State :=
  let f := s.follower
  let s := blankOutput { s with follower := followField f p timer }
  offerSlip (follow f p).slip (tachFrame f) (noteReference f.standIn timer s)

/-- The parity of a stand-in field: opposite to the field before, FIRST after a reset (R60). -/
def standInParity (f : Follower) : Parity :=
  match f.lastParity with
  | none => .first
  | some p => p.opposite

end Sys2Proof.Machine
end

