-- ==== Sys2Proof/Machine/Links.lean ====
section
/-!
DEFINITION. Machine/Links.lean: the link controller (08_routing_and_recorder_links.md): directives, pass requests,
reports, timers, faults, auto-down, and the links at a halt and at resets.
-/
namespace Sys2Proof.Machine

/-- One link's record. -/
def linkOf (l : Link) (s : State) : LinkRec := s.links.get l

/-- Replace one link's record. -/
def setLinkRec (l : Link) (r : LinkRec) (s : State) : State := { s with links := s.links.set l r }

/-- The field number of the position record latest published (R133, R135). -/
def now (s : State) : BitVec 32 := s.follower.record.field

/-- The send queue emptied of every directive whose sending has not begun (R132): the oldest is on the line. -/
def keepLine (q : List Directive) : List Directive := q.take 1

/-- The states from which a fault or a reset issues OUT (R141, R146). -/
def rollsOrRecords (x : LinkState) : Bool := x == .rolling || x == .recording

/-! ### Faults and directives -/

/-- The record of a link that enters FAULT (R141). -/
def faultRec (cause : FaultCause) (code : Nat) (r : LinkRec) : LinkRec :=
  { r with
    state := .fault, cause := some cause, recorderCode := code, lockedMark := false, timer := none
    queue := keepLine r.queue ++ (if rollsOrRecords r.state then [.out] else []) }

/-- The LINK_FAULT entry (R141). -/
def faultEntry (l : Link) (cause : FaultCause) (value : Nat) (tc : Option Nat) (s : State) : Entry :=
  { entryNow .linkFault s with
    link := some l, timecode := tc, scene := s.grade.scene, value1 := cause.number, value2 := value }

/-- A link enters FAULT (R141), but for its LINK_FAULT entry. The pass controller is told afterwards
(Machine/PassControl.lean). -/
def faultLink (l : Link) (cause : FaultCause) (code : Nat) (s : State) : State :=
  raise .link (setLinkRec l (faultRec cause code (linkOf l s)) s)

/-- A link enters FAULT, and its LINK_FAULT entry is offered (R141). -/
def enterFault (l : Link) (cause : FaultCause) (code value : Nat) (tc : Option Nat) (s : State) : State :=
  offer (faultEntry l cause value tc s) (faultLink l cause code s)

/-- Issue a directive and make the state change that goes with it; a full queue does neither, and the link does what `full`
says (R132). -/
def issueOr (full : State → State) (l : Link) (d : Directive) (change : LinkRec → LinkRec) (s : State) : State :=
  let r := linkOf l s
  if Config.sendCapacity ≤ r.queue.length then full s else setLinkRec l (change { r with queue := r.queue ++ [d] }) s

/-- Issue a directive; a full queue faults the link with OVERRUN (R132). -/
def issue (l : Link) (d : Directive) (change : LinkRec → LinkRec) (s : State) : State :=
  issueOr (enterFault l .overrun 0 (linkOf l s).state.number none) l d change s

/-- Issue a directive of a step whose edits come first in the journal: the LINK_FAULT entry of an OVERRUN is left to `lateFault`
(R160 for the fields at which the recording set is worked; the model's choice at an abort and at the out-point,
notes/assumptions/23.md). -/
def issueEarly (l : Link) (d : Directive) (change : LinkRec → LinkRec) (s : State) : State :=
  issueOr (faultLink l .overrun 0) l d change s

/-- The link entered FAULT between two states. -/
def faultedIn (before after : State) (l : Link) : Bool :=
  (linkOf l before).state != .fault && (linkOf l after).state == .fault

/-- The LINK_FAULT entry that `issueEarly` left to be offered, when the link overran since `before`. -/
def lateFault (before : State) (l : Link) (s : State) : State :=
  if faultedIn before s l then offer (faultEntry l .overrun (linkOf l before).state.number none s) s else s

/-! ### Requests -/

/-- A wake (R136). When the WAKE overruns the send queue, the link enters FAULT and its wake owner stays as it was: that
R136's change of owner is then not made is the model's choice (notes/assumptions/20.md). -/
def wakeRequest (l : Link) (owner : WakeOwner) (s : State) : State :=
  if (linkOf l s).state = .down then
    issue l .wake
      (fun r => { r with state := .waking, owner := owner, timer := some ⟨.wake, now s, r.wakeLimit⟩ }) s
  else s

/-- A cue request (R137). The silence count, which the rule returns to 0 after the CUE is issued, is 0 before it here, so that it
is 0 also when the CUE overruns the send queue and the link enters FAULT: the model's choice (notes/assumptions/20.md). -/
def cueRequest (l : Link) (tc : Nat) (s : State) : State :=
  if (linkOf l s).state = .idle then
    issue l (.cue tc) (fun r => { r with state := .cueing, timer := some ⟨.cue, now s, r.cueLimit⟩ })
      (setLinkRec l { linkOf l s with requestedTc := tc, silence := 0 } s)
  else s

/-- A release request (R137); the LINK_FAULT entry of an OVERRUN is left to `lateFault`. -/
def releaseRequest (l : Link) (s : State) : State :=
  if (linkOf l s).state = .cueing ∨ (linkOf l s).state = .armed then
    issueEarly l .standby (fun r => { r with state := .idle, timer := none, lockedMark := false }) s
  else s

/-- A roll request (R138). -/
def rollRequest (l : Link) (s : State) : State :=
  if (linkOf l s).state = .armed then
    issue l .roll (fun r => { r with state := .rolling, lockedMark := false }) s
  else s

/-- An in request (R139). -/
def inRequest (l : Link) (tc : Nat) (s : State) : State :=
  let r := linkOf l s
  if r.state = .rolling then
    if r.lockedMark then
      issue l .recordIn
        (fun r => { r with state := .recording, timer := some ⟨.watchdog, now s, r.watchdogLimit⟩ })
        (setLinkRec l { r with expectedTc := tc } s)
    else enterFault l .notLocked 0 r.state.number none s
  else s

/-- An out request (R140); the LINK_FAULT entry of an OVERRUN is left to `lateFault`. -/
def outRequest (l : Link) (s : State) : State :=
  if (linkOf l s).state = .recording then
    issueEarly l .out (fun r => { r with state := .rolling, timer := none }) s
  else s

/-- A close request (R140); the LINK_FAULT entry of an OVERRUN is left to `lateFault`. -/
def closeRequest (l : Link) (s : State) : State :=
  if rollsOrRecords (linkOf l s).state then
    issueEarly l .out
      (fun r =>
        { r with state := .closing, lockedMark := false, timer := some ⟨.close, now s, r.closeLimit⟩ }) s
  else s

/-! ### Reports -/

/-- AWAKE (R136). -/
def takeAwake (l : Link) (v : Nat) (s : State) : State :=
  let r := linkOf l s
  if r.state = .waking then
    if v = 1 then setLinkRec l { r with state := .idle, timer := none } s
    else enterFault l .noTape 0 r.state.number none s
  else s

/-- CUED (R137). -/
def takeCued (l : Link) (v : Nat) (s : State) : State :=
  let r := linkOf l s
  if r.state = .cueing then
    if v = r.requestedTc then setLinkRec l { r with state := .armed, timer := none } s
    else enterFault l .cueMismatch 0 v (some r.requestedTc) s
  else s

/-- LOCKED (R138). -/
def takeLocked (l : Link) (s : State) : State :=
  let r := linkOf l s
  if rollsOrRecords r.state then setLinkRec l { r with lockedMark := true } s else s

/-- The timer restarted: a new start field, its kind and limit kept (R135). -/
def restart (s : State) (t : LinkTimer) : LinkTimer := { t with start := now s }

/-- WRITTEN (R139). -/
def takeWritten (l : Link) (v : Nat) (s : State) : State :=
  let r := linkOf l s
  if r.state = .recording then
    if v = r.expectedTc then
      setLinkRec l { r with expectedTc := tcAdd s.follower.standard r.expectedTc 1, timer := r.timer.map (restart s) } s
    else enterFault l .timecode 0 v (some r.expectedTc) s
  else s

/-- DONE (R140). -/
def takeDone (l : Link) (s : State) : State :=
  let r := linkOf l s
  if r.state = .closing then setLinkRec l { r with state := .idle, timer := none } s else s

/-- TROUBLE (R141). -/
def takeTrouble (l : Link) (v : Nat) (s : State) : State :=
  let r := linkOf l s
  if r.state = .down ∨ r.state = .fault then s else enterFault l .trouble v v none s

/-- A report that passed the framer is taken in the state the link holds (R134). -/
def takeReport (l : Link) (k : ReportKind) (v : Nat) (s : State) : State :=
  match k with
  | .awake => takeAwake l v s
  | .cued => takeCued l v s
  | .locked => takeLocked l s
  | .written => takeWritten l v s
  | .done => takeDone l s
  | .trouble => takeTrouble l v s

/-- Where a link's framer stands. -/
def setFramer (l : Link) (f : Framer) (s : State) : State := setLinkRec l { linkOf l s with framer := f } s

/-- The framer hunts again. -/
def huntAgain (l : Link) (s : State) : State := setFramer l .hunting s

/-- A frame is complete (R133): it is judged, and the framer hunts again. -/
def completeFrame (l : Link) (kind : BitVec 8) (value : BitVec 24) (sum : BitVec 8) (s : State) : State :=
  match judgeFrame s.follower.standard kind value sum with
  | none => huntAgain l s
  | some k => takeReport l k value.toNat (huntAgain l s)

/-- The frame of six gathered bytes, the start byte first (R131, R133). -/
def completeBytes (l : Link) (bytes : List Byte) (s : State) : State :=
  completeFrame l (bytes.getD 1 0) (bytes.getD 4 0 ++ (bytes.getD 3 0 ++ bytes.getD 2 0)) (bytes.getD 5 0) s

/-- The line delivers one byte (R133): hunting, the framer drops it unless it is 165, which starts a frame and notes the field
number; within a frame it is gathered, whatever its value, and the sixth byte completes the frame. -/
def takeByte (l : Link) (x : Byte) (s : State) : State :=
  match (linkOf l s).framer with
  | .hunting =>
    if x = Config.startByte then setFramer l (.assembling (now s) [x]) s else s
  | .assembling noted bytes =>
    if bytes.length < 5 then setFramer l (.assembling noted (bytes ++ [x])) s
    else completeBytes l (bytes ++ [x]) s

/-- The line delivers bytes, one after the other. -/
def takeBytes (l : Link) (bytes : List Byte) (s : State) : State := bytes.foldl (fun s x => takeByte l x s) s

/-- The line delivers the five bytes of a report with a good sum that follow its start byte. -/
def reportFrame (l : Link) (k : ReportKind) (value : BitVec 24) (s : State) : State :=
  takeBytes l (messageBytes k.code value (messageSum k.code value)) s

/-- A frame given up at a field event: incomplete two fields after its start byte (R133). -/
def timeoutFramer (field : BitVec 32) (r : LinkRec) : LinkRec :=
  match r.framer with
  | .hunting => r
  | .assembling noted _ => if 2 ≤ fieldsSince field noted then { r with framer := .hunting } else r

/-- The framers at a field event (R133); while HALTED the link controller takes no field events (R147). -/
def framersField (s : State) : State :=
  if s.port.running then { s with links := s.links.map (timeoutFramer (now s)) } else s

/-! ### Timers and auto-down -/

/-- A link's timer expires at the latest field event (R135). -/
def timerDue (l : Link) (s : State) : Bool :=
  s.port.running
    && (match (linkOf l s).timer with
        | none => false
        | some t => t.limit ≤ fieldsSince (now s) t.start)

/-- The fault that a timer's expiry enters (R136, R137, R139, R140, R141). -/
def expireKind (l : Link) (k : TimerKind) (s : State) : State :=
  let r := linkOf l s
  match k with
  | .wake => enterFault l .noAnswer 0 r.state.number none s
  | .cue => enterFault l .noAnswer 0 r.state.number (some r.requestedTc) s
  | .watchdog => enterFault l .stall 0 r.state.number (some r.expectedTc) s
  | .close => enterFault l .noAnswer 0 r.state.number none s

/-- The link controller looks at one link's timer (R135). -/
def checkTimer (l : Link) (s : State) : State :=
  if timerDue l s then
    match (linkOf l s).timer with
    | none => s
    | some t => expireKind l t.kind s
  else s

/-- The expiry of one kind of timer on a link, when it is due. -/
def expiryOf (k : TimerKind) (l : Link) (s : State) : State :=
  if (linkOf l s).timer.map LinkTimer.kind = some k then checkTimer l s else s

/-- The silence count at a field event (R142). -/
def countSilence (noPass : Bool) (r : LinkRec) : LinkRec :=
  if r.state == .idle && r.owner == .pass && noPass then { r with silence := saturate r.silence, downDue := true }
  else { r with silence := 0, downDue := false }

/-- The link controller's silence counts at a field event (R142). -/
def silenceField (s : State) : State :=
  if s.port.running then { s with links := s.links.map (countSilence (!passExists s)) } else s

/-- A link goes down by its silence count (R142). -/
def goesDown (l : Link) (s : State) : Bool :=
  let r := linkOf l s
  s.port.running && r.downDue && r.state == .idle && r.owner == .pass && !passExists s && r.silenceLimit != 0
    && r.silenceLimit ≤ r.silence

/-- Auto-down (R142). -/
def autoDownNow (l : Link) (s : State) : State :=
  issue l .standby (fun r => { r with state := .down, owner := .none, silence := 0, downDue := false }) s

/-- The auto-down decision, taken within a field event's handling (R142). -/
def decideDown (l : Link) (s : State) : State :=
  if goesDown l s then autoDownNow l s else setLinkRec l { linkOf l s with downDue := false } s

/-- An auto-down decision that a pass finds still to be made: the accepted START PASS counts as taken before the field event, so
the silence count returns to 0 and the link stays (R142, notes/assumptions/4.md). -/
def cancelDown (r : LinkRec) : LinkRec := if r.downDue then { r with silence := 0, downDue := false } else r

/-! ### Reset, halt -/

/-- The directives that a reset of the link issues (R146). -/
def resetDirectives (r : LinkRec) : List Directive :=
  if r.state = .down then [] else if rollsOrRecords r.state then [.out, .standby] else [.standby]

/-- The send queue after a reset of the link (R132, R146): emptied, then what the reset issues. -/
def resetQueue (r : LinkRec) : List Directive := keepLine r.queue ++ resetDirectives r

/-- A link returned to DOWN (R146). -/
def downRec (r : LinkRec) : LinkRec :=
  { r with
    queue := resetQueue r, state := .down, cause := none, recorderCode := 0, owner := .none, lockedMark := false
    timer := none, silence := 0, downDue := false }

/-- A link at a halt (R147, R168). -/
def haltRec (r : LinkRec) : LinkRec := { downRec r with held := false }

/-- A link at a soft reset (R148). -/
def softRec (r : LinkRec) : LinkRec := { haltRec r with requestedTc := 0, expectedTc := 0, framer := .hunting }

end Sys2Proof.Machine
end

