-- ==== Sys2Proof/Machine/Looks.lean ====
section
/-!
DEFINITION. Machine/Looks.lean: the look table (02_looks_house_looks_and_approval_locks.md): chains, lock counts, the
put of a look, the house area, and what READ LOOKS writes.
-/
namespace Sys2Proof.Machine

/-- A look's record. -/
def lookAt (t : LookTable) (i : Fin 64) : Look := t.looks[i.val]

/-- Replace a look's record. -/
def setLook (t : LookTable) (i : Fin 64) (l : Look) : LookTable := { t with looks := t.looks.set i.val l }

/-- A look chain of at most `n` looks: from the named look along parent links to a look without parent (R26). -/
def chain (t : LookTable) : Nat → Fin 64 → List (Fin 64)
  | 0, _ => []
  | n + 1, i => if i = 0 then [] else i :: chain t n (lookAt t i).parent

/-- The whole chain of a look: no look repeats, so 63 looks are enough (R26). -/
def lookChain (t : LookTable) (i : Fin 64) : List (Fin 64) := chain t 63 i

/-- Change the lock count of each look of a list (R10, R29). -/
def changeLocks (f : Nat → Nat) (ids : List (Fin 64)) (t : LookTable) : LookTable :=
  ids.foldl (fun t i => setLook t i { lookAt t i with locks := f (lookAt t i).locks }) t

/-- House protection is on (R34). -/
def protectionOn (t : LookTable) : Bool := 0 < t.house

/-- A look is a house look (R34). -/
def isHouse (t : LookTable) (i : Fin 64) : Bool := protectionOn t && 64 - t.house ≤ i.val

/-- Change one look's child count, unless the look is look 0 (R27). -/
def changeChildren (f : Nat → Nat) (i : Fin 64) (t : LookTable) : LookTable :=
  if i = 0 then t else setLook t i { lookAt t i with children := f (lookAt t i).children }

/-- Clamp a grade to its ranges (R6, R33). -/
def clampGrade (g : Grade) : Grade :=
  { lift := g.lift.map (clamp (-512) 511), gain := g.gain.map (clamp 0 4095), mid := g.mid.map (clamp 128 896),
    sat := clamp 0 2047 g.sat }

/-- The level a look takes under a parent (R33). -/
def levelUnder (t : LookTable) (parent : Fin 64) : Nat := if parent = 0 then 1 else (lookAt t parent).level + 1

/-- The checks of R32 on a fetched parent: the outcome that refuses it, if one does. -/
def parentRefused (t : LookTable) (i : Fin 64) (parent : Nat) : Option OutcomeCode :=
  if 63 < parent then some .range
  else if parent = i.val then some .chain
  else if parent ≠ (lookAt t i).parent.val ∧ 0 < (lookAt t i).children then some .chain
  else if parent ≠ 0 ∧ (lookAt t (Fin.ofNat 64 parent)).level = 4 then some .chain
  else none

/-- Write a look's grade and parent with the child counts and its level (R27, R33). -/
def writeLook (i : Fin 64) (g : Grade) (parent : Fin 64) (t : LookTable) : LookTable :=
  let old := (lookAt t i).parent
  let t := if parent = old then t else changeChildren (· + 1) parent (changeChildren (· - 1) old t)
  setLook t i { lookAt t i with grade := g, parent := parent, level := levelUnder t parent }

/-- Erase one house look: unity grade, parent 0, and the old parent's child count (R36). -/
def eraseLook (t : LookTable) (i : Fin 64) : LookTable :=
  let t := changeChildren (· - 1) (lookAt t i).parent t
  setLook t i { lookAt t i with grade := unityGrade, parent := 0 }

/-- The house looks in index order. -/
def houseLooks (t : LookTable) : List (Fin 64) := (List.finRange 64).filter (isHouse t)

/-- The level that R37 gives a look once the looks of `erased` have been erased. -/
def levelAfterErase (t : LookTable) (erased : List (Fin 64)) (i : Fin 64) : Nat :=
  let c := lookChain t i
  if c.any erased.contains then c.length else (lookAt t i).level

/-- CLEAR HOUSE LOOKS' change (R36, R37). -/
def clearHouse (t : LookTable) : LookTable :=
  let erased := houseLooks t
  let u := erased.foldl eraseLook t
  let v := (List.finRange 64).foldl (fun v i => setLook v i { lookAt v i with level := levelAfterErase u erased i }) u
  { v with house := 0 }

/-- Some house look is under an approval (R36). -/
def houseLocked (t : LookTable) : Bool := (houseLooks t).any fun i => 0 < (lookAt t i).locks

/-- The record READ LOOKS writes for a look; a house look is withheld while protection is on (R38, R39). -/
def lookRecord (t : LookTable) (i : Fin 64) (free : BitVec 512) : Nat :=
  let l := lookAt t i
  if isHouse t i then encodeLook unityGrade 0 0 l.children l.locks true free
  else encodeLook l.grade l.parent.val l.level l.children l.locks false free

/-- Board reset: every lock count becomes 0 (R41). -/
def unlockAll (t : LookTable) : LookTable := { t with looks := t.looks.map fun l => { l with locks := 0 } }

end Sys2Proof.Machine
end

