-- ==== Sys2Proof/Machine/Store.lean ====
section
/-!
DEFINITION. Machine/Store.lean: the scene store (01_the_scene_store.md): lookup, spans, validation, span protection,
the changes that orders make, and the statistics write.
-/
namespace Sys2Proof.Machine

/-- The lookup of R3 below a record `p`: the scene of frame `f` and its predecessor, none for a no-scene frame. -/
def lookupFrom (f : Int) : Option Scene → List Scene → Option (Scene × Option Scene)
  | _, [] => none
  | p, s :: rest =>
    if s.start ≤ f then
      match lookupFrom f (some s) rest with
      | some r => some r
      | none => some (s, p)
    else none

/-- The scene of a frame and its predecessor (R3). -/
def lookup (f : Int) (store : List Scene) : Option (Scene × Option Scene) := lookupFrom f none store

/-- A stored scene with its predecessor and its successor (R2). -/
structure Placed where
  pred : Option Scene
  scene : Scene
  succ : Option Scene
  deriving DecidableEq, Repr

/-- The records of a store with their neighbours, below a record `p`. -/
def placedFrom : Option Scene → List Scene → List Placed
  | _, [] => []
  | p, s :: rest => ⟨p, s, rest.head?⟩ :: placedFrom (some s) rest

/-- Every record of a store with its neighbours (R2). -/
def placed (store : List Scene) : List Placed := placedFrom none store

/-- A frame lies in the span of a placed scene (R3). -/
def Placed.covers (x : Placed) (f : Int) : Bool :=
  x.scene.start ≤ f && (match x.succ with | none => true | some n => f < n.start)

/-- A PUT at `f` is one that protection (d) of R9 refuses for the dissolving scene `x`: at its predecessor's start, or
above that and below the scene's own; with no predecessor, anywhere below it. -/
def Placed.guardsPred (x : Placed) (f : Int) : Bool :=
  x.scene.transition.dissolves && f < x.scene.start && (match x.pred with | none => true | some p => p.start ≤ f)

/-- A PUT at start frame `f` would disturb a locked scene (R9). -/
def putProtected (store : List Scene) (f : Int) : Bool :=
  (placed store).any fun x => x.scene.locked && (x.covers f || x.guardsPred f)

/-- A start frame is that of a record, if there is one. -/
def startsAt (f : Int) : Option Scene → Bool
  | none => false
  | some s => s.start == f

/-- A REMOVE of the record at `f` would disturb a locked scene (R9). -/
def removeProtected (store : List Scene) (f : Int) : Bool :=
  (placed store).any fun x =>
    x.scene.locked
      && (x.scene.start == f || startsAt f x.succ || (x.scene.transition.dissolves && startsAt f x.pred))

/-- A record is one that CLEAR SCENES keeps (R14): locked, the successor of a locked scene, or the predecessor of a
locked scene with a DISSOLVE. -/
def Placed.kept (x : Placed) : Bool :=
  x.scene.locked || x.pred.any (·.locked) || x.succ.any (fun n => n.locked && n.transition.dissolves)

/-- The store after CLEAR SCENES (R14). -/
def clearStore (store : List Scene) : List Scene := ((placed store).filter Placed.kept).map Placed.scene

/-- A record with this start frame is stored. -/
def hasStart (store : List Scene) (f : Int) : Bool := store.any fun s => s.start == f

/-- Put a record in start-frame order, replacing one at the same start (R2, R12). -/
def insertScene (x : Scene) : List Scene → List Scene
  | [] => [x]
  | s :: rest =>
    if x.start < s.start then x :: s :: rest
    else if x.start = s.start then x :: rest
    else s :: insertScene x rest

/-- Remove the record at a start frame (R13). -/
def removeAt (store : List Scene) (f : Int) : List Scene := store.filter fun s => s.start != f

/-- The offsets of the counted keys are not 0 and rise strictly (R5). -/
def keysRise : Nat → List TrimKey → Bool
  | _, [] => true
  | o, t :: ts => o < t.offset && keysRise t.offset ts

/-- The keys that count (R5). -/
def RawScene.counted (r : RawScene) : List TrimKey := r.keys.take r.keyCount

/-- The structural checks of R5 fail. The transition code and the output group cannot hold a wrong value (Layouts). -/
def RawScene.malformed (r : RawScene) : Bool :=
  !isFrame r.start || r.number == 0 || 63 < r.look || (r.dissolve && r.length == 0) || 4 < r.keyCount
    || !keysRise 0 r.counted || 15 < r.group

/-- A key with its trims clamped (R6). -/
def clampKey (t : TrimKey) : TrimKey := { t with trim := t.trim.map (clamp (-1024) 1023) }

/-- Clamping changes a value of the record (R6). -/
def RawScene.clamps (r : RawScene) : Bool := clampGrade r.own != r.own || r.counted.map clampKey != r.counted

/-- The stored record that a fetched one gives (R6, R7): clamped, unlocked, without statistics. -/
def RawScene.stored (r : RawScene) : Scene :=
  { start := r.start, number := r.number, own := clampGrade r.own, look := Fin.ofNat 64 r.look,
    transition := if r.dissolve then .dissolve r.length else .cut, keys := r.counted.map clampKey,
    group := Fin.ofNat 16 r.group, negative := r.negative, locked := false, stats := none }

/-- What becomes of a fetched record (R12). -/
inductive PutVerdict where
  | refused (outcome : OutcomeCode)
  | stored (clamped replaced : Bool)
  deriving DecidableEq, Repr

/-- The three checks of R12, in order. -/
def putVerdict (store : List Scene) (r : RawScene) : PutVerdict :=
  if r.malformed then .refused .range
  else if putProtected store r.start then .refused .locked
  else if !hasStart store r.start && Config.storeCapacity ≤ store.length then .refused .full
  else .stored r.clamps (hasStart store r.start)

/-- The store after a fetched record has been dealt with (R12). -/
def putRecord (store : List Scene) (r : RawScene) : List Scene :=
  match putVerdict store r with
  | .refused _ => store
  | .stored _ _ => insertScene r.stored store

/-- The looks that a scene depends on, each once (R10). -/
def dependsOn (t : LookTable) (x : Placed) : List (Fin 64) :=
  let own := lookChain t x.scene.look
  let outgoing :=
    if x.scene.transition.dissolves then
      match x.pred with
      | none => []
      | some p => lookChain t p.look
    else []
  (own ++ outgoing).eraseDups

/-- The scenes whose start lies between two frames and whose LOCKED flag is as given (R15, R16). -/
def inRangeScenes (first last : Int) (flag : Bool) (store : List Scene) : List Placed :=
  (placed store).filter fun x => first ≤ x.scene.start && x.scene.start ≤ last && x.scene.locked == flag

/-- Set the LOCKED flag of the scenes whose start lies between two frames (R15, R16). -/
def flagRange (first last : Int) (flag : Bool) (store : List Scene) : List Scene :=
  store.map fun s => if first ≤ s.start && s.start ≤ last then { s with locked := flag } else s

/-- The lock counts after each of some scenes has been counted (R10, R29). -/
def countLocks (f : Nat → Nat) (scenes : List Placed) (t : LookTable) : LookTable :=
  scenes.foldl (fun t x => changeLocks f (dependsOn t x) t) t

/-- The statistics write (R8): into the record stored at the start frame; dropped when there is none. -/
def writeStats (start : Int) (x : Stats) (store : List Scene) : List Scene :=
  store.map fun s => if s.start = start then { s with stats := some x } else s

/-- The records that READ SCENES takes (R20). -/
def readable (first : Int) (store : List Scene) : List Scene := store.filter fun s => first ≤ s.start

end Sys2Proof.Machine
end

