-- ==== Sys2Proof/Machine/PassControl.lean ====
section
/-!
DEFINITION. Machine/PassControl.lean: the pass controller (09_record_passes.md), from START PASS to PASS_END.
-/
namespace Sys2Proof.Machine

/-! ### Scenes, groups and links of a pass -/

/-- The scene of a frame as the pass controller keeps it: no-scene frames have number 0 and group 0 (R3, R151). -/
def recSceneAt (f : Int) (store : List Scene) : RecScene :=
  match lookup f store with
  | none => ⟨none, 0, 0⟩
  | some (x, _) => ⟨some x.start, x.number, x.group⟩

/-- The used groups of a frame range (R151). -/
def usedGroups (inFrame outFrame : Int) (store : List Scene) : List (Fin 16) :=
  (recSceneAt inFrame store).group
    :: (store.filter fun s => inFrame < s.start && s.start ≤ outFrame).map Scene.group

/-- The union of two link sets. -/
def unionOf (x y : LinkSet) : LinkSet := ⟨x.a || y.a, x.b || y.b, x.c || y.c⟩

/-- The route entry of a group. -/
def routeOf (s : State) (g : Fin 16) : Route := s.routes[g.val]

/-- The needed set of the used groups (R151). -/
def neededSet (s : State) (used : List (Fin 16)) : LinkSet :=
  used.foldl (fun x g => if (routeOf s g).valid then unionOf x (routeOf s g).dest else x) noLinks

/-- The group table at acceptance (R152). -/
def initialGroups (s : State) (used : List (Fin 16)) : Vector GroupEntry 16 :=
  Vector.ofFn fun g =>
    if used.contains g then (if (routeOf s g).valid then .awaited else .spilled) else .unused

/-- A link fails the last check of R150: FAULT, or DOWN with auto-wake OFF. -/
def notReady (r : LinkRec) : Bool := r.state == .fault || (r.state == .down && !r.autoWake)

/-- The links of a set that fail the last check of R150. -/
def failingLinks (s : State) (needed : LinkSet) : LinkSet :=
  ⟨needed.a && notReady s.links.a, needed.b && notReady s.links.b, needed.c && notReady s.links.c⟩

/-- Change the pass record, if there is one. -/
def changePass (f : Pass → Pass) (s : State) : State := { s with pass := s.pass.map f }

/-- The links in a set, in the order A, B, C. -/
def membersOf (x : LinkSet) : List Link := Link.all.filter x.get

/-- Do something with each link of a set, in the order A, B, C. -/
def eachLink (x : LinkSet) (f : Link → State → State) (s : State) : State := (membersOf x).foldl (fun s l => f l s) s

/-- The held marks of a set's links set, those of the others as they are (R152). -/
def holdLinks (x : LinkSet) (s : State) : State :=
  eachLink x (fun l s => setLinkRec l { linkOf l s with held := true } s) s

/-- The held marks of a set's links cleared (R155, R167). -/
def unholdLinks (x : LinkSet) (s : State) : State :=
  eachLink x (fun l s => setLinkRec l { linkOf l s with held := false } s) s

/-- The links whose held mark is set. -/
def heldLinks (s : State) : LinkSet := s.links.map LinkRec.held

/-! ### Starting a pass (R150 to R152) -/

/-- The refusal of a START PASS, with its detail count, if a check of R150 fails. -/
def startRefused (a : PassArgs) (s : State) : Option Result :=
  let needed := neededSet s (usedGroups a.inFrame a.outFrame s.store)
  if passExists s then some ⟨.passActive, 0⟩
  else if s.follower.mode = .free then some ⟨.mode, 0⟩
  else if !a.inRange s.follower.standard then some ⟨.range, 0⟩
  else if startParity s.follower a.inFrame ≠ .first then some ⟨.range, 0⟩
  else if s.follower.standIn then some ⟨.notReady, 0⟩
  else if s.journal.setting.isNone then some ⟨.notReady, 0⟩
  else if needed = noLinks then some ⟨.notReady, 0⟩
  else if failingLinks s needed ≠ noLinks then some ⟨.notReady, setCode (failingLinks s needed)⟩
  else none

/-- The pass record of an accepted START PASS (R149, R152). -/
def newPass (a : PassArgs) (s : State) : Pass :=
  let used := usedGroups a.inFrame a.outFrame s.store
  let inIndex := startIndex s.follower a.inFrame
  { state := .preparing, inFrame := a.inFrame, outFrame := a.outFrame, preroll := a.preroll, tcIn := a.tcIn,
    inIndex := inIndex, rollIndex := inIndex - 2 * a.preroll, endIndex := startIndex s.follower (a.outFrame + 1),
    needed := neededSet s used, cuesIssued := false, groups := initialGroups s used, recording := noLinks,
    lastScene := none, lastIndex := none, cause := none }

/-- The PASS_START entry (R161). -/
def passStartEntry (p : Pass) (s : State) : Entry :=
  { entryNow .passStart s with
    frame := p.inFrame, scene := (recSceneAt p.inFrame s.store).number, value1 := p.outFrame
    value2 := setCode p.needed }

/-- An accepted START PASS (R142, R152). -/
def acceptPass (a : PassArgs) (s : State) : State :=
  let p := newPass a s
  let t := eachLink p.needed (fun l s => wakeRequest l .pass s) (holdLinks p.needed { s with pass := some p, links := s.links.map cancelDown })
  offer (passStartEntry p t) t

/-! ### Edits (R157 to R161) -/

/-- The timecode of an edit at field index `x` (R159, R161). -/
def editTc (p : Pass) (l : Link) (x : Int) (s : State) : Nat :=
  tcAdd s.follower.standard (p.tcIn.get l) ((x - p.inIndex) / 2)

/-- The scene last recorded, as an entry names it. -/
def lastRecorded (p : Pass) : RecScene := p.lastScene.getD ⟨none, 0, 0⟩

/-- An EDIT_OUT entry (R161). -/
def editOutEntry (p : Pass) (l : Link) (x : Int) (s : State) : Entry :=
  { entryNow .editOut s with
    link := some l, timecode := some (editTc p l x s), scene := (lastRecorded p).number, value1 := x
    value2 := (lastRecorded p).group.val }

/-- An EDIT_IN entry (R161). -/
def editInEntry (p : Pass) (l : Link) (x : Int) (sc : RecScene) (s : State) : Entry :=
  { entryNow .editIn s with
    link := some l, timecode := some (editTc p l x s), scene := sc.number, value1 := x, value2 := sc.group.val }

/-- An out request with its EDIT_OUT entry, which a link that faults instead does not offer (R159); its LINK_FAULT entry is left
to `lateFault`. -/
def editOut (p : Pass) (x : Int) (l : Link) (s : State) : State :=
  let t := outRequest l s
  if (linkOf l t).state = .rolling then offer (editOutEntry p l x t) t else t

/-- An in request with its EDIT_IN entry, which a link that faults instead does not offer (R157, R159, R160). -/
def editIn (p : Pass) (x : Int) (sc : RecScene) (l : Link) (s : State) : State :=
  let t := inRequest l (editTc p l x s) s
  if (linkOf l t).state = .recording then offer (editInEntry p l x sc t) t else t

/-- A close request, with an EDIT_OUT entry for a link that was RECORDING (R163, R166); the LINK_FAULT entry of one that faults
instead is left to `lateFault` (the model's choice, notes/assumptions/23.md). -/
def closeEdit (p : Pass) (x : Int) (l : Link) (s : State) : State :=
  let t := closeRequest l s
  if (linkOf l s).state = .recording ∧ (linkOf l t).state = .closing then offer (editOutEntry p l x t) t else t

/-- The members of a set that are not in FAULT. -/
def withoutFault (x : LinkSet) (s : State) : LinkSet :=
  ⟨x.a && s.links.a.state != .fault, x.b && s.links.b.state != .fault, x.c && s.links.c.state != .fault⟩

/-- The group entry of a scene. -/
def groupOf (p : Pass) (g : Fin 16) : GroupEntry := p.groups[g.val]

/-- The recording set of a scene (R158). -/
def recordingSet (p : Pass) (sc : RecScene) (s : State) : LinkSet :=
  match groupOf p sc.group with
  | .resolved set _ _ => withoutFault set s
  | .unused => noLinks
  | .spilled => noLinks
  | .awaited => noLinks

/-- SCENE or SPILL entry of a scene at field index `x` (R161). -/
def sceneEntry (kind : EntryKind) (sc : RecScene) (x : Int) (s : State) : Entry :=
  { entryNow kind s with scene := sc.number, value1 := x, value2 := sc.group.val }

/-- The scene differs by number from the last recorded one, or there is none (R160). -/
def newNumber (p : Pass) (sc : RecScene) : Bool := p.lastScene.all fun y => y.number != sc.number

/-- The scene differs by start frame from the last recorded one, or there is none (R160). -/
def newStart (p : Pass) (sc : RecScene) : Bool := p.lastScene.all fun y => y.start != sc.start

/-- The SCENE and SPILL entries of a field (R160). -/
def offerScene (p : Pass) (sc : RecScene) (x : Int) (s : State) : State :=
  let s := if newNumber p sc then offer (sceneEntry .scene sc x s) s else s
  if newStart p sc && groupOf p sc.group == .spilled then offer (sceneEntry .spill sc x s) s else s

/-- The set difference. -/
def minusOf (x y : LinkSet) : LinkSet := ⟨x.a && !y.a, x.b && !y.b, x.c && !y.c⟩

/-- The recording set is worked for a field of index `x`: at the in-point and at each FIRST field of a recording
(R157 to R160). The entries come in the order of R160: SCENE, SPILL, those of the links that leave, those of the links that
enter (a faulted in request's LINK_FAULT among them), and then the LINK_FAULT entries of out requests that overran. Links
that fault in the step leave the set. -/
def workSet (p : Pass) (x : Int) (s : State) : State :=
  let sc := recSceneAt s.follower.record.frame s.store
  let new := recordingSet p sc s
  let outs := minusOf p.recording new
  let t := eachLink outs (editOut p x) (offerScene p sc x s)
  let u := changePass (fun q => { q with state := .recording, recording := new, lastScene := some sc }) t
  let v := eachLink (minusOf new p.recording) (editIn p x sc) u
  eachLink outs (lateFault s) (changePass (fun q => { q with recording := withoutFault new v }) v)

/-! ### Aborts and losses (R162 to R166) -/

/-- What an abort does to one held link (R166). -/
def abortLink (p : Pass) (x : Int) (l : Link) (s : State) : State :=
  releaseRequest l (closeEdit p x l s)

/-- A pass that is not closing is aborted (R164, R166): the held links close or are released in the order A, B, C, with an
EDIT_OUT entry at the last field index for each that was RECORDING (R161). Two points are the model's choice
(notes/assumptions/23.md). When a link that faults in the link controller's share of a field aborts the pass before the pass
controller has taken that field, the index is still that of the field before, under the new field's number and frame. And the
LINK_FAULT entries of links whose close or release overran follow all the EDIT_OUT entries: R160 gives that order only for
fields at which the recording set is worked, and R166 gives none. -/
def abortPassNow (cause : AbortCause) (s : State) : State :=
  match s.pass with
  | none => s
  | some p =>
    if p.state = .closing then s
    else
      eachLink (heldLinks s) (lateFault s)
        (eachLink (heldLinks s) (abortLink p (p.lastIndex.getD p.inIndex))
          (changePass (fun q => { q with state := .closing, recording := noLinks, cause := some cause }) s))

/-- A group calls for the abort when a link of its resolved set is lost (R162). -/
def groupLost (l : Link) (s : State) : GroupEntry → Bool
  | .unused => false
  | .spilled => false
  | .awaited => false
  | .resolved set mode safety =>
    set.get l && !(mode == .all && safety && withoutFault set s != noLinks)

/-- A pass state in which a member loss is dealt with (R162). -/
def PassState.recordsOrNears (x : PassState) : Bool := x == .waiting || x == .rolling || x == .recording

/-- A link that has just entered FAULT is dealt with as a member loss, when it takes part in a resolved pass (R162). -/
def memberLoss (l : Link) (s : State) : State :=
  match s.pass with
  | none => s
  | some p =>
    if p.state.recordsOrNears && (linkOf l s).held then
      let t := changePass (fun q => { q with recording := q.recording.set l false }) s
      if p.groups.toList.any (groupLost l s) then abortPassNow .linkFault t else t
    else s

/-- The pass controller is told of the links that entered FAULT in a step (R141, R162). -/
def tellLosses (before after : State) : State :=
  Link.all.foldl (fun s l => if faultedIn before after l then memberLoss l s else s) after

/-! ### A pass at field events (R153 to R167) -/

/-- No needed link is in WAKING (R153). -/
def nonesWaking (p : Pass) (s : State) : Bool := (membersOf p.needed).all fun l => (linkOf l s).state != .waking

/-- Every needed link is ARMED or FAULT (R154). -/
def allSettled (p : Pass) (s : State) : Bool :=
  (membersOf p.needed).all fun l => (linkOf l s).state == .armed || (linkOf l s).state == .fault

/-- The cues go out (R153). -/
def issueCues (p : Pass) (s : State) : State :=
  eachLink p.needed (fun l s => cueRequest l (tcAdd s.follower.standard (p.tcIn.get l) (-p.preroll)) s)
    (changePass (fun q => { q with cuesIssued := true }) s)

/-- The members of a set in a link state. -/
def membersIn (x : LinkSet) (st : LinkState) (s : State) : LinkSet :=
  ⟨x.a && s.links.a.state == st, x.b && s.links.b.state == st, x.c && s.links.c.state == st⟩

/-- The member of lowest letter alone (R154, ANY). -/
def lowest (x : LinkSet) : LinkSet := ⟨x.a, x.b && !x.a, x.c && !x.b && !x.a⟩

/-- The resolved set of a route entry, and whether it calls for NO_RECORDER (R154). -/
def resolveRoute (r : Route) (s : State) : LinkSet × Bool :=
  let armed := membersIn r.dest .armed s
  match r.mode with
  | .all =>
    if r.safety then (armed, armed == noLinks) else (r.dest, membersIn r.dest .fault s != noLinks)
  | .any => (lowest armed, armed == noLinks)

/-- A group's entry after resolution (R154). -/
def resolveGroup (s : State) (g : Fin 16) : GroupEntry → GroupEntry
  | .unused => .unused
  | .spilled => .spilled
  | .awaited => .resolved (resolveRoute (routeOf s g) s).1 (routeOf s g).mode (routeOf s g).safety
  | .resolved set mode safety => .resolved set mode safety

/-- Some awaited group calls for NO_RECORDER (R154). -/
def noRecorder (p : Pass) (s : State) : Bool :=
  (List.finRange 16).any fun g => groupOf p g == .awaited && (resolveRoute (routeOf s g) s).2

/-- The group table after resolution (R154). -/
def resolvedGroups (p : Pass) (s : State) : Vector GroupEntry 16 :=
  Vector.ofFn fun g => resolveGroup s g (groupOf p g)

/-- The links of every resolved set: the taking-part links (R155). -/
def takingPart (groups : Vector GroupEntry 16) : LinkSet :=
  groups.toList.foldl
    (fun x g =>
      match g with
      | .resolved set _ _ => unionOf x set
      | .unused => x
      | .spilled => x
      | .awaited => x)
    noLinks

/-- Resolution (R154, R155). -/
def resolvePass (p : Pass) (s : State) : State :=
  let groups := resolvedGroups p s
  let t := changePass (fun q => { q with groups := groups }) s
  if noRecorder p s then abortPassNow .noRecorder t
  else
    let unused := minusOf p.needed (takingPart groups)
    let released := eachLink (membersIn unused .armed t) releaseRequest t
    changePass (fun q => { q with state := .waiting }) (unholdLinks unused (eachLink unused (lateFault t) released))

/-- PREPARING at a field event (R153, R154). -/
def preparePass (p : Pass) (s : State) : State :=
  let ready := p.cuesIssued || nonesWaking p s
  let t := if p.cuesIssued then s else if nonesWaking p s then issueCues p s else s
  if ready && allSettled p t then resolvePass p t else t

/-- The roll (R156). -/
def rollPass (s : State) : State :=
  eachLink (heldLinks s) rollRequest (changePass (fun q => { q with state := .rolling }) s)

/-- WAITING at a LOCKED field of index `x` (R156). -/
def waitPass (p : Pass) (x : Int) (s : State) : State :=
  if x = p.rollIndex then rollPass s else if p.rollIndex < x then abortPassNow .lateRoll s else s

/-- The out-point (R163). No recording set is worked there, so R160's order does not speak of it: that the LINK_FAULT entries of
links whose close overran follow the EDIT_OUT entries is the model's choice (notes/assumptions/23.md). -/
def outPoint (p : Pass) (x : Int) (s : State) : State :=
  eachLink (heldLinks s) (lateFault s)
    (eachLink (heldLinks s) (closeEdit p x)
      (changePass (fun q => { q with state := .closing, recording := noLinks }) s))

/-- RECORDING at a LOCKED field of index `x` (R159, R163). -/
def recordPass (p : Pass) (x : Int) (s : State) : State :=
  if s.follower.record.parity = .first then (if x < p.endIndex then workSet p x s else outPoint p x s) else s

/-- The PASS_END entry (R161, R167). -/
def passEndEntry (p : Pass) (s : State) : Entry :=
  { entryNow .passEnd s with
    value1 := bit p.cause.isSome, value2 := ((p.cause.map AbortCause.number).getD 0 : Nat) }

/-- Every held link is IDLE or FAULT, and no excursion tally is open (R167). No tally is open either while the one field that a
pass has recorded is still to be handled by the level monitor: when the pass controller handles the field first, the pass ends
and the EXCURSION entry of that field follows PASS_END, where R123 has it come before. That R167's condition is taken as it
stands is the model's choice (notes/assumptions/21.md). -/
def passDone (s : State) : Bool :=
  (membersOf (heldLinks s)).all (fun l => (linkOf l s).state == .idle || (linkOf l s).state == .fault)
    && s.level.tally.isNone

/-- CLOSING at a field event (R167). -/
def closePass (p : Pass) (s : State) : State :=
  if passDone s then
    let t := raise .pass (offer (passEndEntry p s) s)
    { unholdLinks (heldLinks t) t with pass := none }
  else s

/-- Do something with the field index of a LOCKED field; any other field is left alone (R156, R157, R159). -/
def atIndex (m : FieldMode) (f : Int → State → State) (s : State) : State :=
  match m with
  | .locked _ x => f x s
  | .free => s
  | .seeking => s

/-- ROLLING at a LOCKED field of index `x`: the in-point (R157). -/
def rollingPass (p : Pass) (x : Int) (s : State) : State := if x = p.inIndex then workSet p x s else s

/-- What a pass does at a field by its state (R153 to R167). -/
def passByState (p : Pass) (s : State) : State :=
  match p.state with
  | .preparing => preparePass p s
  | .waiting => atIndex s.follower.record.mode (waitPass p) s
  | .rolling => atIndex s.follower.record.mode (rollingPass p) s
  | .recording => atIndex s.follower.record.mode (recordPass p) s
  | .closing => closePass p s

/-- The pass record after it has taken a field's record: the index of a LOCKED field (R149, R156, R159). -/
def noteIndex (m : FieldMode) (p : Pass) : Pass :=
  match m with
  | .locked _ x => { p with lastIndex := some x }
  | .free => p
  | .seeking => p

/-- A pass at a field event: first the index and the flags, then what its state does (R164). -/
def passStep (p : Pass) (s : State) : State :=
  let r := s.follower.record
  let q := noteIndex r.mode p
  let t := { s with pass := some q }
  if q.state != .closing && r.unlocked then abortPassNow .referenceLost t
  else if q.state != .closing && r.slip then abortPassNow .slip t
  else passByState q t

/-- The pass controller's handling of a field event. -/
def passField (s : State) : State :=
  if s.port.running then
    match s.pass with
    | none => s
    | some p => tellLosses s (passStep p s)
  else s

end Sys2Proof.Machine
end

