-- ==== Sys2Proof/Machine/LinkEvents.lean ====
section
/-!
DEFINITION. Machine/LinkEvents.lean: the recorder links' events: bytes and reports, a directive sent, and what a link does
when a field event finds its timer or its silence count at the limit (08_routing_and_recorder_links.md).
-/
namespace Sys2Proof.Machine

/-- The byte 165 (R133): while hunting the framer starts a frame and notes the field number; within a frame the byte is
gathered as any other, and the pass controller is told of a fault that the completed frame brings. -/
def execStartByte (l : Link) (s : State) : Host.Outcome State Fault Refusal :=
  .next (tellLosses s (takeByte l Config.startByte s))

/-- The five bytes of a report after its start byte are in, and the pass controller is told of a fault (R133, R134, R141). -/
def takeFrame (l : Link) (k : ReportKind) (value : BitVec 24) (s : State) : State :=
  tellLosses s (reportFrame l k value s)

def execAwake (l : Link) (value : BitVec 24) (s : State) : Host.Outcome State Fault Refusal :=
  .next (takeFrame l .awake value s)

def execCued (l : Link) (value : BitVec 24) (s : State) : Host.Outcome State Fault Refusal :=
  .next (takeFrame l .cued value s)

def execLocked (l : Link) (value : BitVec 24) (s : State) : Host.Outcome State Fault Refusal :=
  .next (takeFrame l .locked value s)

def execWritten (l : Link) (value : BitVec 24) (s : State) : Host.Outcome State Fault Refusal :=
  .next (takeFrame l .written value s)

def execDone (l : Link) (value : BitVec 24) (s : State) : Host.Outcome State Fault Refusal :=
  .next (takeFrame l .done value s)

def execTrouble (l : Link) (value : BitVec 24) (s : State) : Host.Outcome State Fault Refusal :=
  .next (takeFrame l .trouble value s)

/-- The five bytes of any frame after its start byte are in (R133): the framer judges them. -/
def execDamagedFrame (l : Link) (kind : BitVec 8) (value : BitVec 24) (sum : BitVec 8) (s : State) :
    Host.Outcome State Fault Refusal :=
  .next (tellLosses s (takeBytes l (messageBytes kind value sum) s))

/-- The last byte of the oldest directive is sent (R132). -/
def execDirectiveSent (l : Link) (s : State) : Host.Outcome State Fault Refusal :=
  .next (setLinkRec l { linkOf l s with queue := (linkOf l s).queue.tail } s)

/-- A link's timer of one kind expires at the latest field event (R135), and the pass controller is told of the fault
(R141). -/
def expireTimer (k : TimerKind) (l : Link) (s : State) : State := tellLosses s (expiryOf k l s)

def execWakeTimerExpiry (l : Link) (s : State) : Host.Outcome State Fault Refusal := .next (expireTimer .wake l s)

def execCueTimerExpiry (l : Link) (s : State) : Host.Outcome State Fault Refusal := .next (expireTimer .cue l s)

def execWatchdogExpiry (l : Link) (s : State) : Host.Outcome State Fault Refusal := .next (expireTimer .watchdog l s)

def execCloseTimerExpiry (l : Link) (s : State) : Host.Outcome State Fault Refusal := .next (expireTimer .close l s)

/-- A link goes down by its silence count at the latest field event (R142). -/
def execAutoDown (l : Link) (s : State) : Host.Outcome State Fault Refusal :=
  .next (if goesDown l s then tellLosses s (autoDownNow l s) else s)

end Sys2Proof.Machine
end

