-- ==== Sys2Proof/Machine/LinkOrders.lean ====
section
/-!
DEFINITION. Machine/LinkOrders.lean: the route order and the link orders (08_routing_and_recorder_links.md).
-/
namespace Sys2Proof.Machine

/-- The entry that an accepted SET ROUTE writes (R129). -/
def routeEntry (a : RouteArgs) (mode : RouteMode) : Route :=
  if a.valid then ⟨a.dest, mode, a.safety, true⟩ else Route.invalid

/-- The number of links in a set. -/
def linkCount (x : LinkSet) : Nat := bit x.a + bit x.b + bit x.c

/-- SET ROUTE is taken (R129). -/
def takeSetRoute (b : OrderBlock) (s : State) : State :=
  let a := routeArgs b
  if passExists s then finish b .passActive 0 s
  else if h : 16 ≤ a.group then finish b .range 0 s
  else
    match a.mode with
    | none => finish b .range 0 s
    | some mode =>
      if mode = .any ∧ a.safety = true then finish b .range 0 s
      else if a.valid ∧ a.dest = noLinks then finish b .range 0 s
      else
        finish b .ok (linkCount (routeEntry a mode).dest)
          { s with routes := s.routes.set a.group (routeEntry a mode) (Nat.lt_of_not_le h) }

def execSetRoute (s : State) : Host.Outcome State Fault Refusal := .next (withOrder 64 s fun b => takeSetRoute b s)

/-- The settings of one link (R143). -/
def setLinkTo (a : LinkArgs) (autoWake : Bool) (r : LinkRec) : LinkRec :=
  { r with
    wakeLimit := a.wakeLimit, cueLimit := a.cueLimit, closeLimit := a.closeLimit, silenceLimit := a.silenceLimit,
    watchdogLimit := a.watchdogLimit, autoWake := autoWake }

/-- An accepted SET LINK (R142, R143): a silence limit acts from the next field event on, so an auto-down decision still to be
made for the latest field is made first, by the old limit (notes/assumptions/4.md). -/
def changeLink (a : LinkArgs) (autoWake : Bool) (l : Link) (s : State) : State :=
  let t := decideDown l s
  setLinkRec l (setLinkTo a autoWake (linkOf l t)) t

/-- SET LINK is taken (R143). -/
def takeSetLink (b : OrderBlock) (s : State) : State :=
  let a := linkArgs b
  match a.link, a.autoWake with
  | some l, some w =>
    if a.inRange then finish b .ok 0 (changeLink a w l s) else finish b .range 0 s
  | none, _ => finish b .range 0 s
  | some _, none => finish b .range 0 s

def execSetLink (s : State) : Host.Outcome State Fault Refusal := .next (withOrder 65 s fun b => takeSetLink b s)

/-- A link is woken for the controller's own use (R144); the pass controller is told of a fault (R141). -/
def wakeByOrder (l : Link) (s : State) : State :=
  if (linkOf l s).state = .down then tellLosses s (wakeRequest l .order s)
  else setLinkRec l { linkOf l s with owner := .order } s

/-- WAKE LINK is taken (R144): the detail count is the number of the state the link held. -/
def takeWakeLink (b : OrderBlock) (s : State) : State :=
  match linkOfCode (param b 12 1) with
  | none => finish b .range 0 s
  | some l =>
    if (linkOf l s).state = .fault then finish b .mode 8 s
    else finish b .ok (linkOf l s).state.number (wakeByOrder l s)

def execWakeLink (s : State) : Host.Outcome State Fault Refusal := .next (withOrder 66 s fun b => takeWakeLink b s)

/-- What an accepted RESET LINK makes of a link's record (R132, R146): in DOWN the queue alone is emptied. -/
def resetByOrder (r : LinkRec) : LinkRec :=
  if r.state = .down then { r with queue := keepLine r.queue } else downRec r

/-- RESET LINK is taken (R146): the detail count is the number of the fault cause the link held. -/
def takeResetLink (b : OrderBlock) (s : State) : State :=
  match linkOfCode (param b 12 1) with
  | none => finish b .range 0 s
  | some l =>
    if (linkOf l s).held then finish b .passActive 0 s
    else
      finish b .ok (((linkOf l s).cause.map FaultCause.number).getD 0)
        (setLinkRec l (resetByOrder (linkOf l s)) s)

def execResetLink (s : State) : Host.Outcome State Fault Refusal := .next (withOrder 67 s fun b => takeResetLink b s)

end Sys2Proof.Machine
end

