-- ==== Sys2Proof/Machine/LevelMonitor.lean ====
section
/-!
DEFINITION. Machine/LevelMonitor.lean: the level monitor (07_level_monitoring_and_scene_statistics.md).
-/
namespace Sys2Proof.Machine

/-! ### One field's measurement -/

/-- A channel before its first sample (R114). -/
def freshChan : ChanMeas := ⟨0, 1023, 0, 0, 0, 0⟩

/-- Triples of a field's active picture (R114). -/
def expectedSamples : Standard → Nat
  | .s50 => 720 * 288
  | .s60 => 720 * 243

/-- The measurement opened for the latest field (R114). -/
def openMeasurement (s : State) : Measurement :=
  let r := s.follower.record
  let x := lookup r.frame s.store
  { field := r.field, frame := r.frame, start := x.map fun y => y.1.start,
    number := (x.map fun y => y.1.number).getD 0, recorded := publishedPass s == some .recording, rest := false,
    expected := expectedSamples s.follower.standard, chans := Rgb.same freshChan }

/-- A component joins its channel (R115). -/
def takeSample (high low x : Int) (c : ChanMeas) : ChanMeas :=
  { count := c.count + 1, min := min c.min x, max := max c.max x, sum := c.sum + x,
    above := if high < x then c.above + 1 else c.above, below := if x < low then c.below + 1 else c.below }

/-- A copy joins the measurement (R115). -/
def takeCopy (set : LevelSettings) (rest : Bool) (x : Rgb Int) (m : Measurement) : Measurement :=
  { m with
    rest := m.rest || rest
    chans := ⟨takeSample set.high.r set.low.r x.r m.chans.r, takeSample set.high.g set.low.g x.g m.chans.g,
      takeSample set.high.b set.low.b x.b m.chans.b⟩ }

/-- A copy from the measurement tap: taken when its field number is that of the open measurement (R115). -/
def copyTap (g : FieldGrade) (x : Rgb Int) (l : Level) : Level :=
  match l.openMeas with
  | none => l
  | some m => if m.field = g.field then { l with openMeas := some (takeCopy l.set g.rest x m) } else l

/-- A channel as it is finished: without samples its extremes are written as 0 (R115). -/
def finishChan (c : ChanMeas) : ChanMeas := if c.count = 0 then { c with min := 0, max := 0 } else c

/-- A finished measurement (R115). -/
def finishMeasurement (m : Measurement) : Measurement := { m with chans := m.chans.map finishChan }

/-- A channel's mean (R115). -/
def ChanMeas.mean (c : ChanMeas) : Int := if c.count = 0 then 0 else c.sum / c.count

/-- A measurement is regular (R115). -/
def Measurement.regular (m : Measurement) : Bool :=
  m.chans.r.count == m.expected && m.chans.g.count == m.expected && m.chans.b.count == m.expected

/-! ### Judging -/

/-- A finished measurement is eligible (R117). -/
def eligible (l : Level) (m : Measurement) : Bool := l.set.on && m.regular && !m.rest

/-- The judgement of FIELD judging (R118). -/
def judgeField (limit : Nat) (m : Measurement) : AlertFlags :=
  ⟨m.chans.map fun c => decide (limit < c.above), m.chans.map fun c => decide (limit < c.below)⟩

/-- The averaging block after an eligible measurement (R119). -/
def gather (m : Measurement) (b : LevelBlock) : LevelBlock :=
  { fields := b.fields + 1, maxSum := b.maxSum.zip (· + ·) (m.chans.map ChanMeas.max),
    minSum := b.minSum.zip (· + ·) (m.chans.map ChanMeas.min) }

/-- The judgement of a complete block (R119). -/
def judgeBlock (set : LevelSettings) (b : LevelBlock) : AlertFlags :=
  ⟨b.maxSum.zip (fun (x h : Int) => decide (h < x / set.m)) set.high,
    b.minSum.zip (fun (x lo : Int) => decide (x / set.m < lo)) set.low⟩

/-- The averaging block after an eligible measurement, and its judgement when the field is judged (R118, R119). -/
def judge (l : Level) (m : Measurement) : LevelBlock × Option AlertFlags :=
  match l.set.judge with
  | .field => (l.block, some (judgeField l.set.countLimit m))
  | .averaged =>
    let b := gather m l.block
    if b.fields < l.set.m then (b, none) else (LevelBlock.empty, some (judgeBlock l.set b))

/-- A judged field's judgement, with the averaging block, of a finished measurement eligible or not (R117). -/
def judgeFinished (l : Level) (m : Measurement) : LevelBlock × Option AlertFlags :=
  if eligible l m then judge l m else (l.block, none)

/-- The flags after a judgement (R120). -/
def applyJudgement (mode : FlagMode) (old j : AlertFlags) : AlertFlags :=
  match mode with
  | .follow => j
  | .latch => old.zip (· || ·) j

/-- Some flag turned from clear to set (R120). -/
def rises (old new : AlertFlags) : Bool := (old.zip (fun o n => !o && n) new).any

/-- A judgement holds some flag set (R121, R122). -/
def excursion (j : Option AlertFlags) : Bool := j.any AlertFlags.any

/-- The flags take a judgement, and ALERT is raised when one rises (R120). -/
def takeJudgement (j : Option AlertFlags) (s : State) : State :=
  match j with
  | none => s
  | some f =>
    let new := applyJudgement s.level.set.flagMode s.level.flags f
    let t := { s with level := { s.level with flags := new } }
    if rises s.level.flags new then raise .alert t else t

/-! ### Statistics and the excursion tally -/

/-- The statistics part of a measurement (R121). -/
def statsOf (m : Measurement) (excursion : Bool) : Stats :=
  { frame := m.frame, field := m.field, min := m.chans.map ChanMeas.min, max := m.chans.map ChanMeas.max,
    mean := m.chans.map ChanMeas.mean, excursion := excursion }

/-- The statistics write of an eligible measurement of a scene (R121). -/
def statsField (m : Measurement) (excursion : Bool) (s : State) : State :=
  match m.start with
  | none => s
  | some f => { s with store := writeStats f (statsOf m excursion) s.store }

/-- The EXCURSION entry of a tally (R123). -/
def excursionEntry (t : Tally) : Entry :=
  { kind := .excursion, link := none, regained := false, frame := t.frame, field := t.field, timecode := none,
    scene := t.number, value1 := t.count, value2 := t.union.code }

/-- Close the tally (R123). -/
def closeTally (s : State) : State :=
  match s.level.tally with
  | none => s
  | some t =>
    let u := { s with level := { s.level with tally := none } }
    if 0 < t.count then offer (excursionEntry t) u else u

/-- A tally just opened for a measurement (R122, step 2). -/
def openTally (m : Measurement) : Tally :=
  { start := m.start, number := m.number, count := 0, union := AlertFlags.clear, field := m.field, frame := m.frame }

/-- The tally takes a recorded measurement (R122, step 3). -/
def Tally.take (t : Tally) (m : Measurement) (j : Option AlertFlags) : Tally :=
  let u := { t with field := m.field, frame := m.frame }
  if excursion j then { u with count := saturate t.count, union := t.union.zip (· || ·) (j.getD AlertFlags.clear) } else u

/-- The tally names another start frame than the measurement (R122, step 1). -/
def tallyDiffers (s : State) (m : Measurement) : Bool := s.level.tally.any fun t => t.start != m.start

/-- A recorded measurement is dealt with (R122). -/
def tallyField (m : Measurement) (j : Option AlertFlags) (s : State) : State :=
  if m.recorded then
    let s := if tallyDiffers s m then closeTally s else s
    let t := s.level.tally.getD (openTally m)
    { s with level := { s.level with tally := some (t.take m j) } }
  else s

/-- The finished measurement is dealt with (R116 to R122). -/
def dealMeasurement (m : Measurement) (s : State) : State :=
  let m := finishMeasurement m
  let v := judgeFinished s.level m
  let s' := { s with level := { s.level with last := some m, block := v.1 } }
  let s'' := takeJudgement v.2 s'
  tallyField m v.2 (if eligible s.level m then statsField m (excursion v.2) s'' else s'')

/-- Finish the open measurement, if there is one (R113). -/
def finishOpen (s : State) : State :=
  match s.level.openMeas with
  | none => s
  | some m => dealMeasurement m { s with level := { s.level with openMeas := none } }

/-- The tally is closed when the new field will not be recorded (R122). -/
def closeIfEnded (s : State) : State := if publishedPass s = some .recording then s else closeTally s

/-- The level monitor's handling of a field event (R113, R126). -/
def levelField (s : State) : State :=
  if s.port.running then
    let s := closeIfEnded (finishOpen s)
    { s with level := { s.level with openMeas := some (openMeasurement s) } }
  else s

/-- What RUN written 0 does to the monitor (R126). -/
def haltLevel (l : Level) : Level :=
  { l with openMeas := none, last := none, block := LevelBlock.empty, tally := none }

end Sys2Proof.Machine
end

