-- ==== Sys2Proof/Machine/LightMonitor.lean ====
section
/-!
DEFINITION. Machine/LightMonitor.lean: the light monitor (06_tube_light_compensation_and_rest.md).
-/
namespace Sys2Proof.Machine

/-- Discard the partial averaging block (R102). -/
def dropBlock (l : Light) : Light := { l with blockCount := 0, blockSum := 0 }

/-- Return the low run to 0 and clear low reported (R101). -/
def dropLowRun (l : Light) : Light := { l with lowRun := 0, lowReported := false }

/-- A LIGHT or WEAR entry with the scene of the grade in force (R101, R105). -/
def tubeEntry (kind : EntryKind) (v1 v2 : Nat) (s : State) : Entry :=
  { entryNow kind s with scene := s.grade.scene, value1 := v1, value2 := v2 }

/-- A low reading (R101). -/
def lowReading (reading : Nat) (s : State) : State :=
  let run := saturate s.light.lowRun
  let t := { s with light := { s.light with lowRun := run } }
  if run = 16 && !s.light.lowReported then
    offer (tubeEntry .light reading s.light.floor s)
      (raise .tube { t with light := { t.light with lowReported := true } })
  else t

/-- The light factor of a full block (R103). -/
def lightFactor (target sum n : Nat) : Int := clamp 2048 8191 ((4096 * target / (sum / n) : Nat) : Int)

/-- A reading joins the averaging block and may complete it (R102, R103). -/
def joinBlock (reading : Nat) (l : Light) : Light :=
  if l.blockCount + 1 < l.blockSize then
    { l with blockCount := l.blockCount + 1, blockSum := l.blockSum + reading }
  else { dropBlock l with k := lightFactor l.target (l.blockSum + reading) l.blockSize }

/-- The service check is due for a report (R105). -/
def serviceDue (l : Light) : Bool := l.serviceArmed && l.service != 0 && l.service ≤ l.wear

/-- The service check after an addition (R105). -/
def serviceCheck (s : State) : State :=
  if serviceDue s.light then
    offer (tubeEntry .wear (s.light.wear / 65536) (s.light.service / 65536) s)
      (raise .tube { s with light := { s.light with serviceArmed := false } })
  else s

/-- An accepted reading (R100 to R105). -/
def acceptedReading (reading : Nat) (s : State) : State :=
  let l := joinBlock reading (dropLowRun s.light)
  serviceCheck { s with light := { l with wear := min Config.wearTop (l.wear + reading) } }

/-- A light sample event (R100). -/
def takeReading (reading : Nat) (s : State) : State :=
  if !s.port.running || s.light.rest then s
  else if reading = 4095 then s
  else if reading < s.light.floor then lowReading reading s
  else acceptedReading reading s

/-- The rest count and the leaving of REST at a field event (R106, R108). -/
def countRest (frame : Int) (l : Light) : Light :=
  let count := if l.lastFrame = some frame then saturate l.restCount else 0
  { l with restCount := count, lastFrame := some frame, rest := l.rest && count != 0, restDue := true }

/-- The light monitor's handling of a field event, but for the decision on entering REST (R106, R108, R110). -/
def restField (s : State) : State :=
  if s.port.running then { s with light := countRest s.follower.record.frame s.light } else s

/-- The monitor enters REST by the count of the latest field (R107). -/
def entersRest (s : State) : Bool :=
  s.port.running && s.light.restDue && !s.light.rest && s.light.restLimit != 0
    && s.light.restLimit ≤ s.light.restCount && publishedPass s != some .recording

/-- REST is entered (R107). -/
def enterRestNow (s : State) : State :=
  { s with light := { dropLowRun (dropBlock s.light) with rest := true, restDue := false } }

/-- The decision of R107 for the latest field, if it is still to be made: taken within the field event's handling, or before
an accepted SET LIGHT changes the rest limit (R109). -/
def decideRest (s : State) : State :=
  if entersRest s then enterRestNow s else { s with light := { s.light with restDue := false } }

/-- What RUN written 0 does to the monitor (R110). -/
def haltLight (l : Light) : Light :=
  { dropLowRun (dropBlock l) with restCount := 0, lastFrame := none, rest := false, restDue := false }

/-- The settings and the working state after an accepted SET LIGHT (R109). -/
def setLightTo (a : LightArgs) (l : Light) : Light :=
  { dropLowRun (dropBlock l) with
    floor := a.floor, blockSize := a.blockSize, target := a.target, restLimit := a.restLimit, service := a.service,
    serviceArmed := true, wear := a.load.getD l.wear, rest := l.rest && a.restLimit != 0 }

/-- An accepted SET LIGHT (R109): a field event taken before it has decided on REST by the old rest limit, so a decision still
to be made for the latest field is made first (notes/assumptions/4.md). -/
def changeLight (a : LightArgs) (s : State) : State :=
  let t := decideRest s
  { t with light := setLightTo a t.light }

end Sys2Proof.Machine
end

