-- ==== Sys2Proof/Machine/Port.lean ====
section
/-!
DEFINITION. Machine/Port.lean: the exchange port and the journal and report writers (10_the_exchange_area.md): the
arbiter's requests and grants, the bytes of every access, the field poll, the order walker, halts and bus errors.
-/
namespace Sys2Proof.Machine

/-! ### Requests and the arbiter (R178)

A requester's request is read off the step its block has reached: a requester asks for the memory port whenever that
step needs an access (notes/assumptions/9.md). -/

/-- The data access that an order in flight waits for. -/
def progressKind : Progress → Option AccessKind
  | .handed => none
  | .fetchScene _ => some .sceneFetch
  | .fetchLoad _ => some .loadFetch
  | .slotScene _ => some .sceneSlot
  | .fetchLook _ _ => some .lookFetch
  | .slotLook _ => some .lookSlot
  | .resultIndex _ _ => some .resultIndex
  | .finishing _ => some .finalWrite

/-- The ORDER access that the walker waits for (R174 to R176). -/
def walkerKind : Walker → Option AccessKind
  | .idle => none
  | .reading _ _ => some .blockRead
  | .taking _ _ => some .takenWrite
  | .closing _ _ _ => some .abortedWrite
  | .flight _ p => progressKind p
  | .aborting _ => some .abortedWrite

/-- The POLL access that the field poll waits for (R172). -/
def pollKind : PollPhase → Option AccessKind
  | .idle => none
  | .headerRead => some .headerRead
  | .headerWrite => some .headerWrite
  | .linkRead => some .linkRead

/-- JOURNAL is requested: RUNNING, with room, and an entry waits (R171, R180). -/
def journalWants (s : State) : Bool := s.port.running && journalRoom s.journal && s.journal.queue != []

/-- A requester needs an access. -/
def wants (r : Requester) (s : State) : Bool :=
  match r with
  | .poll => (pollKind s.port.poll).isSome
  | .journal => journalWants s
  | .order => (walkerKind s.port.walker).isSome
  | .report => s.reports.waiting.isSome

/-- The member of a class of two that is granted (R178). -/
def pick (a b last : Requester) (s : State) : Option Requester :=
  if wants a s && wants b s then some (if last = a then b else a)
  else if wants a s then some a
  else if wants b s then some b
  else none

/-- The requester that the arbiter grants when the port is free (R178). An ABORTED write left over from a halt waits in ORDER's
class, so after RUN 1 the header accesses of the new field poll are granted ahead of it; that R171's "made first" puts it before
the walk alone is the model's choice (notes/assumptions/22.md). -/
def chosen (s : State) : Option Requester :=
  match pick .poll .journal s.port.lastHigh s with
  | some r => some r
  | none => pick .order .report s.port.lastLow s

/-- ACCESS (R169): an access of the port is pending or in progress. -/
def accessPending (s : State) : Bool :=
  s.port.access.isSome || wants .poll s || wants .journal s || wants .order s || wants .report s

/-- CONTROL, at offset 8 (R169). -/
def readControl (s : State) : BitVec 32 :=
  BitVec.ofNat 32 (place 0 1 (bit s.port.running) + place 2 1 (bit (accessPending s)) + place 4 2 s.port.haltCause.code)
    ||| unnamed 8 0xFFFFFFC8

/-! ### The bytes of the accesses -/

/-- The header write (R172; Layouts, Header). Bytes 41 to 43, of which the layout says only that the part writes them, come
from `free` (notes/assumptions/5.md). -/
def headerCells (s : State) (free : BitVec 512) : List Host.Cell :=
  let r := s.follower.record
  let a := areaAddress s
  cellsOf (a 8) 4 (statusWord s free) ++ cellsOf (a 12) 4 r.field.toNat ++ cellsOf (a 16) 4 (place 0 32 r.frame)
    ++ cellsOf (a 20) 4 s.port.followPoint.toNat ++ cellsOf (a 24) 4 s.port.finished.toNat
    ++ cellsOf (a 28) 2 s.journal.fill.toNat ++ cellsOf (a 30) 2 s.journal.lost ++ cellsOf (a 32) 2 s.reports.lastSlot
    ++ cellsOf (a 36) 8 (place 0 40 s.light.wear + place 40 24 (bitsOf free.toNat 23 24))

/-- State, outcome and detail count of a block (Layouts, Order block, bytes 6 to 11). -/
def outcomeWord (r : Result) : Nat :=
  place 0 16 r.outcome.blockState + place 16 16 r.outcome.number + place 32 16 r.detail

/-- The record that READ SCENES writes next, if one is left (R20). -/
def nextRecord (run : SceneRead) (s : State) : Option Scene :=
  if run.written < run.count then (readable run.first s.store)[run.written]? else none

/-- The access of an order in flight: its address and the bytes it stores (none for a fetch). -/
def progressCells (b : OrderBlock) (p : Progress) (s : State) (free : BitVec 512) : Nat × List Host.Cell :=
  let block := areaAddress s b.offset.toNat
  match p with
  | .handed => (block, [])
  | .fetchScene offset => (areaAddress s offset, [])
  | .fetchLoad run => (areaAddress s (run.offset + 64 * run.index), [])
  | .fetchLook _ offset => (areaAddress s offset, [])
  | .slotScene run =>
    let a := areaAddress s (run.offset + 64 * run.written)
    (a, match nextRecord run s with
        | none => []
        | some x => cellsOf a 64 (encodeScene x free))
  | .slotLook run =>
    let a := areaAddress s (run.offset + 32 * run.written)
    (a, cellsOf a 32 (lookRecord s.table (Fin.ofNat 64 (run.first + run.written)) free))
  | .resultIndex i _ => (block + 20, cellsOf (block + 20) 2 i)
  | .finishing r => (block + 6, cellsOf (block + 6) 6 (outcomeWord r))

/-- The walker's access: its address and the bytes it stores (R176). -/
def walkerCells (s : State) (free : BitVec 512) : Nat × List Host.Cell :=
  let closed (b : OrderBlock) : Nat × List Host.Cell :=
    (areaAddress s b.offset.toNat + 6, cellsOf (areaAddress s b.offset.toNat + 6) 6 (outcomeWord ⟨.aborted, 0⟩))
  match s.port.walker with
  | .idle => (areaAddress s 0, [])
  | .reading o _ => (areaAddress s o.toNat, [])
  | .taking b _ => (areaAddress s b.offset.toNat + 6, cellsOf (areaAddress s b.offset.toNat + 6) 2 2)
  | .closing b _ _ => closed b
  | .aborting b => closed b
  | .flight b p => progressCells b p s free

/-- The journal slot that the fill mark names (R180). -/
def journalSlot (x : JournalSet) (fill : BitVec 16) : Nat := x.offset + 32 * (fill.toNat % x.capacity)

/-- The JOURNAL access: the oldest entry into its slot (R180). -/
def journalCells (s : State) (free : BitVec 512) : Nat × List Host.Cell :=
  match s.journal.setting, s.journal.queue with
  | some x, e :: _ =>
    let a := areaAddress s (journalSlot x s.journal.fill)
    (a, cellsOf a 32 (encodeEntry e s.journal.fill.toNat free))
  | some _, [] => (areaAddress s 0, [])
  | none, _ => (areaAddress s 0, [])

/-- The REPORT access (R182). -/
def reportCells (s : State) : Nat × List Host.Cell :=
  match s.reports.waiting with
  | none => (areaAddress s 0, [])
  | some r => (areaAddress s r.offset, cellsOf (areaAddress s r.offset) 32 r.bytes.toNat)

/-- The access that a granted requester makes, formed as things stand at the grant (R172, R178). -/
def formAccess (r : Requester) (s : State) (free : BitVec 512) : Access :=
  match r with
  | .poll =>
    match s.port.poll with
    | .idle => ⟨.headerRead, areaAddress s 0, [], .stale⟩
    | .headerRead => ⟨.headerRead, areaAddress s 0, [], .live⟩
    | .headerWrite => ⟨.headerWrite, areaAddress s 8, headerCells s free, .live⟩
    | .linkRead => ⟨.linkRead, areaAddress s s.port.followPoint.toNat, [], .live⟩
  | .journal => ⟨.journal true true, (journalCells s free).1, (journalCells s free).2, .live⟩
  | .order =>
    ⟨(walkerKind s.port.walker).getD .blockRead, (walkerCells s free).1, (walkerCells s free).2, .live⟩
  | .report => ⟨.report ((s.reports.waiting.map FieldReport.slot).getD 0), (reportCells s).1, (reportCells s).2, .live⟩

/-- The arbiter's memory of a grant (R178). -/
def noteGrant (r : Requester) (p : Port) : Port :=
  match r with
  | .poll => { p with lastHigh := .poll }
  | .journal => { p with lastHigh := .journal }
  | .order => { p with lastLow := .order }
  | .report => { p with lastLow := .report }

/-- The report writer's request is no longer pending once it is granted (R182). -/
def clearGranted (r : Requester) (x : Reports) : Reports :=
  match r with
  | .report => { x with waiting := none }
  | .poll => x
  | .journal => x
  | .order => x

/-- Grant a requester the memory port (R178). -/
def grantTo (r : Requester) (s : State) : State :=
  { s with
    port := { noteGrant r s.port with access := some (formAccess r s (Config.freeBits s.freeIndex)) }
    reports := clearGranted r s.reports
    freeIndex := s.freeIndex + 1 }

/-- The arbiter grants one waiting request when the memory port is free (R178). -/
def grantAccess (s : State) : State :=
  if s.port.access.isSome then s
  else
    match chosen s with
    | none => s
    | some r => grantTo r s

/-! ### Completions -/

/-- An access ends with its data on the bus: a write's bytes are stored, and the memory port is free. -/
def endAccess (a : Access) (s : State) : State :=
  { s with area := Memory.write a.cells s.area, port := { s.port with access := none } }

/-- The completion of an access of some kind: `live` acts on its result unless the part has given it up. With no such
access in progress the command is no event of the part (notes/assumptions/2.md). -/
def complete (isKind : AccessKind → Bool) (s : State) (live stale : Access → State → State) : State :=
  match s.port.access with
  | none => s
  | some a =>
    if isKind a.kind then
      match a.status with
      | .live => live a (endAccess a s)
      | .stale => stale a (endAccess a s)
      | .forgotten => endAccess a s
    else s

/-- A stale access's result is not used. -/
def unused (_ : Access) (s : State) : State := s

/-- A data access of the order in flight has completed: its owner goes on from the order's progress. -/
def withProgress (s : State) (take : OrderBlock → Progress → State) : State :=
  match s.port.walker with
  | .flight b p => take b p
  | .idle => s
  | .reading _ _ => s
  | .taking _ _ => s
  | .closing _ _ _ => s
  | .aborting _ => s

/-! ### The field poll and the walker (R172 to R176) -/

/-- The field poll's phase. -/
def setPoll (p : PollPhase) (s : State) : State := { s with port := { s.port with poll := p } }

/-- A holdoff at the completion of a field poll (R183): it goes on only when the poll had begun before the ATTENTION write. -/
def Holdoff.afterPoll : Holdoff → Holdoff
  | .nextPoll => .nextPoll
  | .thisPoll => .clear
  | .nextField => .clear
  | .clear => .clear

/-- A holdoff at a field event taken while RUNNING, which begins a field poll (R172, R183). -/
def Holdoff.afterField : Holdoff → Holdoff
  | .nextPoll => .thisPoll
  | .thisPoll => .thisPoll
  | .nextField => .clear
  | .clear => .clear

/-- A holdoff when the run state changes (R183): from then on the next field event ends it, which comes before the end of any
poll under the new state. -/
def Holdoff.afterRunChange : Holdoff → Holdoff
  | .nextPoll => .nextField
  | .thisPoll => .nextField
  | .nextField => .nextField
  | .clear => .clear

/-- The field poll is complete, which ends a holdoff that waits for it (R172, R183). -/
def pollComplete (s : State) : State :=
  { s with port := { s.port with poll := .idle, holdoff := s.port.holdoff.afterPoll } }

/-- The taken mark of a header read (R172, R180): bytes 4 and 5. -/
def takeMark (bytes : BitVec 64) (s : State) : State :=
  { s with journal := { s.journal with taken := BitVec.ofNat 16 (bytes.toNat >>> 32) } }

/-- A link is broken (R174). -/
def isBroken (link : BitVec 32) : Bool :=
  link.toNat % 32 != 0 || link.toNat < 64 || Config.windowSize - 32 < link.toNat

/-- Set the broken-link note. -/
def noteBroken (n : Option (BitVec 32)) (s : State) : State := { s with port := { s.port with brokenNote := n } }

/-- The walker judges a link after `count` blocks of its walk (R174, R175). -/
def judgeLink (link : BitVec 32) (count : Nat) (s : State) : State :=
  let s := setWalker .idle s
  if link = 0 then noteBroken none s
  else if isBroken link then
    if s.port.brokenNote = some link then s else raise .chain (noteBroken (some link) s)
  else if count < Config.walkLimit then setWalker (.reading link count) (noteBroken none s)
  else noteBroken none s

/-- A block becomes the follow point (R175). -/
def follows (offset : BitVec 32) (s : State) : State := { s with port := { s.port with followPoint := offset } }

/-- A final or an ABORTED write has completed (R176): follow point, finished count, and ORDER under NOTIFY. -/
def closeBlock (b : OrderBlock) (s : State) : State :=
  let t := { s with port := { s.port with followPoint := b.offset, finished := s.port.finished + 1, walker := .idle } }
  if b.notify then raise .order t else t

/-- The header write is done: the link is read when no order is in flight and no walk is in progress (R172, R174). An ABORTED
write left over from a halt counts as a walk in progress, so it comes before the link read (R171, notes/assumptions/22.md). -/
def afterHeader (s : State) : State :=
  match s.port.walker with
  | .idle =>
    if s.port.followPoint = 0 then judgeLink s.port.firstOrder 0 (pollComplete s) else setPoll .linkRead s
  | .reading _ _ => pollComplete s
  | .taking _ _ => pollComplete s
  | .closing _ _ _ => pollComplete s
  | .flight _ _ => pollComplete s
  | .aborting _ => pollComplete s

/-- The link read is done (R172, R174). -/
def afterLink (link : BitVec 32) (s : State) : State := judgeLink link 0 (pollComplete s)

/-- The walker acts on the state of a block it has read (R175). -/
def actOnBlock (b : OrderBlock) (state count : Nat) (s : State) : State :=
  if state = 1 then setWalker (.taking b false) s
  else if state = 2 then setWalker (.closing b count false) s
  else if state = 3 ∨ state = 4 ∨ state = 5 then judgeLink b.link count (follows b.offset s)
  else setWalker .idle s

/-- A block read is done (R175). -/
def afterBlock (block : BitVec 256) (s : State) : State :=
  match s.port.walker with
  | .reading o n => actOnBlock (decodeBlock o block) (blockStateOf block) (n + 1) s
  | .idle => s
  | .taking _ _ => s
  | .closing _ _ _ => s
  | .flight _ _ => s
  | .aborting _ => s

/-- The TAKEN write is done: the order is in flight, handed to its owner, finished at once when no owner has its code
(R176), or written ABORTED when the part has halted meanwhile (R171). -/
def afterTaken (s : State) : State :=
  match s.port.walker with
  | .taking b true => setWalker (.aborting b) s
  | .taking b false => if knownCodes.contains b.code then proceed b .handed s else finish b .badOrder 0 s
  | .idle => s
  | .reading _ _ => s
  | .closing _ _ _ => s
  | .flight _ _ => s
  | .aborting _ => s

/-- An ABORTED write is done (R175, R176); the walk goes on unless the part has halted meanwhile (R171). -/
def afterAborted (s : State) : State :=
  match s.port.walker with
  | .closing b n halted => if halted then closeBlock b s else judgeLink b.link n (closeBlock b s)
  | .aborting b => closeBlock b s
  | .idle => s
  | .reading _ _ => s
  | .taking _ _ => s
  | .flight _ _ => s

/-- The result-index write is done: the final write follows (R176). -/
def afterResultIndex (s : State) : State :=
  withProgress s fun b p =>
    match p with
    | .resultIndex _ r => proceed b (.finishing r) s
    | .handed => s
    | .fetchScene _ => s
    | .fetchLoad _ => s
    | .slotScene _ => s
    | .fetchLook _ _ => s
    | .slotLook _ => s
    | .finishing _ => s

/-- The final write is done (R176). -/
def afterFinal (s : State) : State :=
  withProgress s fun b p =>
    match p with
    | .finishing _ => closeBlock b s
    | .handed => s
    | .fetchScene _ => s
    | .fetchLoad _ => s
    | .slotScene _ => s
    | .fetchLook _ _ => s
    | .slotLook _ => s
    | .resultIndex _ _ => s

/-! ### The journal and report writers (R180 to R182) -/

/-- The access kind is a journal slot write. -/
def AccessKind.isJournal : AccessKind → Bool
  | .journal _ _ => true
  | .headerRead => false
  | .headerWrite => false
  | .linkRead => false
  | .blockRead => false
  | .takenWrite => false
  | .abortedWrite => false
  | .sceneFetch => false
  | .loadFetch => false
  | .lookFetch => false
  | .sceneSlot => false
  | .lookSlot => false
  | .resultIndex => false
  | .finalWrite => false
  | .report _ => false

/-- The access kind is a field report write. -/
def AccessKind.isReport : AccessKind → Bool
  | .report _ => true
  | .journal _ _ => false
  | .headerRead => false
  | .headerWrite => false
  | .linkRead => false
  | .blockRead => false
  | .takenWrite => false
  | .abortedWrite => false
  | .sceneFetch => false
  | .loadFetch => false
  | .lookFetch => false
  | .sceneSlot => false
  | .lookSlot => false
  | .resultIndex => false
  | .finalWrite => false

/-- The fill mark advances (R180): JOURNAL is raised when unread has just reached the threshold. -/
def advanceFill (s : State) : State :=
  let j := { s.journal with fill := s.journal.fill + 1 }
  let t := { s with journal := j }
  if j.setting.map JournalSet.threshold = some (unread j) then raise .journal t else t

/-- A journal slot write is done (R171, R180, R181). -/
def afterJournal (a : Access) (s : State) : State :=
  match a.kind with
  | .journal pops advances =>
    let t := if pops then { s with journal := { s.journal with queue := s.journal.queue.tail } } else s
    if advances then advanceFill t else t
  | .headerRead => s
  | .headerWrite => s
  | .linkRead => s
  | .blockRead => s
  | .takenWrite => s
  | .abortedWrite => s
  | .sceneFetch => s
  | .loadFetch => s
  | .lookFetch => s
  | .sceneSlot => s
  | .lookSlot => s
  | .resultIndex => s
  | .finalWrite => s
  | .report _ => s

/-- A field report write is done (R182). -/
def afterReport (a : Access) (s : State) : State :=
  match a.kind with
  | .report slot => { s with reports := { s.reports with lastSlot := slot } }
  | .journal _ _ => s
  | .headerRead => s
  | .headerWrite => s
  | .linkRead => s
  | .blockRead => s
  | .takenWrite => s
  | .abortedWrite => s
  | .sceneFetch => s
  | .loadFetch => s
  | .lookFetch => s
  | .sceneSlot => s
  | .lookSlot => s
  | .resultIndex => s
  | .finalWrite => s

/-- The measured means and maxima of a field report: 0 while there is no last measurement (R116). -/
def measured (s : State) : Rgb Int × Rgb Int :=
  match s.level.last with
  | none => (Rgb.same 0, Rgb.same 0)
  | some m => (m.chans.map ChanMeas.mean, m.chans.map ChanMeas.max)

/-- The field report of the latest field (R182). -/
def formReport (x : ReportSet) (s : State) : FieldReport :=
  let slot := s.follower.record.field.toNat % x.slots
  { slot := slot, offset := x.offset + 32 * slot,
    bytes := encodeReport s.follower.record s.grade (measured s).1 (measured s).2 }

/-- The report writer at a field event (R182): a pending report is replaced. -/
def reportField (s : State) : State :=
  if s.port.running then
    match s.reports.setting with
    | none => s
    | some x => { s with reports := { s.reports with waiting := some (formReport x s) } }
  else s

/-! ### The poll at a field event (R172) -/

/-- The access kind is one of the field poll's. -/
def AccessKind.isPoll (k : AccessKind) : Bool := k == .headerRead || k == .headerWrite || k == .linkRead

/-- An access's result is given up, unless a reset has forgotten it already. -/
def Access.giveUp (a : Access) : Access := if a.status = .live then { a with status := .stale } else a

/-- A new poll begins: an access of the poll before is completed by the bus but serves it no more (R172). -/
def beginPoll (p : Port) : Port :=
  { p with
    poll := .headerRead, access := p.access.map fun a => if a.kind.isPoll then a.giveUp else a
    holdoff := p.holdoff.afterField }

/-- The exchange port at a field event (R172, R183). -/
def pollField (s : State) : State :=
  if s.port.running then { s with port := beginPoll s.port }
  else { s with port := { s.port with holdoff := .clear } }

/-! ### Halts (R171) -/

/-- The live access in progress has this kind. -/
def liveIs (k : AccessKind) (p : Port) : Bool := p.access.any fun a => a.status == .live && a.kind == k

/-- The walker at a halt (R171). -/
def haltWalker (p : Port) : Walker :=
  match p.walker with
  | .idle => .idle
  | .reading _ _ => .idle
  | .taking b _ => if liveIs .takenWrite p then .taking b true else .idle
  | .closing b n _ => if liveIs .abortedWrite p then .closing b n true else .idle
  | .flight b (.finishing r) => if liveIs .finalWrite p then .flight b (.finishing r) else .aborting b
  | .flight b .handed => .aborting b
  | .flight b (.fetchScene _) => .aborting b
  | .flight b (.fetchLoad _) => .aborting b
  | .flight b (.slotScene _) => .aborting b
  | .flight b (.fetchLook _ _) => .aborting b
  | .flight b (.slotLook _) => .aborting b
  | .flight b (.resultIndex _ _) => .aborting b
  | .aborting b => .aborting b

/-- The access in progress at a halt (R171): a TAKEN, ABORTED, final or report write keeps its effect, a journal write no
longer takes an entry from the queue, and the result of every other access is discarded, but for the taken mark of a header
read, which R171 does not name: that it still counts is the model's choice (notes/assumptions/10.md). -/
def haltAccess (a : Access) : Access :=
  match a.kind with
  | .headerRead => a.giveUp
  | .headerWrite => a.giveUp
  | .linkRead => a.giveUp
  | .blockRead => a.giveUp
  | .takenWrite => a
  | .abortedWrite => a
  | .sceneFetch => a.giveUp
  | .loadFetch => a.giveUp
  | .lookFetch => a.giveUp
  | .sceneSlot => a.giveUp
  | .lookSlot => a.giveUp
  | .resultIndex => a.giveUp
  | .finalWrite => a
  | .journal _ advances => { a with kind := .journal false advances }
  | .report _ => a

/-- The port at a halt (R171, R178). -/
def haltPort (cause : HaltCause) (p : Port) : Port :=
  { p with
    running := false, haltCause := cause, poll := .idle, walker := haltWalker p, access := p.access.map haltAccess,
    holdoff := p.holdoff.afterRunChange, lastHigh := .poll, lastLow := .order }

/-- A halt of the RUNNING part, with every block's share (R110, R126, R147, R168, R171). -/
def haltPart (cause : HaltCause) (s : State) : State :=
  { s with
    port := haltPort cause s.port
    journal := { s.journal with queue := [] }
    reports := { s.reports with waiting := none }
    light := haltLight s.light
    level := haltLevel s.level
    links := s.links.map haltRec
    pass := none }

/-! ### Bus errors (R177) -/

/-- What a bus error means by the kind of access (R177). -/
inductive ErrorClass where
  /-- a data access of an order -/
  | data
  /-- a header, link or order-block access -/
  | port
  /-- a journal slot write -/
  | journal
  /-- a field report write -/
  | report
  deriving DecidableEq, Repr

/-- The row of R177's table that an access falls under. -/
def errorClass : AccessKind → ErrorClass
  | .headerRead => .port
  | .headerWrite => .port
  | .linkRead => .port
  | .blockRead => .port
  | .takenWrite => .port
  | .abortedWrite => .port
  | .resultIndex => .port
  | .finalWrite => .port
  | .sceneFetch => .data
  | .loadFetch => .data
  | .lookFetch => .data
  | .sceneSlot => .data
  | .lookSlot => .data
  | .journal _ _ => .journal
  | .report _ => .report

/-- The access kind is one that the walker makes to an order block. -/
def AccessKind.isBlock (k : AccessKind) : Bool :=
  k == .blockRead || k == .takenWrite || k == .abortedWrite || k == .resultIndex || k == .finalWrite

/-- An order whose data access failed ends with BUS_FAULT (R22, R40, R177). -/
def dataFault (s : State) : State :=
  withProgress s fun b p =>
    match p with
    | .handed => s
    | .fetchScene _ => finish b .busFault 0 s
    | .fetchLoad run => proceed b (.resultIndex run.index ⟨.busFault, run.refused⟩) s
    | .slotScene run => finish b .busFault run.written s
    | .fetchLook _ _ => finish b .busFault 0 s
    | .slotLook run => finish b .busFault run.written s
    | .resultIndex _ _ => s
    | .finishing _ => s

/-- The access failed without storing anything, and the memory port is free. -/
def dropAccess (s : State) : State := { s with port := { s.port with access := none } }

/-- A live access to an order block failed: the walker lets the block be, as the error found it (R177). A result-index write that
RUN 0 made stale does not count: when it fails, the ABORTED write that R22 and R171 ask for at RUN 0 is still made, also when
RUN 1 has come in between, where R22's line on bus errors asks for none; that choice is the model's
(notes/assumptions/12.md). -/
def letBlockBe (a : Access) (s : State) : State :=
  if a.status = .live ∧ a.kind.isBlock then setWalker .idle s else s

/-- A bus error while RUNNING (R177). -/
def errorRunning (a : Access) (s : State) : State :=
  match errorClass a.kind with
  | .data => if a.status = .live then dataFault s else s
  | .port => haltPart .bus (raise .bus (letBlockBe a s))
  | .journal => haltPart .bus (raise .bus s)
  | .report => raise .bus { s with reports := { s.reports with setting := none, waiting := none } }

/-- A bus error while HALTED (R177): no state but the attention cause; the failed write is not made again
(notes/assumptions/12.md). -/
def errorHalted (a : Access) (s : State) : State :=
  match errorClass a.kind with
  | .data => s
  | .port => raise .bus (letBlockBe a s)
  | .journal => raise .bus s
  | .report => raise .bus s

/-- A bus error ends the access in progress (R177); the result of one that a reset has forgotten is discarded (R170). -/
def busErrorNow (s : State) : State :=
  match s.port.access with
  | none => s
  | some a =>
    let t := dropAccess s
    if a.status = .forgotten then t else if s.port.running then errorRunning a t else errorHalted a t

end Sys2Proof.Machine
end

