-- ==== Sys2Proof/Machine/LookOrders.lean ====
section
/-!
DEFINITION. Machine/LookOrders.lean: the look orders and the completions of their data accesses
(02_looks_house_looks_and_approval_locks.md).
-/
namespace Sys2Proof.Machine

/-! ### PUT LOOK -/

/-- PUT LOOK is taken (R30, R31). -/
def takePutLook (b : OrderBlock) (s : State) : State :=
  let index := param b 12 1
  let offset := param b 16 4
  let i : Fin 64 := Fin.ofNat 64 index
  if passExists s then finish b .passActive 0 s
  else if index = 0 ∨ 63 < index then finish b .range 0 s
  else if !inWindow offset 32 then finish b .range 0 s
  else if isHouse s.table i then finish b .protectedLook 0 s
  else if (lookAt s.table i).locks ≠ 0 then finish b .locked 0 s
  else proceed b (.fetchLook i offset) s

def execPutLook (s : State) : Host.Outcome State Fault Refusal := .next (withOrder 16 s fun b => takePutLook b s)

/-- A fetched look record is put (R32, R33). -/
def putLook (b : OrderBlock) (i : Fin 64) (record : BitVec 256) (s : State) : State :=
  let g := decodeLookGrade record.toNat
  let parent := decodeLookParent record.toNat
  match parentRefused s.table i parent with
  | some o => finish b o 0 s
  | none =>
    let t := writeLook i (clampGrade g) (Fin.ofNat 64 parent) s.table
    finish b (if clampGrade g = g then .ok else .clamped) (lookAt t i).level { s with table := t }

/-- The record of a PUT LOOK is in. -/
def afterLookFetch (record : BitVec 256) (s : State) : State :=
  withProgress s fun b p =>
    match p with
    | .fetchLook i _ => putLook b i record s
    | .handed => s
    | .fetchScene _ => s
    | .fetchLoad _ => s
    | .slotScene _ => s
    | .slotLook _ => s
    | .resultIndex _ _ => s
    | .finishing _ => s

def execLookFetchComplete (record : BitVec 256) (s : State) : Host.Outcome State Fault Refusal :=
  .next (complete (· == .lookFetch) s (fun _ t => afterLookFetch record t) unused)

/-! ### READ LOOKS -/

/-- READ LOOKS is taken (R38). -/
def takeReadLooks (b : OrderBlock) (s : State) : State :=
  let first := param b 12 1
  let count := param b 13 1
  let offset := param b 16 4
  if first ≤ 63 ∧ 1 ≤ count ∧ count ≤ 64 ∧ first + count ≤ 64 ∧ inWindow offset (32 * count) = true then
    proceed b (.slotLook ⟨first, count, offset, 0⟩) s
  else finish b .range 0 s

def execReadLooks (s : State) : Host.Outcome State Fault Refusal := .next (withOrder 17 s fun b => takeReadLooks b s)

/-- READ LOOKS goes on with its next look, or ends (R38). -/
def nextLook (b : OrderBlock) (run : LookRead) (s : State) : State :=
  if run.written < run.count then proceed b (.slotLook run) s else finish b .ok run.written s

/-- A slot of READ LOOKS is written (R38). -/
def afterLookSlot (s : State) : State :=
  withProgress s fun b p =>
    match p with
    | .slotLook run => nextLook b { run with written := run.written + 1 } s
    | .handed => s
    | .fetchScene _ => s
    | .fetchLoad _ => s
    | .slotScene _ => s
    | .fetchLook _ _ => s
    | .resultIndex _ _ => s
    | .finishing _ => s

def execReadLooksSlotWritten (s : State) : Host.Outcome State Fault Refusal :=
  .next (complete (· == .lookSlot) s (fun _ t => afterLookSlot t) unused)

/-! ### The house area -/

/-- The house sizes that SET HOUSE AREA takes (R35). -/
def houseSizes : List Nat := [4, 8, 12, 16, 20, 24, 28, 32]

/-- SET HOUSE AREA is taken (R30, R35). -/
def takeSetHouseArea (b : OrderBlock) (s : State) : State :=
  let h := param b 12 1
  if passExists s then finish b .passActive 0 s
  else if protectionOn s.table then finish b .protectedLook 0 s
  else if !houseSizes.contains h then finish b .range 0 s
  else finish b .ok h { s with table := { s.table with house := h } }

def execSetHouseArea (s : State) : Host.Outcome State Fault Refusal :=
  .next (withOrder 18 s fun b => takeSetHouseArea b s)

/-- CLEAR HOUSE LOOKS is taken (R30, R36). -/
def takeClearHouseLooks (b : OrderBlock) (s : State) : State :=
  if passExists s then finish b .passActive 0 s
  else if houseLocked s.table then finish b .locked 0 s
  else finish b .ok s.table.house { s with table := clearHouse s.table }

def execClearHouseLooks (s : State) : Host.Outcome State Fault Refusal :=
  .next (withOrder 19 s fun b => takeClearHouseLooks b s)

end Sys2Proof.Machine
end

