-- ==== Sys2Proof/Machine/PassOrders.lean ====
section
/-!
DEFINITION. Machine/PassOrders.lean: START PASS and ABORT PASS (09_record_passes.md).
-/
namespace Sys2Proof.Machine

/-- START PASS is taken (R150, R152): the detail count of an accepted one is the code of the needed set. -/
def takeStartPass (b : OrderBlock) (s : State) : State :=
  let a := passArgs b
  match startRefused a s with
  | some r => finish b r.outcome r.detail s
  | none => finish b .ok (setCode (newPass a s).needed) (acceptPass a s)

def execStartPass (s : State) : Host.Outcome State Fault Refusal := .next (withOrder 80 s fun b => takeStartPass b s)

/-- ABORT PASS is taken (R165): the detail count is the number of the pass state. -/
def takeAbortPass (b : OrderBlock) (s : State) : State :=
  if passExists s then finish b .ok (passNumber s) (abortPassNow .order s) else finish b .noPass 0 s

def execAbortPass (s : State) : Host.Outcome State Fault Refusal := .next (withOrder 81 s fun b => takeAbortPass b s)

end Sys2Proof.Machine
end

