-- ==== Sys2Proof/Machine/PortEvents.lean ====
section
/-!
DEFINITION. Machine/PortEvents.lean: the exchange port's events: grants, completions of header, link, block, journal and
report accesses, and bus errors (10_the_exchange_area.md).
-/
namespace Sys2Proof.Machine

/-- The header read of a poll is done: the header write is requested (R172). -/
def afterHeaderRead (bytes : BitVec 64) (s : State) : State :=
  let t := takeMark bytes s
  { t with port := { t.port with firstOrder := BitVec.ofNat 32 bytes.toNat, poll := .headerWrite } }

/-- HEADER_READ_COMPLETE (R172, R180). A header read whose poll a later field event has abandoned, or a halt has ended (R171),
still brings the taken mark when it completes, and nothing else: the model's choice (notes/assumptions/10.md). -/
def execHeaderReadComplete (bytes : BitVec 64) (s : State) : Host.Outcome State Fault Refusal :=
  .next (complete (· == .headerRead) s (fun _ t => afterHeaderRead bytes t) (fun _ t => takeMark bytes t))

def execHeaderWriteComplete (s : State) : Host.Outcome State Fault Refusal :=
  .next (complete (· == .headerWrite) s (fun _ t => afterHeader t) unused)

def execLinkReadComplete (link : BitVec 32) (s : State) : Host.Outcome State Fault Refusal :=
  .next (complete (· == .linkRead) s (fun _ t => afterLink link t) unused)

def execBlockReadComplete (block : BitVec 256) (s : State) : Host.Outcome State Fault Refusal :=
  .next (complete (· == .blockRead) s (fun _ t => afterBlock block t) unused)

def execTakenWriteComplete (s : State) : Host.Outcome State Fault Refusal :=
  .next (complete (· == .takenWrite) s (fun _ t => afterTaken t) unused)

def execResultIndexWriteComplete (s : State) : Host.Outcome State Fault Refusal :=
  .next (complete (· == .resultIndex) s (fun _ t => afterResultIndex t) unused)

def execFinalWriteComplete (s : State) : Host.Outcome State Fault Refusal :=
  .next (complete (· == .finalWrite) s (fun _ t => afterFinal t) unused)

def execAbortedWriteComplete (s : State) : Host.Outcome State Fault Refusal :=
  .next (complete (· == .abortedWrite) s (fun _ t => afterAborted t) unused)

def execAccessGrant (s : State) : Host.Outcome State Fault Refusal := .next (grantAccess s)

def execBusError (s : State) : Host.Outcome State Fault Refusal := .next (busErrorNow s)

def execJournalWriteComplete (s : State) : Host.Outcome State Fault Refusal :=
  .next (complete AccessKind.isJournal s afterJournal unused)

def execReportWriteComplete (s : State) : Host.Outcome State Fault Refusal :=
  .next (complete AccessKind.isReport s afterReport unused)

end Sys2Proof.Machine
end

