-- ==== Sys2Proof/Machine/PortOrders.lean ====
section
/-!
DEFINITION. Machine/PortOrders.lean: SET JOURNAL, SET REPORTS and MARK (10_the_exchange_area.md).
-/
namespace Sys2Proof.Machine

/-- A journal write in progress under a new journal completes without advancing the new fill mark (R181). -/
def detachJournal (a : Access) : Access :=
  match a.kind with
  | .journal pops _ => { a with kind := .journal pops false }
  | .headerRead => a
  | .headerWrite => a
  | .linkRead => a
  | .blockRead => a
  | .takenWrite => a
  | .abortedWrite => a
  | .sceneFetch => a
  | .loadFetch => a
  | .lookFetch => a
  | .sceneSlot => a
  | .lookSlot => a
  | .resultIndex => a
  | .finalWrite => a
  | .report _ => a

/-- A new journal (R181); the entries waiting stay in the queue. -/
def newJournal (a : JournalSet) (s : State) : State :=
  { s with
    journal := { Journal.reset with setting := some a, queue := s.journal.queue }
    port := { s.port with access := s.port.access.map detachJournal } }

/-- SET JOURNAL is taken (R181). -/
def takeSetJournal (b : OrderBlock) (s : State) : State :=
  let a := journalArgs b
  if passExists s then finish b .passActive 0 s
  else if a.inRange then finish b .ok 0 (newJournal a s)
  else finish b .range 0 s

def execSetJournal (s : State) : Host.Outcome State Fault Refusal :=
  .next (withOrder 96 s fun b => takeSetJournal b s)

/-- A report write in progress no longer changes the last report slot (R182). -/
def detachReport (p : Port) : Port :=
  { p with access := p.access.map fun a => if a.kind.isReport then a.giveUp else a }

/-- SET REPORTS is taken (R182). -/
def takeSetReports (b : OrderBlock) (s : State) : State :=
  let a := reportArgs b
  match flagCode (param b 17 1) with
  | none => finish b .range 0 s
  | some false =>
    finish b .ok 0
      { s with port := detachReport s.port, reports := { s.reports with setting := none, waiting := none } }
  | some true =>
    if a.inRange then
      finish b .ok 0
        { s with
          port := detachReport s.port
          reports := { setting := some a, lastSlot := Config.noReportSlot, waiting := none } }
    else finish b .range 0 s

def execSetReports (s : State) : Host.Outcome State Fault Refusal :=
  .next (withOrder 97 s fun b => takeSetReports b s)

/-- MARK is taken and finished (R184). -/
def execMark (s : State) : Host.Outcome State Fault Refusal := .next (withOrder 98 s fun b => finish b .ok 0 s)

end Sys2Proof.Machine
end

