-- ==== Sys2Proof/Machine/Grading.lean ====
section
/-!
DEFINITION. Machine/Grading.lean: the field grade (04_the_field_grade.md) and the picture path
(05_the_picture_path.md). Every quotient has a positive divisor and is rounded toward minus infinity (R67): that is
Lean's integer `/`.
-/
namespace Sys2Proof.Machine

/-! ### The field grade -/

/-- Compose a grade with one look (R70). -/
def composeLook (g look : Grade) : Grade :=
  { lift := g.lift.zip (fun x y => clamp (-512) 511 (x + y)) look.lift,
    gain := g.gain.zip (fun x y => clamp 0 4095 (x * y / 1024)) look.gain,
    mid := g.mid.zip (fun x y => clamp 128 896 (x + y - 512)) look.mid,
    sat := clamp 0 2047 (g.sat * look.sat / 1024) }

/-- A scene's composed grade: its own grade with each look of its chain, nearest first (R70). -/
def composed (t : LookTable) (s : Scene) : Grade :=
  (lookChain t s.look).foldl (fun g i => composeLook g (lookAt t i).grade) s.own

/-- The trim between a key `(o, x)` of one channel and the keys after it, at offset `d` (R72). -/
def trimFrom (chan : Rgb Int → Int) (o : Nat) (x : Int) (d : Int) : List TrimKey → Int
  | [] => x
  | k :: ks =>
    if d < k.offset then x + (chan k.trim - x) * (d - o) / (k.offset - o)
    else trimFrom chan k.offset (chan k.trim) d ks

/-- The gain trims of a scene at offset `d`, from the implicit key on (R72). -/
def trims (s : Scene) (d : Int) : Rgb Int :=
  ⟨trimFrom Rgb.r 0 0 d s.keys, trimFrom Rgb.g 0 0 d s.keys, trimFrom Rgb.b 0 0 d s.keys⟩

/-- A scene's scene grade at offset `d` (R73). -/
def sceneGrade (t : LookTable) (s : Scene) (d : Int) : Grade :=
  let g := composed t s
  { g with gain := g.gain.zip (fun x y => clamp 0 4095 (x + y)) (trims s d) }

/-- The outgoing grade of a dissolve (R75). -/
def outgoing (t : LookTable) (s : Scene) : Option Scene → Grade
  | none => unityGrade
  | some p => sceneGrade t p (s.start - p.start - 1)

/-- The dissolve weight (R76). -/
def weight (d : Int) (n : Nat) : Int := 256 * (d + 1) / (n + 1)

/-- Blend one value (R77). -/
def blend (w p s : Int) : Int := p + (s - p) * w / 256

/-- Blend the ten values of two grades (R77). -/
def blendGrade (w : Int) (p s : Grade) : Grade :=
  { lift := p.lift.zip (blend w) s.lift, gain := p.gain.zip (blend w) s.gain, mid := p.mid.zip (blend w) s.mid,
    sat := blend w p.sat s.sat }

/-- The grade of a frame in the span of `s`, after the dissolve step (R74 to R78). -/
def frameGrade (t : LookTable) (s : Scene) (p : Option Scene) (f : Int) : Grade :=
  let d := f - s.start
  match s.transition with
  | .cut => sceneGrade t s d
  | .dissolve n => if d < n then blendGrade (weight d n) (outgoing t s p) (sceneGrade t s d) else sceneGrade t s d

/-- The field grade computed for a field while RUNNING (R65, R68, R69, R79, R80). -/
def computeGrade (s : State) : FieldGrade :=
  let r := s.follower.record
  match lookup r.frame s.store with
  | none =>
    { field := r.field, grade := unityGrade, k := s.light.k, negative := s.picture.defaultNegative,
      rest := s.light.rest, scene := 0 }
  | some (x, p) =>
    { field := r.field, grade := frameGrade s.table x p r.frame, k := s.light.k, negative := x.negative,
      rest := s.light.rest, scene := x.number }

/-- The grade engine's handling of a field event, with the flags the picture path takes (R65, R66, R86). -/
def gradeField (s : State) : State :=
  if s.port.running then
    { s with
      grade := computeGrade s
      picture := { s.picture with haltPassage := false, legalInForce := s.picture.legalClip } }
  else
    { s with
      grade := haltGrade s.follower.record.field
      picture := { s.picture with haltPassage := true, legalInForce := false } }

/-! ### The picture path -/

/-- Negative inversion (R89). -/
def stageNegative (negative : Bool) (x : Int) : Int := if negative then 1023 - x else x

/-- Light factor (R90). -/
def stageLight (k x : Int) : Int := min 1023 (x * k / 4096)

/-- Gain and lift (R91). -/
def stageGain (gain lift x : Int) : Int := clamp 0 1023 (x * gain / 1024 + lift)

/-- Mid curve (R92). -/
def stageMid (m y : Int) : Int := if y ≤ 512 then y * m / 512 else m + (y - 512) * (1023 - m) / 511

/-- Luma (R93). -/
def luma (z : Rgb Int) : Int := (306 * z.r + 601 * z.g + 117 * z.b) / 1024

/-- Saturation (R93). -/
def stageSat (sat : Int) (z : Rgb Int) : Rgb Int :=
  z.map fun c => clamp 0 1023 (luma z + (c - luma z) * sat / 1024)

/-- The first four stages on one component (R88 to R92). -/
def gradeComponent (g : FieldGrade) (gain lift mid x : Int) : Int :=
  stageMid mid (stageGain gain lift (stageLight g.k (stageNegative g.negative x)))

/-- The triple after the saturation stage, as the measurement tap copies it (R88, R94). -/
def gradedTriple (g : FieldGrade) (x : Rgb Int) : Rgb Int :=
  stageSat g.grade.sat
    ⟨gradeComponent g g.grade.gain.r g.grade.lift.r g.grade.mid.r x.r,
      gradeComponent g g.grade.gain.g g.grade.lift.g g.grade.mid.g x.g,
      gradeComponent g g.grade.gain.b g.grade.lift.b g.grade.mid.b x.b⟩

/-- Legal clip and rest blanking (R95, R96). -/
def outputTriple (legal rest : Bool) (x : Rgb Int) : Rgb Int :=
  if rest then Rgb.same 64 else if legal then x.map (clamp 64 940) else x

/-- A sample triple's components as code values. -/
def codeValues (x : Rgb (BitVec 10)) : Rgb Int := x.map fun v => (v.toNat : Int)

end Sys2Proof.Machine
end

