-- ==== Sys2Proof/Machine/Registers.lean ====
section
/-!
DEFINITION. Machine/Registers.lean: the register writes and the three resets (R169 to R171, R183, and the reset tables
R23, R41, R63, R66, R84, R86, R111, R127, R128, R148).
-/
namespace Sys2Proof.Machine

/-! ### Register writes -/

/-- A RUN write of 1 (R171). -/
def runPart (s : State) : State :=
  { s with port := { s.port with running := true, holdoff := s.port.holdoff.afterRunChange } }

def execRunWritten1 (s : State) : Host.Outcome State Fault Refusal := .next (if s.port.running then s else runPart s)

/-- A RUN write of 0 (R171). -/
def execRunWritten0 (s : State) : Host.Outcome State Fault Refusal :=
  .next (if s.port.running then haltPart .order s else s)

/-- A write to BASE is taken while HALTED with no access pending or in progress (R169). -/
def execBaseWrite (value : BitVec 32) (s : State) : Host.Outcome State Fault Refusal :=
  .next
    (if s.port.running || accessPending s then s
    else { s with port := { s.port with base := BitVec.ofNat 16 (value.toNat >>> 16) } })

/-- The holdoff that a write to ATTENTION starts (R183). -/
def startHoldoff (p : Port) : Holdoff := if p.running then .nextPoll else .nextField

/-- A write to ATTENTION clears the causes written as 1 and starts a holdoff (R169, R183). -/
def execAttentionWrite (value : BitVec 32) (s : State) : Host.Outcome State Fault Refusal :=
  .next
    { s with
      port := { s.port with attention := s.port.attention &&& ~~~(value.setWidth 9), holdoff := startHoldoff s.port } }

/-- A write to NOTICE MASK replaces the nine enables (R169). -/
def execNoticeMaskWrite (value : BitVec 32) (s : State) : Host.Outcome State Fault Refusal :=
  .next { s with port := { s.port with mask := value.setWidth 9 } }

/-! ### The registers by their offsets (R169; Layouts, Registers) -/

/-- The command that a write to CONTROL is: a soft reset with SOFT RESET at 1, whatever RUN is; else RUN says which. -/
def controlCommand (value : BitVec 32) : Instr :=
  if value.getLsbD 1 then .softReset else if value.getLsbD 0 then .runWritten1 else .runWritten0

/-- The command that a write to the register at an offset is; IDENT is read-only, and no register lies elsewhere. -/
def writeCommand (offset : Nat) (value : BitVec 32) : Option Instr :=
  if offset = 4 then some (.baseWrite value)
  else if offset = 8 then some (controlCommand value)
  else if offset = 12 then some (.attentionWrite value)
  else if offset = 16 then some (.noticeMaskWrite value)
  else none

/-- A register write by the controller: its command joins the back of the queue. -/
def sendWrite (offset : Nat) (value : BitVec 32) (s : State) : State :=
  { s with pending := s.pending ++ (writeCommand offset value).toList }

/-- What a read of the register at an offset brings; no register lies elsewhere. -/
def readRegister (offset : Nat) (s : State) : Option (BitVec 32) :=
  if offset = 0 then some (readIdent s)
  else if offset = 4 then some (readBase s)
  else if offset = 8 then some (readControl s)
  else if offset = 12 then some (readAttention s)
  else if offset = 16 then some (readNoticeMask s)
  else none

/-! ### Resets -/

/-- An access under way is completed by the bus, and the part discards its result (R170). -/
def forget (a : Access) : Access := { a with status := .forgotten }

/-- The port after a reset (R170, R178). -/
def resetPort (kind : ResetKind) (base : BitVec 16) (mask : BitVec 9) (p : Port) : Port :=
  { Port.reset with resetKind := kind, base := base, mask := mask, access := p.access.map forget }

/-- A power-on reset. The memory that the part has written lies in the controller and stays. -/
def powerOn (s : State) : State :=
  { State.reset with pending := s.pending, port := resetPort .power 0 0 s.port, area := s.area, freeIndex := s.freeIndex }

def execPowerOnReset (s : State) : Host.Outcome State Fault Refusal := .next (powerOn s)

/-- A board reset keeps the looks without their lock counts, the house area (R41), and the tube's wear total (R111). -/
def boardReset (s : State) : State :=
  { powerOn s with
    port := resetPort .board 0 0 s.port
    table := unlockAll s.table
    light := { Light.reset with wear := s.light.wear } }

def execBoardReset (s : State) : Host.Outcome State Fault Refusal := .next (boardReset s)

/-- The follower after a soft reset (R63). The record latest published stands (R59). -/
def softFollower (f : Follower) : Follower :=
  { f with mode := .free, standIn := false, heldNote := false, lastParity := none, frameRef := false }

/-- A soft reset keeps the store, the looks, the routes and most settings (R23, R41, R63, R84, R111, R127, R128, R148). -/
def softReset (s : State) : State :=
  { s with
    port := resetPort .soft s.port.base s.port.mask s.port
    journal := Journal.reset
    reports := Reports.reset
    follower := softFollower s.follower
    grade := haltGrade s.follower.record.field
    picture := { s.picture with haltPassage := true, legalInForce := false }
    light := haltLight s.light
    level := { haltLevel s.level with flags := AlertFlags.clear }
    links := s.links.map softRec
    pass := none }

def execSoftReset (s : State) : Host.Outcome State Fault Refusal := .next (softReset s)

end Sys2Proof.Machine
end

