-- ==== Sys2Proof/Machine/Field.lean ====
section
/-!
DEFINITION. Machine/Field.lean: a field event whole: the follower publishes its record, and then every block handles
the field, in the order that the command gives (00_scope.md: the manual gives the outcome for either order).
-/
namespace Sys2Proof.Machine

/-- The link controller looks at one link's timer, and the pass controller is told of a fault (R135, R141). -/
def timerField (l : Link) (s : State) : State := tellLosses s (checkTimer l s)

/-- The link controller decides on one link's auto-down, and the pass controller is told of a fault (R142, R141). -/
def downField (l : Link) (s : State) : State := tellLosses s (decideDown l s)

/-- One block's share of a field event. -/
def runAct (a : FieldAct) (s : State) : State :=
  match a with
  | .grade => gradeField s
  | .restCount => restField s
  | .restEntry => decideRest s
  | .measure => levelField s
  | .framers => framersField s
  | .silence => silenceField s
  | .timer l => timerField l s
  | .autoDown l => downField l s
  | .pass => passField s
  | .report => reportField s
  | .poll => pollField s

/-- The shares that every field event has. -/
def mandatoryActs : List FieldAct := [.grade, .restCount, .measure, .framers, .silence, .pass, .report, .poll]

/-- The shares that may be left to commands of their own (ENTER_REST, the timer expiries, AUTO_DOWN). -/
def optionalActs : List FieldAct :=
  [.restEntry, .timer .a, .timer .b, .timer .c, .autoDown .a, .autoDown .b, .autoDown .c]

/-- The order of a field's shares: the given one, each once, with the mandatory ones that it leaves out at the end. -/
def arrange (order : List FieldAct) : List FieldAct :=
  order.eraseDups ++ mandatoryActs.filter fun a => !order.contains a

/-- What the field event before has left undone is done before the next one (notes/assumptions/4.md). -/
def settleField (s : State) : State := optionalActs.foldl (fun s a => runAct a s) s

/-- A field event of parity `p`; `timer` marks one that the follower's field timer made (R58, R60). -/
def fieldStep (p : Parity) (timer : Bool) (order : List FieldAct) (s : State) : State :=
  (arrange order).foldl (fun s a => runAct a s) (publish p timer (settleField s))

end Sys2Proof.Machine
end

