-- ==== Sys2Proof/Machine/ScannerEvents.lean ====
section
/-!
DEFINITION. Machine/ScannerEvents.lean: the scanner's events: perforations, fields, picture and light samples, and REST
(03 to 07).
-/
namespace Sys2Proof.Machine

/-- A perf event (R42). -/
def execPerfEvent (d : Direction) (s : State) : Host.Outcome State Fault Refusal :=
  .next { s with follower := countPerf d s.follower }

/-- A reference field event (R58, R61). -/
def execFieldEvent (p : Parity) (order : List FieldAct) (s : State) : Host.Outcome State Fault Refusal :=
  .next (fieldStep p false order s)

/-- The reference watch expires: stand-in begins with its first field event (R60). In stand-in the watch does not run. -/
def execReferenceWatchExpiry (order : List FieldAct) (s : State) : Host.Outcome State Fault Refusal :=
  .next (if s.follower.standIn then s else fieldStep (standInParity s.follower) true order s)

/-- The field timer makes a field event while stand-in lasts (R60). -/
def execStandInField (order : List FieldAct) (s : State) : Host.Outcome State Fault Refusal :=
  .next (if s.follower.standIn then fieldStep (standInParity s.follower) true order s else s)

/-- The tap hands over a copy unless halt passage is set (R94). -/
def tapTriple (x : Rgb Int) (s : State) : State :=
  if s.picture.haltPassage then s else { s with level := copyTap s.grade x s.level }

/-- A sample triple of the active picture (R87, R88). -/
def takeTriple (x : Rgb Int) (s : State) : State :=
  let z := gradedTriple s.grade x
  let t := tapTriple z s
  { t with picture := { t.picture with output := outputTriple s.picture.legalInForce s.grade.rest z } }

def execSampleTriple (x : Rgb (BitVec 10)) (s : State) : Host.Outcome State Fault Refusal :=
  .next (takeTriple (codeValues x) s)

/-- A light sample event (R100). It comes in vertical blanking, where the output is 64; the sample itself is not passed on
(R87). -/
def execLightSampleEvent (reading : BitVec 12) (s : State) : Host.Outcome State Fault Refusal :=
  .next (takeReading reading.toNat (blankOutput s))

/-- The light monitor enters REST at the latest field event (R107). -/
def execEnterRest (s : State) : Host.Outcome State Fault Refusal := .next (if entersRest s then enterRestNow s else s)

end Sys2Proof.Machine
end

