-- ==== Sys2Proof/Machine/SceneOrders.lean ====
section
/-!
DEFINITION. Machine/SceneOrders.lean: the scene orders and the completions of their data accesses
(01_the_scene_store.md).
-/
namespace Sys2Proof.Machine

/-- The outcome of a put that stored its record (R6). -/
def storedOutcome (clamped : Bool) : OutcomeCode := if clamped then .clamped else .ok

/-! ### PUT SCENE -/

/-- PUT SCENE is taken (R11, R12). -/
def takePutScene (b : OrderBlock) (s : State) : State :=
  if passExists s then finish b .passActive 0 s
  else if !inWindow (param b 12 4) 64 then finish b .range 0 s
  else proceed b (.fetchScene (param b 12 4)) s

def execPutScene (s : State) : Host.Outcome State Fault Refusal := .next (withOrder 1 s fun b => takePutScene b s)

/-- A fetched record is put by PUT SCENE (R12). -/
def putFetched (b : OrderBlock) (r : RawScene) (s : State) : State :=
  match putVerdict s.store r with
  | .refused o => finish b o 0 s
  | .stored clamped replaced =>
    finish b (storedOutcome clamped) (bit replaced) { s with store := insertScene r.stored s.store }

/-- The record of a PUT SCENE is in. -/
def afterSceneFetch (record : BitVec 512) (s : State) : State :=
  withProgress s fun b p =>
    match p with
    | .fetchScene _ => putFetched b (decodeScene record) s
    | .handed => s
    | .fetchLoad _ => s
    | .slotScene _ => s
    | .fetchLook _ _ => s
    | .slotLook _ => s
    | .resultIndex _ _ => s
    | .finishing _ => s

def execSceneFetchComplete (record : BitVec 512) (s : State) : Host.Outcome State Fault Refusal :=
  .next (complete (· == .sceneFetch) s (fun _ t => afterSceneFetch record t) unused)

/-! ### REMOVE SCENE and CLEAR SCENES -/

/-- REMOVE SCENE is taken (R11, R13). -/
def takeRemoveScene (b : OrderBlock) (s : State) : State :=
  let f := paramFrame b 12
  if passExists s then finish b .passActive 0 s
  else if !hasStart s.store f then finish b .range 0 s
  else if removeProtected s.store f then finish b .locked 0 s
  else finish b .ok 0 { s with store := removeAt s.store f }

def execRemoveScene (s : State) : Host.Outcome State Fault Refusal :=
  .next (withOrder 2 s fun b => takeRemoveScene b s)

/-- CLEAR SCENES is taken (R11, R14). -/
def takeClearScenes (b : OrderBlock) (s : State) : State :=
  if passExists s then finish b .passActive 0 s
  else finish b .ok (clearStore s.store).length { s with store := clearStore s.store }

def execClearScenes (s : State) : Host.Outcome State Fault Refusal :=
  .next (withOrder 3 s fun b => takeClearScenes b s)

/-! ### LOCK SCENES and UNLOCK SCENES -/

/-- The LOCKED flags of a range are set or cleared, with the lock counts of the scenes that change (R10, R15, R16). -/
def lockRange (flag : Bool) (change : Nat → Nat) (b : OrderBlock) (s : State) : State :=
  let first := paramFrame b 12
  let last := paramFrame b 16
  let changed := inRangeScenes first last (!flag) s.store
  if passExists s then finish b .passActive 0 s
  else
    finish b .ok changed.length
      { s with store := flagRange first last flag s.store, table := countLocks change changed s.table }

def execLockScenes (s : State) : Host.Outcome State Fault Refusal :=
  .next (withOrder 4 s fun b => lockRange true (· + 1) b s)

def execUnlockScenes (s : State) : Host.Outcome State Fault Refusal :=
  .next (withOrder 5 s fun b => lockRange false (· - 1) b s)

/-! ### LOAD SCENES -/

/-- A refused LOAD SCENES: its final write too is preceded by a write of the result index (R176), whose value the manual
does not give (notes/assumptions/5.md). -/
def refuseLoad (b : OrderBlock) (o : OutcomeCode) (s : State) : State :=
  proceed b (.resultIndex (bitsOf (Config.freeBits s.freeIndex).toNat 0 16) ⟨o, 0⟩)
    { s with freeIndex := s.freeIndex + 1 }

/-- The parameter checks of R17, but for the mode. -/
def loadInRange (offset count : Nat) : Bool := 1 ≤ count && count ≤ Config.storeCapacity && inWindow offset (64 * count)

/-- LOAD SCENES is taken (R11, R17). -/
def takeLoadScenes (b : OrderBlock) (s : State) : State :=
  let offset := param b 12 4
  let count := param b 16 2
  let run : LoadRun := ⟨offset, count, 0, 0, none, false⟩
  if passExists s then refuseLoad b .passActive s
  else if !loadInRange offset count then refuseLoad b .range s
  else
    match flagCode (param b 18 1) with
    | none => refuseLoad b .range s
    | some replace => proceed b (.fetchLoad run) { s with store := if replace then clearStore s.store else s.store }

def execLoadScenes (s : State) : Host.Outcome State Fault Refusal := .next (withOrder 6 s fun b => takeLoadScenes b s)

/-- The load's account after a record's verdict (R18). -/
def LoadRun.afterPut (run : LoadRun) (v : PutVerdict) : LoadRun :=
  match v with
  | .refused _ =>
    { run with index := run.index + 1, refused := run.refused + 1, firstRefused := run.firstRefused <|> some run.index }
  | .stored clamped _ => { run with index := run.index + 1, clamped := run.clamped || clamped }

/-- The outcome of a load whose last record has been dealt with (R19). -/
def LoadRun.result (run : LoadRun) : Result :=
  if 0 < run.refused then ⟨.partially, run.refused⟩ else ⟨storedOutcome run.clamped, 0⟩

/-- The load goes on with its next record, or ends (R18, R19). -/
def nextLoad (b : OrderBlock) (run : LoadRun) (s : State) : State :=
  if run.index < run.count then proceed b (.fetchLoad run) s
  else proceed b (.resultIndex (run.firstRefused.getD run.count) run.result) s

/-- A record of a load is in (R18). -/
def afterLoadFetch (record : BitVec 512) (s : State) : State :=
  withProgress s fun b p =>
    match p with
    | .fetchLoad run =>
      let r := decodeScene record
      nextLoad b (run.afterPut (putVerdict s.store r)) { s with store := putRecord s.store r }
    | .handed => s
    | .fetchScene _ => s
    | .slotScene _ => s
    | .fetchLook _ _ => s
    | .slotLook _ => s
    | .resultIndex _ _ => s
    | .finishing _ => s

def execLoadRecordFetchComplete (record : BitVec 512) (s : State) : Host.Outcome State Fault Refusal :=
  .next (complete (· == .loadFetch) s (fun _ t => afterLoadFetch record t) unused)

/-! ### READ SCENES -/

/-- READ SCENES goes on with its next record, or ends (R20). -/
def nextRead (b : OrderBlock) (run : SceneRead) (s : State) : State :=
  if (nextRecord run s).isSome then proceed b (.slotScene run) s else finish b .ok run.written s

/-- READ SCENES is taken (R20). -/
def takeReadScenes (b : OrderBlock) (s : State) : State :=
  let offset := param b 16 4
  let count := param b 20 2
  if !loadInRange offset count then finish b .range 0 s else nextRead b ⟨paramFrame b 12, count, offset, 0⟩ s

def execReadScenes (s : State) : Host.Outcome State Fault Refusal := .next (withOrder 7 s fun b => takeReadScenes b s)

/-- A slot of READ SCENES is written (R20). -/
def afterSceneSlot (s : State) : State :=
  withProgress s fun b p =>
    match p with
    | .slotScene run => nextRead b { run with written := run.written + 1 } s
    | .handed => s
    | .fetchScene _ => s
    | .fetchLoad _ => s
    | .fetchLook _ _ => s
    | .slotLook _ => s
    | .resultIndex _ _ => s
    | .finishing _ => s

def execReadScenesSlotWritten (s : State) : Host.Outcome State Fault Refusal :=
  .next (complete (· == .sceneSlot) s (fun _ t => afterSceneSlot t) unused)

end Sys2Proof.Machine
end

