-- ==== Sys2Proof/Machine/SettingOrders.lean ====
section
/-!
DEFINITION. Machine/SettingOrders.lean: the orders of the follower, the picture path, the light monitor and the level
monitor (03, 05, 06 and 07).
-/
namespace Sys2Proof.Machine

/-- The field standard that a parameter names (R44). -/
def standardOf (v : Nat) : Option Standard := if v = 50 then some .s50 else if v = 60 then some .s60 else none

/-- A new standard and PPF; a changed PPF keeps the tach frame, at its first perforation (R44). -/
def setStandard (std : Standard) (ppf : Nat) (f : Follower) : Follower :=
  { f with standard := std, ppf := ppf, perf := if ppf = f.ppf then f.perf else tachFrame f * ppf }

/-- SET STANDARD is taken (R44). -/
def takeSetStandard (b : OrderBlock) (s : State) : State :=
  let ppf := param b 13 1
  if passExists s then finish b .passActive 0 s
  else if s.follower.mode ≠ .free then finish b .mode 0 s
  else
    match standardOf (param b 12 1) with
    | none => finish b .range 0 s
    | some std =>
      if 1 ≤ ppf ∧ ppf ≤ 4 then finish b .ok 0 { s with follower := setStandard std ppf s.follower }
      else finish b .range 0 s

def execSetStandard (s : State) : Host.Outcome State Fault Refusal :=
  .next (withOrder 32 s fun b => takeSetStandard b s)

/-- SET POSITION is taken (R45). -/
def takeSetPosition (b : OrderBlock) (s : State) : State :=
  let f := paramFrame b 12
  if passExists s then finish b .passActive 0 s
  else if s.follower.mode ≠ .free then finish b .mode 0 s
  else if !isFrame f then finish b .range 0 s
  else finish b .ok 0 { s with follower := { s.follower with perf := f * s.follower.ppf } }

def execSetPosition (s : State) : Host.Outcome State Fault Refusal :=
  .next (withOrder 33 s fun b => takeSetPosition b s)

/-- The cadence parameters of SET FOLLOW lie in their ranges (R46). -/
def cadenceInRange (o : Int) (div odd : Nat) : Bool := isFrame o && 1 ≤ div && div ≤ 15 && odd ≤ 1

/-- SET FOLLOW is taken (R46). -/
def takeSetFollow (b : OrderBlock) (s : State) : State :=
  let o := paramFrame b 16
  let div := param b 20 1
  let odd := param b 21 1
  if passExists s then finish b .passActive 0 s
  else
    match flagCode (param b 12 1) with
    | none => finish b .range 0 s
    | some false => finish b .ok 0 { s with follower := { s.follower with mode := .free } }
    | some true =>
      if cadenceInRange o div odd then
        finish b .ok 0 { s with follower := { s.follower with mode := .seeking, origin := o, div := div, odd := odd } }
      else finish b .range 0 s

def execSetFollow (s : State) : Host.Outcome State Fault Refusal := .next (withOrder 34 s fun b => takeSetFollow b s)

/-- SET PICTURE is taken (R84). -/
def takeSetPicture (b : OrderBlock) (s : State) : State :=
  if passExists s then finish b .passActive 0 s
  else
    match flagCode (param b 12 1), flagCode (param b 13 1) with
    | some clip, some negative =>
      finish b .ok 0 { s with picture := { s.picture with legalClip := clip, defaultNegative := negative } }
    | none, _ => finish b .range 0 s
    | some _, none => finish b .range 0 s

def execSetPicture (s : State) : Host.Outcome State Fault Refusal :=
  .next (withOrder 40 s fun b => takeSetPicture b s)

/-- SET LIGHT is taken (R109). -/
def takeSetLight (b : OrderBlock) (s : State) : State :=
  let a := lightArgs b
  if a.inRange then finish b .ok 0 (changeLight a s) else finish b .range 0 s

def execSetLight (s : State) : Host.Outcome State Fault Refusal := .next (withOrder 48 s fun b => takeSetLight b s)

/-- SET MONITOR is taken (R124): the detail count is the flag code before the clear. -/
def takeSetMonitor (b : OrderBlock) (s : State) : State :=
  match monitorArgs b with
  | none => finish b .range 0 s
  | some a =>
    if a.inRange then
      finish b .ok s.level.flags.code
        { s with level := { s.level with set := a, block := LevelBlock.empty, flags := AlertFlags.clear } }
    else finish b .range 0 s

def execSetMonitor (s : State) : Host.Outcome State Fault Refusal :=
  .next (withOrder 56 s fun b => takeSetMonitor b s)

/-- ACK MONITOR is taken (R125). -/
def takeAckMonitor (b : OrderBlock) (s : State) : State :=
  let code := param b 12 1
  if 63 < code then finish b .range 0 s
  else
    finish b .ok s.level.flags.code
      { s with level := { s.level with flags := s.level.flags.zip (fun f c => f && !c) (flagsOfCode code) } }

def execAckMonitor (s : State) : Host.Outcome State Fault Refusal :=
  .next (withOrder 57 s fun b => takeAckMonitor b s)

end Sys2Proof.Machine
end

