-- ==== Sys2Proof/Machine/Dispatch.lean ====
section
/-! DEFINITION. Machine/Dispatch.lean: exec, one arm for each command of the opcode table. -/
namespace Sys2Proof.Machine

def exec (i : Instr) (s : State) : Host.Outcome State Fault Refusal :=
  match i with
  | .putScene => Sys2Proof.Machine.execPutScene s
  | .sceneFetchComplete record => Sys2Proof.Machine.execSceneFetchComplete record s
  | .removeScene => Sys2Proof.Machine.execRemoveScene s
  | .clearScenes => Sys2Proof.Machine.execClearScenes s
  | .lockScenes => Sys2Proof.Machine.execLockScenes s
  | .unlockScenes => Sys2Proof.Machine.execUnlockScenes s
  | .loadScenes => Sys2Proof.Machine.execLoadScenes s
  | .loadRecordFetchComplete record => Sys2Proof.Machine.execLoadRecordFetchComplete record s
  | .readScenes => Sys2Proof.Machine.execReadScenes s
  | .readScenesSlotWritten => Sys2Proof.Machine.execReadScenesSlotWritten s
  | .putLook => Sys2Proof.Machine.execPutLook s
  | .lookFetchComplete record => Sys2Proof.Machine.execLookFetchComplete record s
  | .readLooks => Sys2Proof.Machine.execReadLooks s
  | .readLooksSlotWritten => Sys2Proof.Machine.execReadLooksSlotWritten s
  | .setHouseArea => Sys2Proof.Machine.execSetHouseArea s
  | .clearHouseLooks => Sys2Proof.Machine.execClearHouseLooks s
  | .setStandard => Sys2Proof.Machine.execSetStandard s
  | .setPosition => Sys2Proof.Machine.execSetPosition s
  | .setFollow => Sys2Proof.Machine.execSetFollow s
  | .setPicture => Sys2Proof.Machine.execSetPicture s
  | .setLight => Sys2Proof.Machine.execSetLight s
  | .setMonitor => Sys2Proof.Machine.execSetMonitor s
  | .ackMonitor => Sys2Proof.Machine.execAckMonitor s
  | .setRoute => Sys2Proof.Machine.execSetRoute s
  | .setLink => Sys2Proof.Machine.execSetLink s
  | .wakeLink => Sys2Proof.Machine.execWakeLink s
  | .resetLink => Sys2Proof.Machine.execResetLink s
  | .startPass => Sys2Proof.Machine.execStartPass s
  | .abortPass => Sys2Proof.Machine.execAbortPass s
  | .setJournal => Sys2Proof.Machine.execSetJournal s
  | .setReports => Sys2Proof.Machine.execSetReports s
  | .mark => Sys2Proof.Machine.execMark s
  | .runWritten1 => Sys2Proof.Machine.execRunWritten1 s
  | .runWritten0 => Sys2Proof.Machine.execRunWritten0 s
  | .softReset => Sys2Proof.Machine.execSoftReset s
  | .powerOnReset => Sys2Proof.Machine.execPowerOnReset s
  | .boardReset => Sys2Proof.Machine.execBoardReset s
  | .baseWrite value => Sys2Proof.Machine.execBaseWrite value s
  | .attentionWrite value => Sys2Proof.Machine.execAttentionWrite value s
  | .noticeMaskWrite value => Sys2Proof.Machine.execNoticeMaskWrite value s
  | .perfEvent direction => Sys2Proof.Machine.execPerfEvent direction s
  | .fieldEvent parity order => Sys2Proof.Machine.execFieldEvent parity order s
  | .referenceWatchExpiry order => Sys2Proof.Machine.execReferenceWatchExpiry order s
  | .standInField order => Sys2Proof.Machine.execStandInField order s
  | .sampleTriple triple => Sys2Proof.Machine.execSampleTriple triple s
  | .lightSampleEvent reading => Sys2Proof.Machine.execLightSampleEvent reading s
  | .enterRest => Sys2Proof.Machine.execEnterRest s
  | .awake link value => Sys2Proof.Machine.execAwake link value s
  | .cued link value => Sys2Proof.Machine.execCued link value s
  | .locked link value => Sys2Proof.Machine.execLocked link value s
  | .written link value => Sys2Proof.Machine.execWritten link value s
  | .done link value => Sys2Proof.Machine.execDone link value s
  | .trouble link value => Sys2Proof.Machine.execTrouble link value s
  | .damagedFrame link kind value sum => Sys2Proof.Machine.execDamagedFrame link kind value sum s
  | .directiveSent link => Sys2Proof.Machine.execDirectiveSent link s
  | .wakeTimerExpiry link => Sys2Proof.Machine.execWakeTimerExpiry link s
  | .cueTimerExpiry link => Sys2Proof.Machine.execCueTimerExpiry link s
  | .watchdogExpiry link => Sys2Proof.Machine.execWatchdogExpiry link s
  | .closeTimerExpiry link => Sys2Proof.Machine.execCloseTimerExpiry link s
  | .autoDown link => Sys2Proof.Machine.execAutoDown link s
  | .headerReadComplete bytes => Sys2Proof.Machine.execHeaderReadComplete bytes s
  | .headerWriteComplete => Sys2Proof.Machine.execHeaderWriteComplete s
  | .linkReadComplete link => Sys2Proof.Machine.execLinkReadComplete link s
  | .blockReadComplete block => Sys2Proof.Machine.execBlockReadComplete block s
  | .takenWriteComplete => Sys2Proof.Machine.execTakenWriteComplete s
  | .resultIndexWriteComplete => Sys2Proof.Machine.execResultIndexWriteComplete s
  | .finalWriteComplete => Sys2Proof.Machine.execFinalWriteComplete s
  | .abortedWriteComplete => Sys2Proof.Machine.execAbortedWriteComplete s
  | .accessGrant => Sys2Proof.Machine.execAccessGrant s
  | .busError => Sys2Proof.Machine.execBusError s
  | .journalWriteComplete => Sys2Proof.Machine.execJournalWriteComplete s
  | .reportWriteComplete => Sys2Proof.Machine.execReportWriteComplete s
  | .startByte link => Sys2Proof.Machine.execStartByte link s

end Sys2Proof.Machine
end

