-- ==== Sys2Proof/Machine/Step.lean ====
section
/-!
DEFINITION. Machine/Step.lean: one step of the WJ-340: the command at the front of the queue is carried out; with no
command waiting no triple of the active picture is coming, and the part idles (notes/assumptions/1.md).
-/
namespace Sys2Proof.Machine

/-- Take the command at the front of the queue and carry it out over the rest. With none waiting the output is in blanking
(R87), and nothing else changes. -/
def step (s : State) : Host.Outcome State Fault Refusal :=
  match s.pending with
  | [] => .next (blankOutput s)
  | c :: rest => exec c { s with pending := rest }

/-- Put the command that a word spells, if it spells one, at the front of the queue. -/
def State.withFetchWord (s : State) (nbits w : Nat) : State :=
  match decodeTableWord nbits w with
  | none => s
  | some c => { s with pending := c :: s.pending }

end Sys2Proof.Machine
end

