-- ==== Sys2Proof/Safety.lean ====
section
/-!
DEFINITION. Safety.lean: the words that statements about the part use (an order handed to its owner, a live access), and the
laws that every step keeps, block by block.
-/
namespace Sys2Proof.Machine

/-! ### Situations -/

/-- The order in flight is `b`, handed to the owner of `code` and not yet taken by it (R176). -/
abbrev Handed (s : State) (b : OrderBlock) (code : BitVec 8) : Prop :=
  s.port.walker = .flight b .handed ∧ b.code = code

/-- The access in progress is `a`, of kind `k`, and its result is wanted (R178). -/
abbrev Live (s : State) (a : Access) (k : AccessKind) : Prop :=
  s.port.access = some a ∧ a.kind = k ∧ a.status = .live

/-- An exchange offset of the manual's: 32-byte aligned, with `len` bytes inside the window (00_scope.md). -/
abbrev OffsetOk (offset len : Nat) : Prop := offset % 32 = 0 ∧ offset + len ≤ 1048576

/-- A film frame number (00_scope.md, Film frames). -/
abbrev FrameOk (f : Int) : Prop := -10000 ≤ f ∧ f ≤ 999999

/-- The command is a field event of parity `p`; `timer` says that the follower's field timer made it (R60, R61). -/
abbrev FieldCommand (s : State) (c : Instr) (p : Parity) (timer : Bool) : Prop :=
  ∃ order,
    (c = .fieldEvent p order ∧ timer = false)
      ∨ (c = .referenceWatchExpiry order ∧ s.follower.standIn = false ∧ p = standInParity s.follower ∧ timer = true)
      ∨ (c = .standInField order ∧ s.follower.standIn = true ∧ p = standInParity s.follower ∧ timer = true)

/-- A fetched scene record fails a check of R5. -/
abbrev RecordFaulty (r : RawScene) : Prop :=
  ¬ FrameOk r.start ∨ r.number = 0 ∨ 63 < r.look ∨ (r.dissolve = true ∧ r.length = 0) ∨ 4 < r.keyCount
    ∨ (∃ k ∈ r.keys.take r.keyCount, k.offset = 0)
    ∨ ¬ (r.keys.take r.keyCount).Pairwise (fun x y => x.offset < y.offset) ∨ 15 < r.group

/-- The range check of START PASS at a field standard (R150). -/
abbrev StartRangeOk (a : PassArgs) (std : Standard) : Prop :=
  (-10000 ≤ a.inFrame ∧ a.inFrame ≤ 999998) ∧ (a.inFrame ≤ a.outFrame ∧ a.outFrame ≤ 999998)
    ∧ (30 ≤ a.preroll ∧ a.preroll ≤ 600) ∧ ∀ l, a.tcIn.get l < tcRange std

/-- The links that a START PASS needs (R151). -/
abbrev needOf (a : PassArgs) (s : State) : LinkSet := neededSet s (usedGroups a.inFrame a.outFrame s.store)

/-- A START PASS passes every check of R150. -/
abbrev StartAccepted (a : PassArgs) (s : State) : Prop :=
  s.pass = none ∧ s.follower.mode ≠ .free ∧ StartRangeOk a s.follower.standard
    ∧ startParity s.follower a.inFrame = .first ∧ s.follower.standIn = false ∧ s.journal.setting ≠ none
    ∧ needOf a s ≠ noLinks ∧ failingLinks s (needOf a s) = noLinks

/-- A link that the walker calls broken (R174). -/
abbrev Broken (link : BitVec 32) : Prop := link.toNat % 32 ≠ 0 ∨ link.toNat < 64 ∨ 1048544 < link.toNat

/-- `t` is what the walker makes of `u` when it judges a link after `count` blocks of its walk (R174, R175). -/
abbrev Judged (link : BitVec 32) (count : Nat) (u t : State) : Prop :=
  (link = 0 → t = { u with port := { u.port with walker := .idle, brokenNote := none } })
    ∧ (link ≠ 0 → Broken link → u.port.brokenNote = some link → t = { u with port := { u.port with walker := .idle } })
    ∧ (link ≠ 0 → Broken link → u.port.brokenNote ≠ some link →
        t = raise .chain { u with port := { u.port with walker := .idle, brokenNote := some link } })
    ∧ (¬ Broken link → count < 16 →
        t = { u with port := { u.port with walker := .reading link count, brokenNote := none } })
    ∧ (¬ Broken link → 16 ≤ count → t = { u with port := { u.port with walker := .idle, brokenNote := none } })

/-- A send queue has room for a directive (R132). -/
abbrev Room (r : LinkRec) : Prop := r.queue.length < 4

/-! ### The written memory -/

/-- The written part of the exchange area has its canonical form. -/
abbrev AreaOk (s : State) : Prop := Memory.wf s.area = true

/-! ### Buffers (R130, R132, R179, R180) -/

/-- A framer that does not hunt holds 1 to 5 bytes, the first of them the start byte. -/
abbrev FramerOk : Framer → Prop
  | .hunting => True
  | .assembling _ bytes => bytes.length ≤ 5 ∧ bytes.head? = some 165

/-- A link's send queue holds at most 4 directives, and its framer an unfinished frame at most. -/
abbrev LineOk (r : LinkRec) : Prop := r.queue.length ≤ 4 ∧ FramerOk r.framer

/-- The staging queue holds at most 8 entries and none while no journal is set, the lost count is a 16-bit count, and each
link's buffers hold what they can. -/
abbrev BuffersOk (s : State) : Prop :=
  s.journal.queue.length ≤ 8 ∧ (s.journal.setting = none → s.journal.queue = []) ∧ s.journal.lost ≤ 65535
    ∧ LineOk s.links.a ∧ LineOk s.links.b ∧ LineOk s.links.c

/-! ### The follower (R42, R44, R46, R51 to R53) -/

/-- The follower's account: its frame is a frame, and its count is below the frame's field count. -/
abbrev AccountOk (f : Follower) : Follow → Prop
  | .free => True
  | .seeking => True
  | .locked e c => FrameOk e ∧ c < fieldCount f e

/-- The perf counter within its limits, the settings within their ranges, and every frame a frame (R42). -/
abbrev FollowerOk (f : Follower) : Prop :=
  1 ≤ f.ppf ∧ f.ppf ≤ 4 ∧ -10000 * (f.ppf : Int) ≤ f.perf ∧ f.perf ≤ 1000000 * (f.ppf : Int) - 1
    ∧ FrameOk f.origin ∧ 1 ≤ f.div ∧ f.div ≤ 15 ∧ f.odd ≤ 1 ∧ AccountOk f f.mode ∧ FrameOk f.record.frame

/-! ### Grades (R1, R24, R82) -/

/-- Every value of a grade lies in its range. -/
abbrev GradeOk (g : Grade) : Prop :=
  (-512 ≤ g.lift.r ∧ g.lift.r ≤ 511) ∧ (-512 ≤ g.lift.g ∧ g.lift.g ≤ 511) ∧ (-512 ≤ g.lift.b ∧ g.lift.b ≤ 511)
    ∧ (0 ≤ g.gain.r ∧ g.gain.r ≤ 4095) ∧ (0 ≤ g.gain.g ∧ g.gain.g ≤ 4095) ∧ (0 ≤ g.gain.b ∧ g.gain.b ≤ 4095)
    ∧ (128 ≤ g.mid.r ∧ g.mid.r ≤ 896) ∧ (128 ≤ g.mid.g ∧ g.mid.g ≤ 896) ∧ (128 ≤ g.mid.b ∧ g.mid.b ≤ 896)
    ∧ (0 ≤ g.sat ∧ g.sat ≤ 2047)

/-- The range of the light factor. -/
abbrev FactorOk (k : Int) : Prop := 2048 ≤ k ∧ k ≤ 8191

/-- The grade in force, every stored grade and the light factor lie in their ranges. -/
abbrev GradesOk (s : State) : Prop :=
  GradeOk s.grade.grade ∧ FactorOk s.grade.k ∧ FactorOk s.light.k ∧ (∀ x ∈ s.store, GradeOk x.own)
    ∧ ∀ i : Fin 64, GradeOk (lookAt s.table i).grade

/-! ### The output (R98) -/

/-- A component of the output: a code value, in the legal range under the legal clip, and black under REST. -/
abbrev SampleOk (legal rest : Bool) (x : Int) : Prop :=
  (0 ≤ x ∧ x ≤ 1023) ∧ (legal = true → 64 ≤ x ∧ x ≤ 940) ∧ (rest = true → x = 64)

/-- The output stays within its limits (R98). -/
abbrev OutputOk (s : State) : Prop :=
  SampleOk s.picture.legalInForce s.grade.rest s.picture.output.r
    ∧ SampleOk s.picture.legalInForce s.grade.rest s.picture.output.g
    ∧ SampleOk s.picture.legalInForce s.grade.rest s.picture.output.b

/-! ### The scene store (R1, R2, R5) -/

/-- A stored record's fields lie in their ranges. -/
abbrev SceneOk (x : Scene) : Prop :=
  FrameOk x.start ∧ 1 ≤ x.number ∧ x.number ≤ 65535 ∧ x.keys.length ≤ 4 ∧ keysRise 0 x.keys = true
    ∧ (∀ k ∈ x.keys, k.offset ≤ 65535)
    ∧ (match x.transition with | .cut => True | .dissolve n => 1 ≤ n ∧ n ≤ 255)

/-- At most 2,048 records, in strictly increasing start frame, each within its ranges (R2). -/
abbrev StoreOk (store : List Scene) : Prop :=
  store.length ≤ 2048 ∧ store.Pairwise (fun x y => x.start < y.start) ∧ ∀ x ∈ store, SceneOk x

/-! ### The light monitor (R99) -/

/-- The light monitor's settings and working state lie in their ranges, and a partial block is partial. -/
abbrev LightOk (l : Light) : Prop :=
  (1 ≤ l.floor ∧ l.floor ≤ 4094) ∧ isBlockSize l.blockSize = true ∧ (256 ≤ l.target ∧ l.target ≤ 4095)
    ∧ l.restLimit ≤ 65535 ∧ l.service ≤ Config.wearTop ∧ l.blockCount < l.blockSize
    ∧ l.blockSum ≤ 4094 * l.blockCount ∧ FactorOk l.k ∧ l.lowRun ≤ 65535 ∧ l.wear ≤ Config.wearTop
    ∧ l.restCount ≤ 65535

/-! ### The part while HALTED (R147, R168, R171) -/

/-- Where the walker can stand while the part is HALTED: only writes that were in progress, and an ABORTED write. -/
abbrev HaltedWalker : Walker → Prop
  | .idle => True
  | .reading _ _ => False
  | .taking _ halted => halted = true
  | .closing _ _ halted => halted = true
  | .flight _ (.finishing _) => True
  | .flight _ .handed => False
  | .flight _ (.fetchScene _) => False
  | .flight _ (.fetchLoad _) => False
  | .flight _ (.slotScene _) => False
  | .flight _ (.fetchLook _ _) => False
  | .flight _ (.slotLook _) => False
  | .flight _ (.resultIndex _ _) => False
  | .aborting _ => True

/-- The accesses whose result is still wanted while the part is HALTED. -/
abbrev HaltedAccess (a : Access) : Prop :=
  a.status = .live →
    a.kind = .takenWrite ∨ a.kind = .abortedWrite ∨ a.kind = .finalWrite ∨ a.kind.isJournal = true
      ∨ a.kind.isReport = true

/-- While HALTED every link is DOWN, no pass exists, no measurement is open, REST is clear, and the port makes no poll,
takes no order and forms no report; a holdoff in force waits for a field event (R183). -/
abbrev HaltedOk (s : State) : Prop :=
  s.port.running = false →
    (∀ l, (linkOf l s).state = .down) ∧ s.pass = none ∧ s.level.openMeas = none ∧ s.level.last = none
      ∧ s.level.tally = none ∧ s.light.rest = false ∧ s.port.poll = .idle ∧ s.reports.waiting = none
      ∧ (s.port.holdoff = .clear ∨ s.port.holdoff = .nextField)
      ∧ HaltedWalker s.port.walker ∧ ∀ a, s.port.access = some a → HaltedAccess a

/-! ### The look table (R24 to R27, R34) -/

/-- The looks that name look `i` as parent. -/
def childrenOf (t : LookTable) (i : Fin 64) : Nat := (List.finRange 64).countP fun j => (lookAt t j).parent == i

/-- Look 0 is fixed, every other look's level is 1 to 4 and one more than its parent's, each look's child count is the number
of looks that name it, and the house size is one of its nine values. -/
abbrev LooksOk (t : LookTable) : Prop :=
  lookAt t 0 = ⟨unityGrade, 0, 0, 0, 0⟩
    ∧ (∀ i : Fin 64, i ≠ 0 →
        1 ≤ (lookAt t i).level ∧ (lookAt t i).level ≤ 4
          ∧ (lookAt t i).level = (if (lookAt t i).parent = 0 then 1 else (lookAt t (lookAt t i).parent).level + 1)
          ∧ (lookAt t i).children = childrenOf t i)
    ∧ [0, 4, 8, 12, 16, 20, 24, 28, 32].contains t.house = true

/-- The look that a PUT LOOK in flight is about to put is open to it: it is not look 0, no house look, and under no approval,
as the order was checked (R31). -/
abbrev PutsOpenLook (s : State) : Prop :=
  ∀ b i o, s.port.walker = .flight b (.fetchLook i o) →
    i ≠ 0 ∧ isHouse s.table i = false ∧ (lookAt s.table i).locks = 0

/-- Each look's lock count is the number of locked scenes that depend on it (R29). -/
abbrev LocksOk (s : State) : Prop :=
  ∀ i : Fin 64,
    (lookAt s.table i).locks = (placed s.store).countP fun x => x.scene.locked && (dependsOn s.table x).contains i

/-! ### Passes and links (R149, R152, R155, R158) -/

/-- Every link of `x` is in `y`. -/
abbrev Within (x y : LinkSet) : Prop := ∀ l, x.get l = true → y.get l = true

/-- What a group's entry says of the held links: while the pass prepares, an awaited group's destinations are needed; before
the pass closes, a resolved set is held. -/
abbrev GroupOk (s : State) (p : Pass) (g : Fin 16) : Prop :=
  match groupOf p g with
  | .unused => True
  | .spilled => True
  | .awaited => p.state = .preparing → Within (routeOf s g).dest p.needed
  | .resolved set _ _ => p.state ≠ .closing → Within set (heldLinks s)

/-- The links and the pass agree: a link is RECORDING only while the pass is RECORDING and the link is in its recording set
(R158), and every link that the pass may use is held. -/
abbrev PassOk (s : State) : Prop :=
  (s.pass = none → heldLinks s = noLinks)
    ∧ (∀ p, s.pass = some p →
        (p.state = .preparing → Within p.needed (heldLinks s)) ∧ ∀ g : Fin 16, GroupOk s p g)
    ∧ ∀ l, (linkOf l s).state = .recording →
        (linkOf l s).held = true ∧ ∃ p, s.pass = some p ∧ p.state = .recording ∧ p.recording.get l = true

end Sys2Proof.Machine
end

