-- ==== Sys2Proof/Certificates/Slice0/Obligations.lean ====
section
/-!
DEFINITION. Certificates/Slice0/Obligations.lean: the statements about the part that are to be proved. A statement about a
command says the whole next state, `exec c s = .next t` with `t` written out, wherever the rules fix it: what it does not
name stays as it was.
-/
open Sys2Proof Sys2Proof.Machine

/-! ### The machine -/

/-- A step carries out the command at the front of the queue over the rest; on an empty queue the block idles, with 64 on its
output (the model's choice, notes/assumptions/1.md and 15.md). -/
def Obligations.StepRunsFrontCommand : Prop :=
  (∀ (s : State) (c : Instr) (rest : List Instr), s.pending = c :: rest → step s = exec c { s with pending := rest })
    ∧ ∀ s : State, s.pending = [] → step s = .next { s with picture := { s.picture with output := ⟨64, 64, 64⟩ } }

/-- Every command of the table completes in every state, and leaves the queue of waiting commands to the step. (That a command
whose event cannot come leaves the state as it is, and stops nothing, is the model's choice, notes/assumptions/2.md.) -/
def Obligations.EveryCommandCompletes : Prop :=
  ∀ (c : Instr) (s : State), ∃ t, exec c s = .next t ∧ t.pending = s.pending

/-! ### The scene store (01) -/

/-- PUT SCENE and LOAD SCENES as they are taken (R11, R12, R17): PASS_ACTIVE or RANGE, or the fetch of the first record is
requested, for LOAD SCENES in mode REPLACE after the clear of CLEAR SCENES. A refusal of LOAD SCENES is preceded by a write of
a result index whose value the manual leaves open (notes/assumptions/11.md). -/
def Obligations.SceneOrdersRequestTheirFetches : Prop :=
  (∀ (s : State) (b : OrderBlock), Handed s b 1 →
     (s.pass ≠ none → exec .putScene s = .next (finish b .passActive 0 s))
       ∧ (s.pass = none → ¬ OffsetOk (param b 12 4) 64 → exec .putScene s = .next (finish b .range 0 s))
       ∧ (s.pass = none → OffsetOk (param b 12 4) 64 →
           exec .putScene s = .next (proceed b (.fetchScene (param b 12 4)) s)
             ∧ ∀ free, formAccess .order (proceed b (.fetchScene (param b 12 4)) s) free
                 = ⟨.sceneFetch, s.port.base.toNat * 65536 + param b 12 4, [], .live⟩))
    ∧ (∀ (s : State) (b : OrderBlock), Handed s b 6 →
         let offset := param b 12 4
         let count := param b 16 2
         let ok := (1 ≤ count ∧ count ≤ 2048) ∧ OffsetOk offset (64 * count)
         let refused (o : OutcomeCode) :=
           ∃ i, i < 65536
             ∧ exec .loadScenes s
                 = .next (proceed b (.resultIndex i ⟨o, 0⟩) { s with freeIndex := s.freeIndex + 1 })
         (s.pass ≠ none → refused .passActive)
           ∧ (s.pass = none → ¬ (ok ∧ param b 18 1 ≤ 1) → refused .range)
           ∧ (s.pass = none → ok → param b 18 1 = 0 →
               exec .loadScenes s = .next (proceed b (.fetchLoad ⟨offset, count, 0, 0, none, false⟩) s))
           ∧ (s.pass = none → ok → param b 18 1 = 1 →
               exec .loadScenes s
                 = .next (proceed b (.fetchLoad ⟨offset, count, 0, 0, none, false⟩)
                     { s with store := clearStore s.store })))

/-- The span protection of R9, read off a store by index: what it refuses of puts and of removals. -/
def Obligations.SpanProtectionReadsTheNeighbours : Prop :=
  ∀ (store : List Scene) (f : Int),
    (putProtected store f = true ↔
      ∃ (i : Nat) (x : Scene), store[i]? = some x ∧ x.locked = true
        ∧ ((x.start ≤ f ∧ ∀ n, store[i + 1]? = some n → f < n.start)
            ∨ (x.transition.dissolves = true ∧ f < x.start ∧ ∀ j p, j + 1 = i → store[j]? = some p → p.start ≤ f)))
      ∧ (removeProtected store f = true ↔
          ∃ (i : Nat) (x : Scene), store[i]? = some x ∧ x.locked = true
            ∧ (x.start = f ∨ (∃ n, store[i + 1]? = some n ∧ n.start = f)
                ∨ (x.transition.dissolves = true ∧ ∃ j p, j + 1 = i ∧ store[j]? = some p ∧ p.start = f)))

/-- A fetched record of PUT SCENE (R5 to R7, R12): RANGE, LOCKED, FULL, or stored in its place, clamped, unlocked and
without statistics. -/
def Obligations.FetchedSceneIsPut : Prop :=
  ∀ (s : State) (a : Access) (b : OrderBlock) (offset : Nat) (record : BitVec 512),
    Live s a .sceneFetch → s.port.walker = .flight b (.fetchScene offset) →
    let r := decodeScene record
    let u := endAccess a s
    let stored := ∃ y ∈ s.store, y.start = r.start
    (RecordFaulty r → exec (.sceneFetchComplete record) s = .next (finish b .range 0 u))
      ∧ (¬ RecordFaulty r → putProtected s.store r.start = true →
          exec (.sceneFetchComplete record) s = .next (finish b .locked 0 u))
      ∧ (¬ RecordFaulty r → putProtected s.store r.start = false → ¬ stored → 2048 ≤ s.store.length →
          exec (.sceneFetchComplete record) s = .next (finish b .full 0 u))
      ∧ (¬ RecordFaulty r → putProtected s.store r.start = false → stored ∨ s.store.length < 2048 →
          ∃ (x : Scene) (store : List Scene) (o : OutcomeCode) (d : Nat),
            exec (.sceneFetchComplete record) s = .next (finish b o d { u with store := store })
              ∧ ((stored ∧ d = 1) ∨ (¬ stored ∧ d = 0))
              ∧ ((x.own = r.own ∧ x.keys = r.keys.take r.keyCount ∧ o = .ok)
                  ∨ (¬ (x.own = r.own ∧ x.keys = r.keys.take r.keyCount) ∧ o = .clamped))
              ∧ x.start = r.start ∧ x.number = r.number ∧ x.look.val = r.look ∧ x.group.val = r.group
              ∧ x.negative = r.negative ∧ x.locked = false ∧ x.stats = none
              ∧ x.transition = (if r.dissolve = true then .dissolve r.length else .cut)
              ∧ x.own = ⟨r.own.lift.map (clamp (-512) 511), r.own.gain.map (clamp 0 4095), r.own.mid.map (clamp 128 896),
                  clamp 0 2047 r.own.sat⟩
              ∧ x.keys = (r.keys.take r.keyCount).map (fun k => ⟨k.offset, k.trim.map (clamp (-1024) 1023)⟩)
              ∧ (StoreOk s.store →
                  store.Pairwise (fun y z => y.start < z.start)
                    ∧ ∀ y, y ∈ store ↔ y = x ∨ (y ∈ s.store ∧ y.start ≠ r.start)))

/-- REMOVE SCENE and CLEAR SCENES (R11, R13, R14): PASS_ACTIVE; RANGE for an absent record, LOCKED for a protected one, else the
record leaves; and a clear takes every record that is neither locked, nor the successor of a locked one, nor the predecessor of
a locked one that dissolves, and its detail count is the number kept. -/
def Obligations.RemovalsObeyProtection : Prop :=
  (∀ (s : State) (b : OrderBlock), Handed s b 2 →
     let f := paramFrame b 12
     (s.pass ≠ none → exec .removeScene s = .next (finish b .passActive 0 s))
       ∧ (s.pass = none → (∀ x ∈ s.store, x.start ≠ f) → exec .removeScene s = .next (finish b .range 0 s))
       ∧ (s.pass = none → (∃ x ∈ s.store, x.start = f) → removeProtected s.store f = true →
           exec .removeScene s = .next (finish b .locked 0 s))
       ∧ (s.pass = none → (∃ x ∈ s.store, x.start = f) → removeProtected s.store f = false →
           ∃ store, exec .removeScene s = .next (finish b .ok 0 { s with store := store })
             ∧ store.Sublist s.store ∧ ∀ x, x ∈ store ↔ x ∈ s.store ∧ x.start ≠ f))
    ∧ (∀ (s : State) (b : OrderBlock), Handed s b 3 →
         (s.pass ≠ none → exec .clearScenes s = .next (finish b .passActive 0 s))
           ∧ (s.pass = none →
               exec .clearScenes s = .next (finish b .ok (clearStore s.store).length { s with store := clearStore s.store })
                 ∧ (clearStore s.store).Sublist s.store
                 ∧ (StoreOk s.store →
                     ∀ (i : Nat) (x : Scene), s.store[i]? = some x →
                       (x ∈ clearStore s.store ↔
                         x.locked = true ∨ (∃ j p, j + 1 = i ∧ s.store[j]? = some p ∧ p.locked = true)
                           ∨ ∃ n, s.store[i + 1]? = some n ∧ n.locked = true ∧ n.transition.dissolves = true))))

/-- LOCK SCENES and UNLOCK SCENES (R10, R15, R16): the flags of the range, the lock counts of the scenes that change, and the
number of them. -/
def Obligations.LockOrdersMoveFlagsAndCounts : Prop :=
  ∀ (s : State) (b : OrderBlock),
    let inRange (x : Scene) : Prop := paramFrame b 12 ≤ x.start ∧ x.start ≤ paramFrame b 16
    let changed (flag : Bool) : List Placed :=
      (placed s.store).filter fun x =>
        decide (paramFrame b 12 ≤ x.scene.start ∧ x.scene.start ≤ paramFrame b 16) && x.scene.locked == flag
    let uses (flag : Bool) (i : Fin 64) : Nat := (changed flag).countP fun x => (dependsOn s.table x).contains i
    (Handed s b 4 → s.pass ≠ none → exec .lockScenes s = .next (finish b .passActive 0 s))
      ∧ (Handed s b 5 → s.pass ≠ none → exec .unlockScenes s = .next (finish b .passActive 0 s))
      ∧ (Handed s b 4 → s.pass = none →
          ∃ table,
            exec .lockScenes s
                = .next (finish b .ok (changed false).length
                    { s with
                      store := s.store.map (fun x => if inRange x then { x with locked := true } else x)
                      table := table })
              ∧ table.house = s.table.house
              ∧ ∀ i, lookAt table i = { lookAt s.table i with locks := (lookAt s.table i).locks + uses false i })
      ∧ (Handed s b 5 → s.pass = none →
          ∃ table,
            exec .unlockScenes s
                = .next (finish b .ok (changed true).length
                    { s with
                      store := s.store.map (fun x => if inRange x then { x with locked := false } else x)
                      table := table })
              ∧ table.house = s.table.house
              ∧ ∀ i, lookAt table i = { lookAt s.table i with locks := (lookAt s.table i).locks - uses true i })

/-- A fetched record of LOAD SCENES (R18, R19) does to the store what PUT SCENE does with the same record, and is counted;
then comes the next fetch or, after the last record, the result. -/
def Obligations.LoadRecordIsDealtWithAsPut : Prop :=
  ∀ (s : State) (a : Access) (b : OrderBlock) (run : LoadRun) (record : BitVec 512),
    Live s a .loadFetch → s.port.walker = .flight b (.fetchLoad run) →
    ∃ (store : List Scene) (o : OutcomeCode) (next : LoadRun),
      (∀ (p : State) (a' : Access) (b' : OrderBlock) (offset : Nat),
          Live p a' .sceneFetch → p.port.walker = .flight b' (.fetchScene offset) → p.store = s.store →
          ∃ d, exec (.sceneFetchComplete record) p = .next (finish b' o d { endAccess a' p with store := store }))
        ∧ next
            = (if o = .ok then { run with index := run.index + 1 }
              else if o = .clamped then { run with index := run.index + 1, clamped := true }
              else
                { run with
                  index := run.index + 1
                  refused := run.refused + 1
                  firstRefused := some (run.firstRefused.getD run.index) })
        ∧ exec (.loadRecordFetchComplete record) s
            = .next (proceed b
                (if run.index + 1 < run.count then .fetchLoad next
                else
                  .resultIndex (next.firstRefused.getD run.count)
                    (if 0 < next.refused then ⟨.partially, next.refused⟩
                    else if next.clamped = true then ⟨.clamped, 0⟩ else ⟨.ok, 0⟩))
                { endAccess a s with store := store })

/-- READ SCENES and READ LOOKS (R20, R38): RANGE for bad parameters; else slot after slot while a record at or above the first
frame, or a look of the range, is left and the count is not reached; the detail count is the number written. -/
def Obligations.ReadOrdersWalkTheirTables : Prop :=
  ((∀ (s : State) (b : OrderBlock), Handed s b 7 →
       let first := paramFrame b 12
       let offset := param b 16 4
       let count := param b 20 2
       let ok := (1 ≤ count ∧ count ≤ 2048) ∧ OffsetOk offset (64 * count)
       (¬ ok → exec .readScenes s = .next (finish b .range 0 s))
         ∧ (ok → (∃ x ∈ s.store, first ≤ x.start) →
             exec .readScenes s = .next (proceed b (.slotScene ⟨first, count, offset, 0⟩) s))
         ∧ (ok → (∀ x ∈ s.store, x.start < first) → exec .readScenes s = .next (finish b .ok 0 s)))
     ∧ ∀ (s : State) (a : Access) (b : OrderBlock) (run : SceneRead),
         Live s a .sceneSlot → s.port.walker = .flight b (.slotScene run) →
         let left := s.store.countP fun x => decide (run.first ≤ x.start)
         exec .readScenesSlotWritten s
           = .next
               (if run.written + 1 < run.count ∧ run.written + 1 < left then
                 proceed b (.slotScene { run with written := run.written + 1 }) (endAccess a s)
               else finish b .ok (run.written + 1) (endAccess a s)))
    ∧ ((∀ (s : State) (b : OrderBlock), Handed s b 17 →
           let first := param b 12 1
           let count := param b 13 1
           let offset := param b 16 4
           let ok := first ≤ 63 ∧ (1 ≤ count ∧ count ≤ 64) ∧ first + count ≤ 64 ∧ OffsetOk offset (32 * count)
           (¬ ok → exec .readLooks s = .next (finish b .range 0 s))
             ∧ (ok → exec .readLooks s = .next (proceed b (.slotLook ⟨first, count, offset, 0⟩) s)))
         ∧ ∀ (s : State) (a : Access) (b : OrderBlock) (run : LookRead),
             Live s a .lookSlot → s.port.walker = .flight b (.slotLook run) →
             exec .readLooksSlotWritten s
               = .next
                   (if run.written + 1 < run.count then
                     proceed b (.slotLook { run with written := run.written + 1 }) (endAccess a s)
                   else finish b .ok (run.written + 1) (endAccess a s)))

/-- The bytes that READ SCENES writes for a stored record spell, in the scene record layout, every field of that record
(R1, R8, R21; Layouts, Scene record): the layout's reading of them gives the record back, with its LOCKED flag and, when it has
statistics, the excursion flag, the field number, the frame as an offset from the start frame, and the minimum, the maximum and
the mean of each channel. -/
def Obligations.SceneRecordReadsBack : Prop :=
  ∀ (x : Scene) (free : BitVec 512), SceneOk x → GradeOk x.own →
    (∀ k ∈ x.keys, (-1024 ≤ k.trim.r ∧ k.trim.r ≤ 1023) ∧ (-1024 ≤ k.trim.g ∧ k.trim.g ≤ 1023)
      ∧ (-1024 ≤ k.trim.b ∧ k.trim.b ≤ 1023)) →
    let w := encodeScene x free
    let r := decodeScene (BitVec.ofNat 512 w)
    r.start = x.start ∧ r.number = x.number ∧ r.look = x.look.val ∧ r.group = x.group.val ∧ r.negative = x.negative
      ∧ r.own = x.own ∧ r.keyCount = x.keys.length ∧ r.keys.take r.keyCount = x.keys
      ∧ (if r.dissolve = true then x.transition = .dissolve r.length else x.transition = .cut ∧ r.length = 0)
      ∧ bitsOf w 61 1 = bit x.locked ∧ bitsOf w 62 1 = bit x.stats.isSome
      ∧ (x.stats = none → bitsOf w 63 1 = 0 ∧ bitsOf w 370 142 = 0)
      ∧ ∀ t, x.stats = some t →
          let held (pos : Nat) (v : Int) : Prop := 0 ≤ v → v ≤ 1023 → (bitsOf w pos 10 : Int) = v
          bitsOf w 63 1 = bit t.excursion ∧ bitsOf w 390 32 = t.field.toNat
            ∧ (x.start ≤ t.frame → t.frame - x.start < 1048576 → (bitsOf w 370 20 : Int) = t.frame - x.start)
            ∧ (held 422 t.min.r ∧ held 432 t.min.g ∧ held 442 t.min.b)
            ∧ (held 452 t.max.r ∧ held 462 t.max.g ∧ held 472 t.max.b)
            ∧ (held 482 t.mean.r ∧ held 492 t.mean.g ∧ held 502 t.mean.b)

/-! ### The look table (02) -/

/-- PUT LOOK as it is taken (R30, R31): the first check that fails refuses it; otherwise the record is fetched. -/
def Obligations.PutLookChecksInOrder : Prop :=
  ∀ (s : State) (b : OrderBlock), Handed s b 16 →
    let index := param b 12 1
    let offset := param b 16 4
    (s.pass ≠ none → exec .putLook s = .next (finish b .passActive 0 s))
      ∧ (s.pass = none → (index = 0 ∨ 63 < index) ∨ ¬ OffsetOk offset 32 →
          exec .putLook s = .next (finish b .range 0 s))
      ∧ ∀ i : Fin 64, i.val = index → s.pass = none → i ≠ 0 → OffsetOk offset 32 →
          (0 < s.table.house ∧ 64 - s.table.house ≤ i.val →
            exec .putLook s = .next (finish b .protectedLook 0 s))
          ∧ (¬ (0 < s.table.house ∧ 64 - s.table.house ≤ i.val) →
              ((lookAt s.table i).locks ≠ 0 → exec .putLook s = .next (finish b .locked 0 s))
              ∧ ((lookAt s.table i).locks = 0 →
                  exec .putLook s = .next (proceed b (.fetchLook i offset) s)
                    ∧ ∀ free, formAccess .order (proceed b (.fetchLook i offset) s) free
                        = ⟨.lookFetch, s.port.base.toNat * 65536 + offset, [], .live⟩))

/-- A fetched record of PUT LOOK (R27, R32, R33): the parent checks in order, or the look is written, clamped, with its level
and the child counts of its old and its new parent. -/
def Obligations.FetchedLookIsPut : Prop :=
  ∀ (s : State) (a : Access) (b : OrderBlock) (i : Fin 64) (offset : Nat) (record : BitVec 256),
    Live s a .lookFetch → s.port.walker = .flight b (.fetchLook i offset) →
    let parent := bitsOf record.toNat 0 8
    let old := (lookAt s.table i).parent
    let g := decodeLookGrade record.toNat
    let clamped : Grade := ⟨g.lift.map (clamp (-512) 511), g.gain.map (clamp 0 4095), g.mid.map (clamp 128 896),
      clamp 0 2047 g.sat⟩
    let u := endAccess a s
    (63 < parent → exec (.lookFetchComplete record) s = .next (finish b .range 0 u))
      ∧ ∀ p : Fin 64, p.val = parent →
          let bad := p = i ∨ (p ≠ old ∧ 0 < (lookAt s.table i).children) ∨ (p ≠ 0 ∧ (lookAt s.table p).level = 4)
          let level := if p = 0 then 1 else (lookAt s.table p).level + 1
          (bad → exec (.lookFetchComplete record) s = .next (finish b .chain 0 u))
            ∧ (¬ bad →
                ∃ table,
                  exec (.lookFetchComplete record) s
                      = .next (finish b (if clamped = g then .ok else .clamped) level { u with table := table })
                    ∧ table.house = s.table.house
                    ∧ lookAt table i = { lookAt s.table i with grade := clamped, parent := p, level := level }
                    ∧ ∀ j, j ≠ i →
                        lookAt table j
                          = { lookAt s.table j with
                              children :=
                                if p = old ∨ j = 0 then (lookAt s.table j).children
                                else if j = old then (lookAt s.table j).children - 1
                                else if j = p then (lookAt s.table j).children + 1
                                else (lookAt s.table j).children })

/-- The bytes that READ LOOKS writes for a look (R38, R39; Layouts, Look record): the look as it stands with WITHHELD clear,
or, for a house look, unity, parent 0 and level 0 with WITHHELD set; the child and lock counts and the zero bytes either way. -/
def Obligations.LookRecordReadsBack : Prop :=
  ∀ (t : LookTable) (i : Fin 64) (free : BitVec 512),
    let l := lookAt t i
    let w := lookRecord t i free
    let house := 0 < t.house ∧ 64 - t.house ≤ i.val
    GradeOk l.grade → l.level ≤ 4 → l.children ≤ 63 → l.locks ≤ 2048 →
      bitsOf w 16 8 = l.children ∧ bitsOf w 32 16 = l.locks ∧ bitsOf w 224 32 = 0
        ∧ (house →
            decodeLookGrade w = ⟨⟨0, 0, 0⟩, ⟨1024, 1024, 1024⟩, ⟨512, 512, 512⟩, 1024⟩
              ∧ bitsOf w 0 8 = 0 ∧ bitsOf w 8 8 = 0 ∧ bitsOf w 24 1 = 1)
        ∧ (¬ house →
            decodeLookGrade w = l.grade ∧ bitsOf w 0 8 = l.parent.val ∧ bitsOf w 8 8 = l.level ∧ bitsOf w 24 1 = 0)

/-- While house protection is on, no house look's grade or parent changes but by CLEAR HOUSE LOOKS and a power-on reset, and
what READ LOOKS writes does not depend on them (R34, R41). -/
def Obligations.HouseLooksStayProtected : Prop :=
  (∀ (c : Instr) (s t : State) (i : Fin 64),
      PutsOpenLook s → c ≠ .clearHouseLooks → c ≠ .powerOnReset → exec c s = .next t → isHouse s.table i = true →
      (lookAt t.table i).grade = (lookAt s.table i).grade ∧ (lookAt t.table i).parent = (lookAt s.table i).parent)
    ∧ ∀ (s s' : State) (free : BitVec 512) (b : OrderBlock) (run : LookRead),
        s.port.walker = .flight b (.slotLook run) → s'.port = s.port → s'.table.house = s.table.house →
        (∀ i : Fin 64, isHouse s.table i = false → lookAt s'.table i = lookAt s.table i) →
        (∀ i : Fin 64, isHouse s.table i = true →
          (lookAt s'.table i).children = (lookAt s.table i).children ∧ (lookAt s'.table i).locks = (lookAt s.table i).locks) →
        formAccess .order s' free = formAccess .order s free

/-- SET HOUSE AREA and CLEAR HOUSE LOOKS (R30, R35 to R37). The first: PASS_ACTIVE, PROTECTED or RANGE, in that order; else the
size is set and nothing else changes, the looks from 64 less the size on are house looks, and the detail count is the size. The
second: PASS_ACTIVE, or LOCKED while an approval holds a house look; else the house looks become unity without parent, the area is
gone, grades, parents and lock counts stay elsewhere, and levels and child counts fit again. -/
def Obligations.HouseAreaOrdersSetAndErase : Prop :=
  (∀ (s : State) (b : OrderBlock), Handed s b 18 →
     let h := param b 12 1
     let size := h = 4 ∨ h = 8 ∨ h = 12 ∨ h = 16 ∨ h = 20 ∨ h = 24 ∨ h = 28 ∨ h = 32
     (s.pass ≠ none → exec .setHouseArea s = .next (finish b .passActive 0 s))
       ∧ (s.pass = none → 0 < s.table.house → exec .setHouseArea s = .next (finish b .protectedLook 0 s))
       ∧ (s.pass = none → s.table.house = 0 → ¬ size → exec .setHouseArea s = .next (finish b .range 0 s))
       ∧ (s.pass = none → s.table.house = 0 → size →
           exec .setHouseArea s = .next (finish b .ok h { s with table := { s.table with house := h } })
             ∧ ∀ (t : State) (i : Fin 64), t.table = { s.table with house := h } →
                 (isHouse t.table i = true ↔ 64 - h ≤ i.val)))
    ∧ (∀ (s : State) (b : OrderBlock), Handed s b 19 →
         let house (i : Fin 64) : Prop := 0 < s.table.house ∧ 64 - s.table.house ≤ i.val
         (s.pass ≠ none → exec .clearHouseLooks s = .next (finish b .passActive 0 s))
           ∧ (s.pass = none → (∃ i, house i ∧ 0 < (lookAt s.table i).locks) →
               exec .clearHouseLooks s = .next (finish b .locked 0 s))
           ∧ (s.pass = none → (∀ i, house i → (lookAt s.table i).locks = 0) →
               ∃ table,
                 exec .clearHouseLooks s = .next (finish b .ok s.table.house { s with table := table })
                   ∧ table.house = 0
                   ∧ (∀ i, (lookAt table i).locks = (lookAt s.table i).locks
                       ∧ (house i → (lookAt table i).grade = unityGrade ∧ (lookAt table i).parent = 0)
                       ∧ (¬ house i →
                           (lookAt table i).grade = (lookAt s.table i).grade
                             ∧ (lookAt table i).parent = (lookAt s.table i).parent))
                   ∧ (LooksOk s.table →
                       LooksOk table
                         ∧ ∀ i, (lookAt table i).level ≤ (lookAt s.table i).level
                             ∧ ((∀ j ∈ lookChain s.table i, ¬ house j) →
                                 (lookAt table i).level = (lookAt s.table i).level))))

/-! ### The settings (03, 05, 06, 07) -/

/-- SET STANDARD, SET POSITION, SET FOLLOW and SET PICTURE (R44 to R46, R84): the checks in order, or the settings. -/
def Obligations.TransportOrdersCheckInOrder : Prop :=
  ∀ (s : State) (b : OrderBlock),
    (Handed s b 32 →
      let std := param b 12 1
      let ppf := param b 13 1
      let ok := (std = 50 ∨ std = 60) ∧ 1 ≤ ppf ∧ ppf ≤ 4
      (s.pass ≠ none → exec .setStandard s = .next (finish b .passActive 0 s))
        ∧ (s.pass = none → s.follower.mode ≠ .free → exec .setStandard s = .next (finish b .mode 0 s))
        ∧ (s.pass = none → s.follower.mode = .free → ¬ ok → exec .setStandard s = .next (finish b .range 0 s))
        ∧ (s.pass = none → s.follower.mode = .free → ok →
            exec .setStandard s
              = .next (finish b .ok 0
                  { s with
                    follower :=
                      { s.follower with
                        standard := if std = 50 then .s50 else .s60
                        ppf := ppf
                        perf :=
                          if ppf = s.follower.ppf then s.follower.perf
                          else s.follower.perf / s.follower.ppf * ppf } })))
    ∧ (Handed s b 33 →
        let f := paramFrame b 12
        (s.pass ≠ none → exec .setPosition s = .next (finish b .passActive 0 s))
          ∧ (s.pass = none → s.follower.mode ≠ .free → exec .setPosition s = .next (finish b .mode 0 s))
          ∧ (s.pass = none → s.follower.mode = .free → ¬ FrameOk f →
              exec .setPosition s = .next (finish b .range 0 s))
          ∧ (s.pass = none → s.follower.mode = .free → FrameOk f →
              exec .setPosition s
                = .next (finish b .ok 0 { s with follower := { s.follower with perf := f * s.follower.ppf } })))
    ∧ (Handed s b 34 →
        let o := paramFrame b 16
        let div := param b 20 1
        let odd := param b 21 1
        let ok := FrameOk o ∧ (1 ≤ div ∧ div ≤ 15) ∧ odd ≤ 1
        (s.pass ≠ none → exec .setFollow s = .next (finish b .passActive 0 s))
          ∧ (s.pass = none → 1 < param b 12 1 → exec .setFollow s = .next (finish b .range 0 s))
          ∧ (s.pass = none → param b 12 1 = 0 →
              exec .setFollow s
                = .next (finish b .ok 0 { s with follower := { s.follower with mode := .free } }))
          ∧ (s.pass = none → param b 12 1 = 1 → ¬ ok → exec .setFollow s = .next (finish b .range 0 s))
          ∧ (s.pass = none → param b 12 1 = 1 → ok →
              exec .setFollow s
                = .next (finish b .ok 0
                    { s with follower := { s.follower with mode := .seeking, origin := o, div := div, odd := odd } })))
    ∧ (Handed s b 40 →
        (s.pass ≠ none → exec .setPicture s = .next (finish b .passActive 0 s))
          ∧ (s.pass = none → 1 < param b 12 1 ∨ 1 < param b 13 1 →
              exec .setPicture s = .next (finish b .range 0 s))
          ∧ (s.pass = none → param b 12 1 ≤ 1 → param b 13 1 ≤ 1 →
              exec .setPicture s
                = .next (finish b .ok 0
                    { s with
                      picture :=
                        { s.picture with
                          legalClip := param b 12 1 == 1
                          defaultNegative := param b 13 1 == 1 } })))

/-- SET LIGHT, SET MONITOR and ACK MONITOR (R109, R124, R125): RANGE, or the change. SET LIGHT writes its five settings, with an
empty block, no low run, service armed, a load when there is one, and no REST under rest limit 0; a rest decision still to be made
for a field event taken before it is made by the old rest limit (that it is made by then at the latest is the model's form,
notes/assumptions/4.md). The monitor orders answer the flag code that stood before as the detail count. -/
def Obligations.LightAndMonitorOrdersWriteTheirSettings : Prop :=
  (∀ (s : State) (b : OrderBlock), Handed s b 48 →
     let floor := param b 12 2
     let n := param b 14 1
     let target := param b 16 2
     let limit := param b 18 2
     let ok := (1 ≤ floor ∧ floor ≤ 4094) ∧ (n = 1 ∨ n = 2 ∨ n = 4 ∨ n = 8 ∨ n = 16 ∨ n = 32 ∨ n = 64)
       ∧ (256 ≤ target ∧ target ≤ 4095)
     let enters :=
       s.port.running = true ∧ s.light.restDue = true ∧ s.light.rest = false ∧ s.light.restLimit ≠ 0
         ∧ s.light.restLimit ≤ s.light.restCount ∧ ∀ p, s.pass = some p → p.state ≠ .recording
     let changed (rest : Bool) : State :=
       { s with
         light :=
           { s.light with
             floor := floor, blockSize := n, target := target, restLimit := limit, service := param b 20 5
             blockCount := 0, blockSum := 0, lowRun := 0, lowReported := false, serviceArmed := true
             wear := if param b 25 1 = 0 then s.light.wear else param b 26 5
             rest := if limit = 0 then false else rest, restDue := false } }
     (¬ ok → exec .setLight s = .next (finish b .range 0 s))
       ∧ (ok → enters → exec .setLight s = .next (finish b .ok 0 (changed true)))
       ∧ (ok → ¬ enters → exec .setLight s = .next (finish b .ok 0 (changed s.light.rest))))
    ∧ (∀ (s : State) (b : OrderBlock),
         let flags := s.level.flags
         (Handed s b 56 →
           let high : Rgb Int := ⟨param b 12 2, param b 14 2, param b 16 2⟩
           let low : Rgb Int := ⟨param b 18 2, param b 20 2, param b 22 2⟩
           let m := param b 27 1
           let ok :=
             (high.r ≤ 1023 ∧ high.g ≤ 1023 ∧ high.b ≤ 1023) ∧ (low.r ≤ high.r ∧ low.g ≤ high.g ∧ low.b ≤ high.b)
               ∧ (m = 1 ∨ m = 2 ∨ m = 4 ∨ m = 8 ∨ m = 16 ∨ m = 32 ∨ m = 64)
               ∧ param b 26 1 ≤ 1 ∧ param b 28 1 ≤ 1 ∧ param b 29 1 ≤ 1
           (¬ ok → exec .setMonitor s = .next (finish b .range 0 s))
             ∧ (ok →
                 exec .setMonitor s
                   = .next (finish b .ok flags.code
                       { s with
                         level :=
                           { s.level with
                             set :=
                               { high := high, low := low, countLimit := param b 24 2
                                 judge := if param b 26 1 = 1 then .averaged else .field
                                 m := m
                                 flagMode := if param b 28 1 = 1 then .latch else .follow
                                 on := param b 29 1 == 1 }
                             block := ⟨0, ⟨0, 0, 0⟩, ⟨0, 0, 0⟩⟩
                             flags := ⟨⟨false, false, false⟩, ⟨false, false, false⟩⟩ } })))
         ∧ (Handed s b 57 →
             let code := param b 12 1
             let keep (w : Nat) (f : Bool) : Bool := f && decide (code / w % 2 = 0)
             (63 < code → exec .ackMonitor s = .next (finish b .range 0 s))
               ∧ (code ≤ 63 →
                   exec .ackMonitor s
                     = .next (finish b .ok flags.code
                         { s with
                           level :=
                             { s.level with
                               flags :=
                                 ⟨⟨keep 1 flags.high.r, keep 2 flags.high.g, keep 4 flags.high.b⟩,
                                   ⟨keep 8 flags.low.r, keep 16 flags.low.g, keep 32 flags.low.b⟩⟩ } }))))


/-! ### Routes and links (08) -/

/-- SET ROUTE (R129): the checks in order, or the entry as given, or the empty entry when VALID is clear. -/
def Obligations.SetRouteChecksInOrder : Prop :=
  ∀ (s : State) (b : OrderBlock), Handed s b 64 →
    let group := param b 12 1
    let set : LinkSet := ⟨param b 13 1 % 2 == 1, param b 13 1 / 2 % 2 == 1, param b 13 1 / 4 % 2 == 1⟩
    let mode := param b 14 1
    let safety := param b 15 1 ≠ 0
    let valid := param b 16 1 ≠ 0
    let empty : LinkSet := ⟨false, false, false⟩
    let bad := 16 ≤ group ∨ 1 < mode ∨ (mode = 1 ∧ safety) ∨ (valid ∧ set = empty)
    (s.pass ≠ none → exec .setRoute s = .next (finish b .passActive 0 s))
      ∧ (s.pass = none → bad → exec .setRoute s = .next (finish b .range 0 s))
      ∧ (s.pass = none → ¬ bad →
          ∃ (routes : Vector Route 16),
            exec .setRoute s
                = .next (finish b .ok
                    (if valid then bit set.a + bit set.b + bit set.c else 0) { s with routes := routes })
              ∧ ∀ g : Fin 16,
                  routes[g.val]
                    = (if g.val = group then
                        (if valid then ⟨set, if mode = 1 then .any else .all, decide safety, true⟩
                        else ⟨empty, .all, false, false⟩)
                      else s.routes[g.val]))

/-- SET LINK, RESET LINK and WAKE LINK (R143, R144, R146): RANGE, PASS_ACTIVE for a reset of a held link, MODE with detail 8 for
a wake in FAULT; else the settings, before which an auto-down decision still to be made for a field event taken before is made
by the old silence limit (that it is made by then at the latest is the model's form, notes/assumptions/4.md), or the link put
DOWN with its queue emptied behind the directive on the line and OUT, STANDBY issued as its state asks (that the queue is
emptied in DOWN too is the model's reading of R132, notes/assumptions/19.md; that the head of the queue is the directive on the
line is its reading in notes/assumptions/13.md), or a wake while the send queue has room, or the owner alone. -/
def Obligations.LinkOrdersActByState : Prop :=
  (∀ (s : State) (b : OrderBlock),
     (Handed s b 65 →
       let ok := param b 13 1 ≤ 1 ∧ 1 ≤ param b 14 2 ∧ 1 ≤ param b 16 2 ∧ 1 ≤ param b 18 2 ∧ 1 ≤ param b 22 1
         ∧ param b 22 1 ≤ 15
       (¬ ok ∨ (∀ l, linkCode l ≠ param b 12 1) → exec .setLink s = .next (finish b .range 0 s))
         ∧ ∀ l, linkCode l = param b 12 1 → ok →
             let r := linkOf l s
             let goes :=
               s.port.running = true ∧ r.downDue = true ∧ r.state = .idle ∧ r.owner = .pass ∧ s.pass = none
                 ∧ r.silenceLimit ≠ 0 ∧ r.silenceLimit ≤ r.silence
             let changed (k : LinkRec) : State :=
               setLinkRec l
                 { k with
                   autoWake := param b 13 1 == 1, wakeLimit := param b 14 2, cueLimit := param b 16 2
                   closeLimit := param b 18 2, silenceLimit := param b 20 2, watchdogLimit := param b 22 1
                   downDue := false } s
             (¬ goes → exec .setLink s = .next (finish b .ok 0 (changed r)))
               ∧ (goes → Room r →
                   exec .setLink s
                     = .next (finish b .ok 0
                         (changed { r with queue := r.queue ++ [.standby], state := .down, owner := .none, silence := 0 }))))
     ∧ (Handed s b 67 →
         ((∀ l, linkCode l ≠ param b 12 1) → exec .resetLink s = .next (finish b .range 0 s))
           ∧ ∀ l, linkCode l = param b 12 1 →
               let r := linkOf l s
               let code := match r.cause with | none => 0 | some c => c.number
               let down (issued : List Directive) : LinkRec :=
                 { r with
                   queue := r.queue.take 1 ++ issued, state := .down, cause := none, recorderCode := 0, owner := .none
                   lockedMark := false, timer := none, silence := 0, downDue := false }
               (r.held = true → exec .resetLink s = .next (finish b .passActive 0 s))
                 ∧ (r.held = false → r.state = .down →
                     exec .resetLink s = .next (finish b .ok code (setLinkRec l { r with queue := r.queue.take 1 } s)))
                 ∧ (r.held = false → (r.state = .rolling ∨ r.state = .recording) →
                     exec .resetLink s = .next (finish b .ok code (setLinkRec l (down [.out, .standby]) s)))
                 ∧ (r.held = false → r.state ≠ .down → r.state ≠ .rolling → r.state ≠ .recording →
                     exec .resetLink s = .next (finish b .ok code (setLinkRec l (down [.standby]) s)))))
    ∧ (∀ (s : State) (b : OrderBlock), Handed s b 66 →
         ((∀ l, linkCode l ≠ param b 12 1) → exec .wakeLink s = .next (finish b .range 0 s))
           ∧ ∀ l, linkCode l = param b 12 1 →
               let r := linkOf l s
               (r.state = .fault → exec .wakeLink s = .next (finish b .mode 8 s))
                 ∧ (r.state = .down → Room r →
                     exec .wakeLink s
                       = .next (finish b .ok 0
                           (setLinkRec l
                             { r with
                               queue := r.queue ++ [.wake], state := .waking, owner := .order
                               timer := some ⟨.wake, s.follower.record.field, r.wakeLimit⟩ } s)))
                 ∧ (r.state ≠ .fault → r.state ≠ .down →
                     exec .wakeLink s
                       = .next (finish b .ok r.state.number (setLinkRec l { r with owner := .order } s))))

/-! ### Passes (09) -/

/-- START PASS refused (R150, R151): the first check that fails gives the outcome, the last one with the code of the links that
fail it; a link is needed when the scene of some frame of the range has a group whose valid route names it. -/
def Obligations.StartPassChecksInOrder : Prop :=
  ∀ (s : State) (b : OrderBlock), Handed s b 80 →
    let a := passArgs b
    let ready := s.pass = none ∧ s.follower.mode ≠ .free ∧ StartRangeOk a s.follower.standard
    let failing := failingLinks s (needOf a s)
    (s.pass ≠ none → exec .startPass s = .next (finish b .passActive 0 s))
      ∧ (s.pass = none → s.follower.mode = .free → exec .startPass s = .next (finish b .mode 0 s))
      ∧ (s.pass = none → s.follower.mode ≠ .free → ¬ StartRangeOk a s.follower.standard →
          exec .startPass s = .next (finish b .range 0 s))
      ∧ (ready → startParity s.follower a.inFrame = .second → exec .startPass s = .next (finish b .range 0 s))
      ∧ (ready → startParity s.follower a.inFrame = .first → s.follower.standIn = true ∨ s.journal.setting = none →
          exec .startPass s = .next (finish b .notReady 0 s))
      ∧ (ready → startParity s.follower a.inFrame = .first → s.follower.standIn = false → s.journal.setting ≠ none →
          needOf a s = noLinks ∨ failing ≠ noLinks →
          exec .startPass s = .next (finish b .notReady (bit failing.a + 2 * bit failing.b + 4 * bit failing.c) s))
      ∧ (∀ l, failing.get l = true ↔
          (needOf a s).get l = true
            ∧ ((linkOf l s).state = .fault ∨ ((linkOf l s).state = .down ∧ (linkOf l s).autoWake = false)))
      ∧ (StoreOk s.store → a.inFrame ≤ a.outFrame →
          ∀ l, (needOf a s).get l = true ↔
            ∃ f, a.inFrame ≤ f ∧ f ≤ a.outFrame
              ∧ (routeOf s (recSceneAt f s.store).group).valid = true
              ∧ (routeOf s (recSceneAt f s.store).group).dest.get l = true)

/-- START PASS accepted (R136, R142, R149, R152, R161), while the send queues have room: the pass record, the held marks, the wakes
and the PASS_START entry, in one change. An auto-down decision still to be made is withdrawn with its silence count, as for an
order taken before the field event (R142; that it is withdrawn is the model's form, notes/assumptions/4.md). -/
def Obligations.StartPassIsAccepted : Prop :=
  ∀ (s : State) (b : OrderBlock), Handed s b 80 →
    let a := passArgs b
    let need := needOf a s
    let x := startIndex s.follower a.inFrame
    let woken (l : Link) : LinkRec :=
      let k := linkOf l s
      let r := { k with silence := if k.downDue = true then 0 else k.silence, downDue := false }
      if need.get l = true then
        (if r.state = .down then
          { r with
            held := true, queue := r.queue ++ [.wake], state := .waking, owner := .pass
            timer := some ⟨.wake, s.follower.record.field, r.wakeLimit⟩ }
        else { r with held := true })
      else r
    StartAccepted a s → (∀ l, need.get l = true → (linkOf l s).state = .down → Room (linkOf l s)) →
    ∃ (groups : Vector GroupEntry 16),
      exec .startPass s
          = .next (finish b .ok (bit need.a + 2 * bit need.b + 4 * bit need.c)
              (offer
                { kind := .passStart, link := none, regained := false, frame := a.inFrame, field := s.follower.record.field
                  timecode := none, scene := (recSceneAt a.inFrame s.store).number, value1 := a.outFrame
                  value2 := (bit need.a + 2 * bit need.b + 4 * bit need.c : Nat) }
                { s with
                  links := ⟨woken .a, woken .b, woken .c⟩
                  pass :=
                    some
                      { state := .preparing, inFrame := a.inFrame, outFrame := a.outFrame, preroll := a.preroll
                        tcIn := a.tcIn, inIndex := x, rollIndex := x - 2 * a.preroll
                        endIndex := startIndex s.follower (a.outFrame + 1), needed := need, cuesIssued := false
                        groups := groups, recording := ⟨false, false, false⟩, lastScene := none, lastIndex := none
                        cause := none } }))
        ∧ (StoreOk s.store →
            ∀ g : Fin 16,
              let used := ∃ f, a.inFrame ≤ f ∧ f ≤ a.outFrame ∧ (recSceneAt f s.store).group = g
              (¬ used → groups[g.val] = .unused)
                ∧ (used → groups[g.val] = (if (routeOf s g).valid = true then .awaited else .spilled)))

/-- ABORT PASS (R165, R166): NO_PASS with no pass; in CLOSING nothing changes; in every other state the pass goes to CLOSING
with cause ORDER. The detail count is the number of the pass state. While the send queues have room, the held links close, are
released or stay, and each that was RECORDING has its EDIT_OUT entry offered, in the order A, B, C; nothing else changes. -/
def Obligations.AbortClosesThePass : Prop :=
  (∀ (s : State) (b : OrderBlock), Handed s b 81 →
     (s.pass = none → exec .abortPass s = .next (finish b .noPass 0 s))
       ∧ ∀ p, s.pass = some p →
           (p.state = .closing → exec .abortPass s = .next (finish b .ok 5 s))
             ∧ (p.state ≠ .closing →
                 ∃ t,
                   exec .abortPass s
                       = .next (finish b .ok
                           (match p.state with
                             | .preparing => 1 | .waiting => 2 | .rolling => 3 | .recording => 4 | .closing => 5) t)
                     ∧ t.pass = some { p with state := .closing, recording := ⟨false, false, false⟩, cause := some .order }
                     ∧ { t with
                         pass := s.pass, links := s.links, journal := s.journal
                         port := { t.port with attention := s.port.attention } } = s))
    ∧ (∀ (s : State) (b : OrderBlock) (p : Pass), Handed s b 81 → s.pass = some p → p.state ≠ .closing →
         (∀ l, (linkOf l s).held = true → Room (linkOf l s)) →
         let x := p.lastIndex.getD p.inIndex
         let closed (l : Link) : LinkRec :=
           let r := linkOf l s
           if r.held = true then
             (if r.state = .recording ∨ r.state = .rolling then
               { r with
                 queue := r.queue ++ [.out], state := .closing, lockedMark := false
                 timer := some ⟨.close, s.follower.record.field, r.closeLimit⟩ }
             else if r.state = .cueing ∨ r.state = .armed then
               { r with queue := r.queue ++ [.standby], state := .idle, timer := none, lockedMark := false }
             else r)
           else r
         let scene := p.lastScene.getD ⟨none, 0, 0⟩
         let edit (s : State) (l : Link) : State :=
           if (linkOf l s).held = true ∧ (linkOf l s).state = .recording then
             offer
               { kind := .editOut, link := some l, regained := false, frame := s.follower.record.frame
                 field := s.follower.record.field
                 timecode := some (tcAdd s.follower.standard (p.tcIn.get l) ((x - p.inIndex) / 2))
                 scene := scene.number, value1 := x, value2 := (scene.group.val : Nat) } s
           else s
         ∃ t, exec .abortPass s = .next t
           ∧ t.links = ⟨closed .a, closed .b, closed .c⟩
           ∧ t.journal = ([Link.a, Link.b, Link.c].foldl edit s).journal
           ∧ t.port.attention = s.port.attention)

/-! ### The exchange area's orders (10) -/

/-- SET JOURNAL, SET REPORTS, MARK, and what becomes of an offered entry (R179, R181, R182, R184). An entry is discarded
uncounted while no journal is set; else it joins the back of a queue of fewer than 8, and at 8 it is dropped, with the lost
count raised by 1 up to 65,535 and JOURNAL_LOST set. The first two: the checks in order, or a new journal with the waiting
entries kept, a slot write in progress no longer advancing its fill mark; reports off, or on with no last slot, a pending report
withdrawn, and one whose write is in progress no longer changing the last slot. MARK changes nothing but its own block's result,
OK with detail count 0, and its final write raises ORDER under NOTIFY. -/
def Obligations.JournalReportsAndMark : Prop :=
  (∀ (s : State) (b : OrderBlock), Handed s b 96 →
     let offset := param b 12 4
     let capacity := param b 16 2
     let threshold := param b 18 2
     let ok :=
       (∃ k, 4 ≤ k ∧ k ≤ 12 ∧ capacity = 2 ^ k) ∧ (1 ≤ threshold ∧ threshold ≤ capacity) ∧ 64 ≤ offset
         ∧ OffsetOk offset (32 * capacity)
     let new : Journal :=
       { setting := some ⟨offset, capacity, threshold⟩, fill := 0, taken := 0, lost := 0, lostFlag := false
         queue := s.journal.queue }
     (s.pass ≠ none → exec .setJournal s = .next (finish b .passActive 0 s))
       ∧ (s.pass = none → ¬ ok → exec .setJournal s = .next (finish b .range 0 s))
       ∧ (s.pass = none → ok →
           ((∀ a p v, s.port.access = some a → a.kind ≠ .journal p v) →
               exec .setJournal s = .next (finish b .ok 0 { s with journal := new }))
             ∧ ∀ a p v, s.port.access = some a → a.kind = .journal p v →
                 exec .setJournal s
                   = .next (finish b .ok 0
                       { s with
                         journal := new
                         port := { s.port with access := some { a with kind := .journal p false } } })))
    ∧ (∀ (s : State) (b : OrderBlock), Handed s b 97 →
         let offset := param b 12 4
         let slots := param b 16 1
         let on := param b 17 1
         let ok := (2 ≤ slots ∧ slots ≤ 64) ∧ 64 ≤ offset ∧ OffsetOk offset (32 * slots)
         (1 < on ∨ (on = 1 ∧ ¬ ok) → exec .setReports s = .next (finish b .range 0 s))
           ∧ (on = 0 ∨ (on = 1 ∧ ok) →
               let new : Reports :=
                 if on = 0 then { s.reports with setting := none, waiting := none }
                 else ⟨some ⟨offset, slots⟩, 65535, none⟩
               ((∀ a n, s.port.access = some a → a.kind ≠ .report n) →
                   exec .setReports s = .next (finish b .ok 0 { s with reports := new }))
                 ∧ ∀ a n, s.port.access = some a → a.kind = .report n →
                     exec .setReports s
                       = .next (finish b .ok 0
                           { s with
                             reports := new
                             port :=
                               { s.port with
                                 access := some (if a.status = .live then { a with status := .stale } else a) } })))
    ∧ (∀ (s : State) (b : OrderBlock), Handed s b 98 →
         exec .mark s = .next (finish b .ok 0 s)
           ∧ ∀ (a : Access) (u : State),
               u.port.walker = (finish b .ok 0 s).port.walker → Live u a .finalWrite → b.notify = true →
               ∃ t, exec .finalWriteComplete u = .next t ∧ isPending .order t = true)
    ∧ ∀ (s : State) (e : Entry),
        let j := s.journal
        (j.setting = none → offer e s = s)
          ∧ (j.setting ≠ none → j.queue.length < 8 → offer e s = { s with journal := { j with queue := j.queue ++ [e] } })
          ∧ (j.setting ≠ none → 8 ≤ j.queue.length →
              offer e s = { s with journal := { j with lost := min 65535 (j.lost + 1), lostFlag := true } })


/-! ### Registers and resets (10, with the reset tables of every chapter) -/

/-- What a power-on and a board reset leave (R23, R41, R63, R66, R84, R86, R111, R127, R128, R148, R170): every block at its
default, but for what a board reset keeps: the looks' grades, parents, levels and child counts, the house area, and the wear
accumulator. (The model's choices: the arbiter's memory, notes/assumptions/9.md, and the written memory and the access under way,
notes/assumptions/8.md.) -/
def Obligations.PowerAndBoardResetsClear : Prop :=
  ∀ s : State,
    let cleared (t : State) : Prop :=
      t.store = [] ∧ t.pass = none
        ∧ (t.follower.perf = 0 ∧ t.follower.standard = .s60 ∧ t.follower.ppf = 4 ∧ t.follower.mode = .free
            ∧ t.follower.origin = 0 ∧ t.follower.div = 2 ∧ t.follower.odd = 1 ∧ t.follower.fields = 0
            ∧ t.follower.standIn = false ∧ t.follower.heldNote = false ∧ t.follower.lastParity = none
            ∧ t.follower.frameRef = false)
        ∧ t.grade = ⟨0, ⟨⟨0, 0, 0⟩, ⟨1024, 1024, 1024⟩, ⟨512, 512, 512⟩, 1024⟩, 4096, false, false, 0⟩
        ∧ (t.picture.legalClip = true ∧ t.picture.defaultNegative = false ∧ t.picture.haltPassage = true
            ∧ t.picture.legalInForce = false)
        ∧ (t.light.floor = 400 ∧ t.light.blockSize = 16 ∧ t.light.target = 2048 ∧ t.light.restLimit = 3000
            ∧ t.light.service = 0 ∧ t.light.blockCount = 0 ∧ t.light.blockSum = 0 ∧ t.light.k = 4096
            ∧ t.light.lowRun = 0 ∧ t.light.lowReported = false ∧ t.light.serviceArmed = true ∧ t.light.restCount = 0
            ∧ t.light.lastFrame = none ∧ t.light.rest = false)
        ∧ t.level = ⟨⟨⟨1023, 1023, 1023⟩, ⟨0, 0, 0⟩, 0, .field, 1, .follow, false⟩, none, none, ⟨0, ⟨0, 0, 0⟩, ⟨0, 0, 0⟩⟩,
            ⟨⟨false, false, false⟩, ⟨false, false, false⟩⟩, none⟩
        ∧ (∀ g : Fin 16, t.routes[g.val] = ⟨⟨false, false, false⟩, .all, false, false⟩)
        ∧ (∀ l, (linkOf l t).state = .down ∧ (linkOf l t).cause = none ∧ (linkOf l t).recorderCode = 0
            ∧ (linkOf l t).owner = .none ∧ (linkOf l t).held = false ∧ (linkOf l t).lockedMark = false
            ∧ (linkOf l t).timer = none ∧ (linkOf l t).silence = 0 ∧ (linkOf l t).requestedTc = 0
            ∧ (linkOf l t).expectedTc = 0 ∧ (linkOf l t).queue = [] ∧ (linkOf l t).framer = .hunting
            ∧ (linkOf l t).wakeLimit = 120 ∧ (linkOf l t).cueLimit = 1800 ∧ (linkOf l t).closeLimit = 300
            ∧ (linkOf l t).silenceLimit = 1800 ∧ (linkOf l t).watchdogLimit = 4 ∧ (linkOf l t).autoWake = true)
        ∧ (t.port.base = 0 ∧ t.port.running = false ∧ t.port.haltCause = .reset ∧ t.port.attention = 0 ∧ t.port.mask = 0
            ∧ t.port.followPoint = 0 ∧ t.port.finished = 0 ∧ t.port.brokenNote = none ∧ t.port.holdoff = .clear
            ∧ t.port.poll = .idle ∧ t.port.walker = .idle ∧ t.port.lastHigh = .poll ∧ t.port.lastLow = .order
            ∧ t.port.access = s.port.access.map fun a => { a with status := .forgotten })
        ∧ t.journal = ⟨none, 0, 0, 0, false, []⟩ ∧ t.reports = ⟨none, 65535, none⟩
        ∧ t.area = s.area
    (∃ t, exec .powerOnReset s = .next t ∧ cleared t ∧ t.port.resetKind = .power ∧ t.light.wear = 0 ∧ t.table.house = 0
        ∧ ∀ i : Fin 64, lookAt t.table i = ⟨unityGrade, 0, if i = 0 then 0 else 1, 0, 0⟩)
      ∧ ∃ t, exec .boardReset s = .next t ∧ cleared t ∧ t.port.resetKind = .board ∧ t.light.wear = s.light.wear
          ∧ t.table.house = s.table.house
          ∧ ∀ i : Fin 64, lookAt t.table i = { lookAt s.table i with locks := 0 }

/-- What a soft reset leaves (R23, R41, R63, R66, R84, R86, R111, R127, R128, R148, R170): the whole next state. The model's
choices: the directive at the head of a send queue is finished as one whose sending has begun (notes/assumptions/13.md), the queue
is emptied in DOWN too (19.md), the position record and the output stand (7.md, 15.md), and the arbiter's memory (9.md). -/
def Obligations.SoftResetKeepsSettings : Prop :=
  ∀ s : State,
    let down (r : LinkRec) : LinkRec :=
      { r with
        queue :=
          r.queue.take 1
            ++ (if r.state = .down then []
                else if r.state = .rolling ∨ r.state = .recording then [.out, .standby] else [.standby])
        state := .down, cause := none, recorderCode := 0, owner := .none, held := false, lockedMark := false, timer := none
        silence := 0, requestedTc := 0, expectedTc := 0, framer := .hunting, downDue := false }
    exec .softReset s
      = .next
          { s with
            port :=
              { s.port with
                resetKind := .soft, running := false, haltCause := .reset, attention := 0, followPoint := 0, finished := 0
                brokenNote := none, holdoff := .clear, poll := .idle, firstOrder := 0, walker := .idle
                access := s.port.access.map fun a => { a with status := .forgotten }
                lastHigh := .poll, lastLow := .order }
            journal := ⟨none, 0, 0, 0, false, []⟩
            reports := ⟨none, 65535, none⟩
            follower :=
              { s.follower with
                mode := .free, standIn := false, heldNote := false, lastParity := none, frameRef := false }
            grade :=
              ⟨s.follower.record.field, ⟨⟨0, 0, 0⟩, ⟨1024, 1024, 1024⟩, ⟨512, 512, 512⟩, 1024⟩, 4096, false, false, 0⟩
            picture := { s.picture with haltPassage := true, legalInForce := false }
            light :=
              { s.light with
                blockCount := 0, blockSum := 0, lowRun := 0, lowReported := false, restCount := 0, lastFrame := none
                rest := false, restDue := false }
            level :=
              { s.level with
                openMeas := none, last := none, block := ⟨0, ⟨0, 0, 0⟩, ⟨0, 0, 0⟩⟩, tally := none
                flags := ⟨⟨false, false, false⟩, ⟨false, false, false⟩⟩ }
            links := ⟨down s.links.a, down s.links.b, down s.links.c⟩
            pass := none }

/-- RUN writes (R110, R126, R147, R168, R171, R183): a write of the state that holds changes nothing; RUN 1 sets the part running;
RUN 0 halts every block, and leaves of the walker and of the access in progress what R171 lets complete. A holdoff in force ends
at the next field event once the run state has changed. (The model's choices: that end, notes/assumptions/16.md, the head
of a send queue, notes/assumptions/13.md, the queue in DOWN, 19.md, and the arbiter's memory, 9.md.) -/
def Obligations.RunWritesStartAndHalt : Prop :=
  ∀ s : State,
    (s.port.running = true → exec .runWritten1 s = .next s)
      ∧ (s.port.running = false →
          exec .runWritten1 s
            = .next
                { s with
                  port :=
                    { s.port with
                      running := true, holdoff := if s.port.holdoff = .clear then .clear else .nextField } })
      ∧ (s.port.running = false → exec .runWritten0 s = .next s)
      ∧ (s.port.running = true →
          let down (r : LinkRec) : LinkRec :=
            { r with
              queue :=
                r.queue.take 1
                  ++ (if r.state = .down then []
                      else if r.state = .rolling ∨ r.state = .recording then [.out, .standby] else [.standby])
              state := .down, cause := none, recorderCode := 0, owner := .none, held := false, lockedMark := false
              timer := none, silence := 0, downDue := false }
          let granted (k : AccessKind) : Prop := ∃ a, s.port.access = some a ∧ a.status = .live ∧ a.kind = k
          ∃ (w : Walker) (acc : Option Access),
            exec .runWritten0 s
                = .next
                    { s with
                      port :=
                        { s.port with
                          running := false, haltCause := .order, poll := .idle, walker := w, access := acc
                          holdoff := if s.port.holdoff = .clear then .clear else .nextField
                          lastHigh := .poll, lastLow := .order }
                      journal := { s.journal with queue := [] }
                      reports := { s.reports with waiting := none }
                      light :=
                        { s.light with
                          blockCount := 0, blockSum := 0, lowRun := 0, lowReported := false, restCount := 0
                          lastFrame := none, rest := false, restDue := false }
                      level :=
                        { s.level with
                          openMeas := none, last := none, block := ⟨0, ⟨0, 0, 0⟩, ⟨0, 0, 0⟩⟩, tally := none }
                      links := ⟨down s.links.a, down s.links.b, down s.links.c⟩
                      pass := none }
              ∧ (s.port.walker = .idle → w = .idle)
              ∧ (∀ o n, s.port.walker = .reading o n → w = .idle)
              ∧ (∀ b h, s.port.walker = .taking b h →
                  (granted .takenWrite → w = .taking b true) ∧ (¬ granted .takenWrite → w = .idle))
              ∧ (∀ b n h, s.port.walker = .closing b n h →
                  (granted .abortedWrite → w = .closing b n true) ∧ (¬ granted .abortedWrite → w = .idle))
              ∧ (∀ b r, s.port.walker = .flight b (.finishing r) →
                  (granted .finalWrite → w = .flight b (.finishing r)) ∧ (¬ granted .finalWrite → w = .aborting b))
              ∧ (∀ b p, s.port.walker = .flight b p → (∀ r, p ≠ .finishing r) → w = .aborting b)
              ∧ (∀ b, s.port.walker = .aborting b → w = .aborting b)
              ∧ (s.port.access = none → acc = none)
              ∧ (∀ a, s.port.access = some a →
                  (∀ p v, a.kind = .journal p v → acc = some { a with kind := .journal false v })
                    ∧ ((a.kind = .takenWrite ∨ a.kind = .abortedWrite ∨ a.kind = .finalWrite ∨ ∃ n, a.kind = .report n) →
                        acc = some a)
                    ∧ ((∀ p v, a.kind ≠ .journal p v) → a.kind ≠ .takenWrite → a.kind ≠ .abortedWrite →
                        a.kind ≠ .finalWrite → (∀ n, a.kind ≠ .report n) →
                        acc = some (if a.status = .live then { a with status := .stale } else a))))

/-- Register writes (R169, R183). By their offsets, a write to BASE, ATTENTION or NOTICE MASK is its own command, and one to
CONTROL is a soft reset with SOFT RESET at 1 whatever RUN is, else RUN 1 or RUN 0; any other offset takes no write. BASE is
taken only while HALTED with no access pending or in progress; ATTENTION clears what is written as 1 and starts a holdoff, which
waits for a poll that begins later while RUNNING and for a field event while HALTED; NOTICE MASK replaces the nine enables.
(Which poll ends a holdoff is the model's reading, notes/assumptions/16.md.) -/
def Obligations.RegisterWritesTakeEffect : Prop :=
  ∀ (s : State) (v : BitVec 32),
    (writeCommand 4 v = some (.baseWrite v) ∧ writeCommand 12 v = some (.attentionWrite v)
        ∧ writeCommand 16 v = some (.noticeMaskWrite v)
        ∧ (v.toNat / 2 % 2 = 1 → writeCommand 8 v = some .softReset)
        ∧ (v.toNat / 2 % 2 = 0 → v.toNat % 2 = 1 → writeCommand 8 v = some .runWritten1)
        ∧ (v.toNat / 2 % 2 = 0 → v.toNat % 2 = 0 → writeCommand 8 v = some .runWritten0)
        ∧ (∀ o, o ≠ 4 → o ≠ 8 → o ≠ 12 → o ≠ 16 → sendWrite o v s = s)
        ∧ ∀ o c, writeCommand o v = some c → sendWrite o v s = { s with pending := s.pending ++ [c] })
      ∧ (s.port.running = true ∨ s.port.access ≠ none ∨ (∃ b, s.port.walker = .aborting b) → exec (.baseWrite v) s = .next s)
      ∧ (s.port.running = false → s.port.access = none → s.port.poll = .idle → s.port.walker = .idle →
          s.reports.waiting = none →
          ∃ base : BitVec 16, exec (.baseWrite v) s = .next { s with port := { s.port with base := base } }
            ∧ base.toNat = v.toNat / 65536)
      ∧ (∃ t, exec (.attentionWrite v) s = .next t ∧ noticeLine t = false
          ∧ t.port.holdoff = (if s.port.running = true then .nextPoll else .nextField)
          ∧ (∀ i, i < 9 → t.port.attention.getLsbD i = (s.port.attention.getLsbD i && !v.getLsbD i))
          ∧ { t with port := { t.port with attention := s.port.attention, holdoff := s.port.holdoff } } = s)
      ∧ ∃ t, exec (.noticeMaskWrite v) s = .next t ∧ (∀ i, i < 9 → t.port.mask.getLsbD i = v.getLsbD i)
          ∧ { t with port := { t.port with mask := s.port.mask } } = s
          ∧ (noticeLine t = true ↔
              s.port.holdoff = .clear ∧ ∃ c : Cause, isPending c s = true ∧ v.getLsbD c.bitIndex = true)

/-- What the registers read, by their offsets (R169; Layouts, Registers), and what a header write stores (R172; Layouts,
Header). (The register bits that the manual does not name, notes/assumptions/6.md, and header bits 9 to 31 of the status and
bytes 41 to 43, 5.md, are left open here; that bytes 34 and 35 are not written is the model's choice, 5.md.) -/
def Obligations.RegistersAndHeaderShowTheState : Prop :=
  ∀ s : State,
    let bits (w : BitVec 32) (pos len : Nat) : Nat := w.toNat / 2 ^ pos % 2 ^ len
    let base := s.port.base.toNat * 65536
    let bytes (address n w : Nat) : List Host.Cell :=
      (List.range n).map fun i => (address + i, BitVec.ofNat 8 (w / 256 ^ i))
    let room := ∃ x, s.journal.setting = some x ∧ (s.journal.fill - s.journal.taken).toNat < x.capacity
    (readRegister 0 s = some (readIdent s) ∧ readRegister 4 s = some (readBase s) ∧ readRegister 8 s = some (readControl s)
        ∧ readRegister 12 s = some (readAttention s) ∧ readRegister 16 s = some (readNoticeMask s)
        ∧ ∀ o, o ≠ 0 → o ≠ 4 → o ≠ 8 → o ≠ 12 → o ≠ 16 → readRegister o s = none)
      ∧ (bits (readIdent s) 0 16 = 340 ∧ 1 ≤ bits (readIdent s) 16 8
        ∧ bits (readIdent s) 24 2 = (match s.port.resetKind with | .power => 1 | .board => 2 | .soft => 3))
      ∧ (readBase s).toNat = base
      ∧ (bits (readControl s) 0 1 = bit s.port.running ∧ bits (readControl s) 1 1 = 0
          ∧ bits (readControl s) 4 2 = (match s.port.haltCause with | .reset => 0 | .order => 1 | .bus => 2)
          ∧ (bits (readControl s) 2 1 = 1 ↔
              s.port.access ≠ none ∨ s.port.poll ≠ .idle ∨ s.reports.waiting ≠ none
                ∨ (s.port.walker ≠ .idle ∧ ∀ b, s.port.walker ≠ .flight b .handed)
                ∨ (s.port.running = true ∧ s.journal.queue ≠ [] ∧ room)))
      ∧ bits (readAttention s) 0 9 = s.port.attention.toNat ∧ bits (readNoticeMask s) 0 9 = s.port.mask.toNat
      ∧ (s.port.poll = .headerWrite →
          ∀ free : BitVec 512,
            ∃ status wear : Nat,
              formAccess .poll s free
                  = ⟨.headerWrite, base + 8,
                      bytes (base + 8) 4 status ++ bytes (base + 12) 4 s.follower.record.field.toNat
                        ++ bytes (base + 16) 4 (s.follower.record.frame % 4294967296).toNat
                        ++ bytes (base + 20) 4 s.port.followPoint.toNat ++ bytes (base + 24) 4 s.port.finished.toNat
                        ++ bytes (base + 28) 2 s.journal.fill.toNat ++ bytes (base + 30) 2 s.journal.lost
                        ++ bytes (base + 32) 2 s.reports.lastSlot ++ bytes (base + 36) 8 wear, .live⟩
                ∧ status % 2 = bit s.port.running
                ∧ status / 2 % 8
                    = (match s.pass.map Pass.state with
                        | none => 0 | some .preparing => 1 | some .waiting => 2 | some .rolling => 3
                        | some .recording => 4 | some .closing => 5)
                ∧ status / 16 % 4 = (match s.follower.record.mode with | .free => 0 | .seeking => 1 | .locked _ _ => 2)
                ∧ status / 64 % 2 = bit s.light.rest
                ∧ (status / 128 % 2 = 1 ↔ s.light.wear = 2 ^ 40 - 1)
                ∧ status / 256 % 2 = bit s.journal.lostFlag
                ∧ (s.light.wear < 2 ^ 40 → wear % 2 ^ 40 = s.light.wear))

/-! ### The scanner's events (03 to 07) -/

/-- A perf event moves the perf counter by one, and is held and noted at a limit (R42). A field event from any source publishes its
record (R57 to R61): the next field number, the parity as it came (for the timer's fields the opposite of the one before, FIRST
after a reset), UNLOCKED for the timer's fields, LIMIT by its causes (an account that held is counted here at fields that are no
slip), and REFERENCE when stand-in begins or ends. -/
def Obligations.PerfAndFieldEventsMakeTheRecord : Prop :=
  (∀ s : State,
     let f := s.follower
     exec (.perfEvent .forward) s
         = .next { s with
             follower := if f.perf = 1000000 * f.ppf - 1 then { f with heldNote := true } else { f with perf := f.perf + 1 } }
       ∧ exec (.perfEvent .reverse) s
         = .next { s with
             follower := if f.perf = -10000 * f.ppf then { f with heldNote := true } else { f with perf := f.perf - 1 } })
    ∧ (∀ (s : State) (c : Instr) (p : Parity) (timer : Bool), FieldCommand s c p timer →
         let f := s.follower
         let atLimit := f.heldNote = true ∨ f.perf = -10000 * f.ppf ∨ f.perf = 1000000 * f.ppf - 1
         (timer = true → (f.lastParity = none → p = .first) ∧ ∀ q, f.lastParity = some q → p = q.opposite)
           ∧ ∃ t, exec c s = .next t
               ∧ t.follower.record.field = f.fields + 1 ∧ t.follower.fields = f.fields + 1
               ∧ t.follower.record.parity = p ∧ t.follower.lastParity = some p
               ∧ t.follower.record.unlocked = timer ∧ t.follower.standIn = timer ∧ t.follower.heldNote = false
               ∧ (atLimit → t.follower.record.limit = true)
               ∧ (t.follower.record.slip = false →
                   (t.follower.record.limit = true ↔
                     atLimit ∨ ∃ n, f.mode = .locked 999999 n ∧ fieldCount f 999999 ≤ n + 1))
               ∧ (f.standIn ≠ timer → isPending .reference t = true)
               ∧ { t.follower with
                   mode := f.mode, fields := f.fields, standIn := f.standIn, heldNote := f.heldNote
                   lastParity := f.lastParity, frameRef := f.frameRef, record := f.record } = f)

/-- Following at a field event (R50 to R54, R56): FREE shows the tach frame; SEEKING locks where the parity is the start parity
of the tach frame; LOCKED advances its account, and slips when the gate is two frames away or the parity is wrong. -/
def Obligations.FollowingAtAFieldEvent : Prop :=
  ∀ (s : State) (c : Instr) (p : Parity) (timer : Bool), FieldCommand s c p timer →
    let f := s.follower
    let tach := f.perf / f.ppf
    ∃ t, exec c s = .next t
      ∧ (f.mode = .free →
          t.follower.mode = .free ∧ t.follower.record.frame = tach ∧ t.follower.record.mode = .free
            ∧ t.follower.record.slip = false ∧ t.follower.frameRef = false)
      ∧ (f.mode = .seeking →
          t.follower.record.frame = tach ∧ t.follower.record.slip = false
            ∧ (p = startParity f tach →
                t.follower.mode = .locked tach 0 ∧ t.follower.record.mode = .locked 0 (startIndex f tach)
                  ∧ t.follower.frameRef = true)
            ∧ (p ≠ startParity f tach →
                t.follower.mode = .seeking ∧ t.follower.record.mode = .seeking ∧ t.follower.frameRef = false))
      ∧ ∀ e n, f.mode = .locked e n →
          let e' := if n + 1 < fieldCount f e then e else if e = 999999 then e else e + 1
          let n' := if n + 1 < fieldCount f e then n + 1 else 0
          let step := (-1 ≤ tach - e' ∧ tach - e' ≤ 1) ∧ p = indexParity (startIndex f e' + n')
          (step →
              t.follower.mode = .locked e' n' ∧ t.follower.record.frame = e'
                ∧ t.follower.record.mode = .locked n' (startIndex f e' + n') ∧ t.follower.record.slip = false
                ∧ (t.follower.frameRef = true ↔ n' = 0))
            ∧ (¬ step →
                t.follower.mode = .seeking ∧ t.follower.record.frame = tach ∧ t.follower.record.mode = .seeking
                  ∧ t.follower.record.slip = true ∧ t.follower.frameRef = false)

/-- The cadence map gives every field index to exactly one frame, pairs alternate between DIV and DIV + ODD fields from the
origin on, and an index is FIRST exactly when it is even (R48, R49). -/
def Obligations.CadenceMapTilesTheIndices : Prop :=
  ∀ f : Follower, 1 ≤ f.div → f.odd ≤ 1 →
    startIndex f f.origin = 0
      ∧ (∀ frame : Int,
          startIndex f (frame + 1) = startIndex f frame + fieldCount f frame
            ∧ ((frame - f.origin) % 2 = 0 → fieldCount f frame = f.div ∧ fieldCount f (frame + 1) = f.div + f.odd))
      ∧ (∀ x : Int, ∃! frame : Int, startIndex f frame ≤ x ∧ x < startIndex f frame + fieldCount f frame)
      ∧ ∀ x : Int, (indexParity x = .first ↔ x % 2 = 0) ∧ (indexParity x = .second ↔ x % 2 = 1)

/-! ### Field events (00, 03) -/

/-- A field command does everything a field event does, and nothing twice (00_scope.md, Blocks; R55, R57, R60, R61, R87): what
the field before has left undone, then the follower's own share, then each block's share once, in the order that the command
carries, none of them missing but those that may come as commands of their own. The follower publishes its record, puts 64 on
the output, raises REFERENCE and offers a REFERENCE entry, marked regained when the reference has come back, where stand-in
begins or ends, and offers a SLIP entry with E and T where the field slips in a pass. An expiry of the watch during stand-in and
a timer field outside it change nothing. (The order operand, and that what is left undone is done first, are the model's form,
notes/assumptions/4.md; that REFERENCE comes before SLIP is its reading, 15.md; and the last clause its choice, 2.md.) -/
def Obligations.FieldCommandRunsEveryShare : Prop :=
  (∀ (s : State) (c : Instr) (p : Parity) (timer : Bool) (order : List FieldAct),
     (c = .fieldEvent p order ∧ timer = false)
         ∨ (c = .referenceWatchExpiry order ∧ s.follower.standIn = false ∧ p = standInParity s.follower ∧ timer = true)
         ∨ (c = .standInField order ∧ s.follower.standIn = true ∧ p = standInParity s.follower ∧ timer = true) →
     ∃ acts : List FieldAct,
       exec c s = .next (acts.foldl (fun s a => runAct a s) (publish p timer (settleField s)))
         ∧ acts.Nodup
         ∧ (∀ a, a ∈ acts ↔
             a ∈ order ∨ a ∈ [FieldAct.grade, .restCount, .measure, .framers, .silence, .pass, .report, .poll])
         ∧ (order.Nodup → ∃ rest, acts = order ++ rest))
    ∧ (∀ s : State,
        settleField s
          = [FieldAct.restEntry, .timer .a, .timer .b, .timer .c, .autoDown .a, .autoDown .b, .autoDown .c].foldl
              (fun s a => runAct a s) s)
    ∧ (∀ (s : State) (order : List FieldAct),
        (s.follower.standIn = true → exec (.referenceWatchExpiry order) s = .next s)
          ∧ (s.follower.standIn = false → exec (.standInField order) s = .next s))
    ∧ ∀ (s : State) (p : Parity) (timer : Bool),
        let f := s.follower
        let tach := f.perf / f.ppf
        let t := publish p timer s
        let entry (kind : EntryKind) (regained : Bool) (v1 v2 : Int) : Entry :=
          { kind := kind, link := none, regained := regained, frame := t.follower.record.frame, field := f.fields + 1
            timecode := none, scene := 0, value1 := v1, value2 := v2 }
        let turned : Prop := f.standIn ≠ timer
        let reference : List Entry := if f.standIn = timer then [] else [entry .reference (decide (timer = false)) 0 0]
        let account (e : Int) (n : Nat) : Int := if n + 1 < fieldCount f e then e else if e = 999999 then e else e + 1
        let slips (e : Int) (n : Nat) : List Entry :=
          if t.follower.record.slip = true ∧ s.pass ≠ none then [entry .slip false (account e n) tach] else []
        let offered (es : List Entry) : Journal := (es.foldl (fun s e => offer e s) s).journal
        { t with follower := f, picture := s.picture, port := s.port, journal := s.journal } = s
          ∧ t.picture = { s.picture with output := ⟨64, 64, 64⟩ }
          ∧ (turned → t.port = (raise .reference s).port) ∧ (¬ turned → t.port = s.port)
          ∧ ((∀ e n, f.mode ≠ .locked e n) → t.journal = offered reference)
          ∧ ∀ e n, f.mode = .locked e n → t.journal = offered (reference ++ slips e n)

/-! ### The field grade and the picture path (04, 05) -/

/-- The field grade made at a field event (R64 to R66, R68, R69, R79, R86): the halt grade while HALTED; while RUNNING unity at a
no-scene frame, and else the grade of the frame under the scene that holds it and that scene's predecessor, with the light
factor in force. (REST depends on the order of the blocks, R80.) -/
def Obligations.FieldGradeIsMadeForTheFrame : Prop :=
  ∀ (s : State) (c : Instr) (p : Parity) (timer : Bool), FieldCommand s c p timer → StoreOk s.store →
    ∃ t, exec c s = .next t ∧ t.grade.field = s.follower.fields + 1
      ∧ (s.port.running = false →
          t.grade = ⟨s.follower.fields + 1, ⟨⟨0, 0, 0⟩, ⟨1024, 1024, 1024⟩, ⟨512, 512, 512⟩, 1024⟩, 4096, false, false, 0⟩
            ∧ t.picture.haltPassage = true ∧ t.picture.legalInForce = false)
      ∧ (s.port.running = true →
          t.picture.haltPassage = false ∧ t.picture.legalInForce = s.picture.legalClip ∧ t.grade.k = s.light.k
            ∧ ((∀ x ∈ s.store, t.follower.record.frame < x.start) →
                t.grade.grade = ⟨⟨0, 0, 0⟩, ⟨1024, 1024, 1024⟩, ⟨512, 512, 512⟩, 1024⟩ ∧ t.grade.scene = 0
                  ∧ t.grade.negative = s.picture.defaultNegative)
            ∧ ∀ (i : Nat) (x : Scene), s.store[i]? = some x → x.start ≤ t.follower.record.frame →
                (∀ n, s.store[i + 1]? = some n → t.follower.record.frame < n.start) →
                t.grade.scene = x.number ∧ t.grade.negative = x.negative
                  ∧ t.grade.grade
                    = frameGrade s.table x (if i = 0 then none else s.store[i - 1]?) t.follower.record.frame)

/-- The grade of a frame (R26, R70, R72 to R77): the look chain of a law-abiding table is as long as the look's level and runs
from the scene's look to its last ancestor; the composed grade starts from the scene's own, and each look of the chain adds its
lift, multiplies in its gain and saturation over 1024 and adds its mid less 512, every value clamped after each look; the scene
grade is the composed one with each channel's trim added to its gain, clamped; trims run in straight lines through their keys
and hold after the last; a dissolve of length n blends its first n frames from the predecessor's last scene grade, or unity, by
a weight w in 1 to 255: each of the ten values is the outgoing one plus the difference to the scene's times w over 256, rounded
down, and never leaves the two values it blends. -/
def Obligations.FrameGradeInterpolates : Prop :=
  (∀ (t : LookTable), LooksOk t → ∀ i : Fin 64,
      (lookChain t i).length = (lookAt t i).level ∧ (lookChain t i).Nodup
        ∧ (i ≠ 0 → lookChain t i = i :: lookChain t (lookAt t i).parent))
    ∧ (∀ (x : Scene) (d : Int), keysRise 0 x.keys = true → 0 ≤ d →
        (x.keys = [] → trims x d = ⟨0, 0, 0⟩)
          ∧ (∀ (i : Nat) (k : TrimKey), x.keys[i]? = some k →
              let before : TrimKey := if i = 0 then ⟨0, ⟨0, 0, 0⟩⟩ else (x.keys[i - 1]?).getD ⟨0, ⟨0, 0, 0⟩⟩
              (d = k.offset → trims x d = k.trim)
                ∧ ((k.offset : Int) ≤ d → x.keys.length = i + 1 → trims x d = k.trim)
                ∧ ((before.offset : Int) ≤ d → d < k.offset →
                    trims x d
                      = before.trim.zip
                          (fun u v => u + (v - u) * (d - before.offset) / ((k.offset : Int) - before.offset)) k.trim)))
    ∧ (∀ (t : LookTable) (x : Scene) (p : Option Scene) (f : Int),
        (let chain := lookChain t x.look
         let after (k : Nat) : Grade := (chain.take k).foldl (fun g i => composeLook g (lookAt t i).grade) x.own
         after 0 = x.own ∧ composed t x = after chain.length
           ∧ ∀ (k : Nat) (i : Fin 64), chain[k]? = some i →
               let g := after k
               let l := (lookAt t i).grade
               let lift (u v : Int) : Int := clamp (-512) 511 (u + v)
               let gain (u v : Int) : Int := clamp 0 4095 (u * v / 1024)
               let mid (u v : Int) : Int := clamp 128 896 (u + v - 512)
               after (k + 1)
                 = ⟨⟨lift g.lift.r l.lift.r, lift g.lift.g l.lift.g, lift g.lift.b l.lift.b⟩,
                     ⟨gain g.gain.r l.gain.r, gain g.gain.g l.gain.g, gain g.gain.b l.gain.b⟩,
                     ⟨mid g.mid.r l.mid.r, mid g.mid.g l.mid.g, mid g.mid.b l.mid.b⟩,
                     clamp 0 2047 (g.sat * l.sat / 1024)⟩)
          ∧ (∀ d : Int,
              let g := composed t x
              let trimmed (u v : Int) : Int := clamp 0 4095 (u + v)
              sceneGrade t x d
                = { g with
                    gain :=
                      ⟨trimmed g.gain.r (trims x d).r, trimmed g.gain.g (trims x d).g,
                        trimmed g.gain.b (trims x d).b⟩ })
          ∧ (x.transition = .cut → frameGrade t x p f = sceneGrade t x (f - x.start))
          ∧ ∀ n, x.transition = .dissolve n →
              (x.start + n ≤ f → frameGrade t x p f = sceneGrade t x (f - x.start))
                ∧ (x.start ≤ f → f < x.start + n →
                    let w := 256 * (f - x.start + 1) / (n + 1)
                    let g := match p with | none => unityGrade | some q => sceneGrade t q (x.start - q.start - 1)
                    let h := sceneGrade t x (f - x.start)
                    let mix (u v : Int) : Int := u + (v - u) * w / 256
                    frameGrade t x p f
                      = ⟨⟨mix g.lift.r h.lift.r, mix g.lift.g h.lift.g, mix g.lift.b h.lift.b⟩,
                          ⟨mix g.gain.r h.gain.r, mix g.gain.g h.gain.g, mix g.gain.b h.gain.b⟩,
                          ⟨mix g.mid.r h.mid.r, mix g.mid.g h.mid.g, mix g.mid.b h.mid.b⟩, mix g.sat h.sat⟩))
    ∧ ∀ (d : Int) (n : Nat) (u v : Int), 0 ≤ d → d < n → n ≤ 255 →
        (1 ≤ weight d n ∧ weight d n ≤ 255) ∧ min u v ≤ blend (weight d n) u v ∧ blend (weight d n) u v ≤ max u v

/-- A sample triple passes the stages of R88 to R96 under the grade in force, and the tap's copy joins the open measurement of
its field (R94, R115); under halt passage with the halt grade it leaves as it came and no copy is taken (R97). -/
def Obligations.SampleTripleIsGraded : Prop :=
  ∀ (s : State) (x : Rgb (BitVec 10)),
    let g := s.grade
    let comp (gain lift mid : Int) (v : BitVec 10) : Int :=
      let u := if g.negative = true then 1023 - (v.toNat : Int) else v.toNat
      let w := min 1023 (u * g.k / 4096)
      let y := clamp 0 1023 (w * gain / 1024 + lift)
      if y ≤ 512 then y * mid / 512 else mid + (y - 512) * (1023 - mid) / 511
    let zr := comp g.grade.gain.r g.grade.lift.r g.grade.mid.r x.r
    let zg := comp g.grade.gain.g g.grade.lift.g g.grade.mid.g x.g
    let zb := comp g.grade.gain.b g.grade.lift.b g.grade.mid.b x.b
    let luma := (306 * zr + 601 * zg + 117 * zb) / 1024
    let sat (z : Int) : Int := clamp 0 1023 (luma + (z - luma) * g.grade.sat / 1024)
    let out (z : Int) : Int := if g.rest = true then 64 else if s.picture.legalInForce = true then clamp 64 940 z else z
    let sent : Picture := { s.picture with output := ⟨out (sat zr), out (sat zg), out (sat zb)⟩ }
    let chan (high low z : Int) (c : ChanMeas) : ChanMeas :=
      ⟨c.count + 1, min c.min z, max c.max z, c.sum + z, if high < z then c.above + 1 else c.above,
        if z < low then c.below + 1 else c.below⟩
    (s.picture.haltPassage = true ∨ (∀ m, s.level.openMeas = some m → m.field ≠ g.field) →
        exec (.sampleTriple x) s = .next { s with picture := sent })
      ∧ (∀ m, s.picture.haltPassage = false → s.level.openMeas = some m → m.field = g.field →
          exec (.sampleTriple x) s
            = .next
                { s with
                  picture := sent
                  level :=
                    { s.level with
                      openMeas :=
                        some
                          { m with
                            rest := m.rest || g.rest
                            chans :=
                              ⟨chan s.level.set.high.r s.level.set.low.r (sat zr) m.chans.r,
                                chan s.level.set.high.g s.level.set.low.g (sat zg) m.chans.g,
                                chan s.level.set.high.b s.level.set.low.b (sat zb) m.chans.b⟩ } } })
      ∧ (s.picture.haltPassage = true → s.picture.legalInForce = false → s.grade = haltGrade s.grade.field →
          exec (.sampleTriple x) s
            = .next { s with picture := { s.picture with output := ⟨x.r.toNat, x.g.toNat, x.b.toNat⟩ } })

/-! ### The light monitor (06) -/

/-- A light sample event (R87, R100 to R105): the output is 64, since it comes in vertical blanking; it is not taken while HALTED
or in REST; a saturated reading changes nothing; a low one
advances the low run, whose sixteenth reports; an accepted one ends the run, joins the block, may complete it with a new K,
adds to the wear accumulator, and makes the service check. -/
def Obligations.LightSampleIsJudged : Prop :=
  ∀ (s : State) (v : BitVec 12),
    let l := s.light
    let u : State := { s with picture := { s.picture with output := ⟨64, 64, 64⟩ } }
    let n := v.toNat
    let entry (kind : EntryKind) (v1 v2 : Nat) : Entry :=
      { kind := kind, link := none, regained := false, frame := s.follower.record.frame, field := s.follower.record.field
        timecode := none, scene := s.grade.scene, value1 := v1, value2 := v2 }
    (s.port.running = false ∨ l.rest = true ∨ n = 4095 → exec (.lightSampleEvent v) s = .next u)
      ∧ (s.port.running = true → l.rest = false → n < 4095 → n < l.floor →
          let run := min 65535 (l.lowRun + 1)
          (run = 16 → l.lowReported = false →
              exec (.lightSampleEvent v) s
                = .next (offer (entry .light n l.floor)
                    (raise .tube { u with light := { l with lowRun := run, lowReported := true } })))
            ∧ (run ≠ 16 ∨ l.lowReported = true →
                exec (.lightSampleEvent v) s = .next { u with light := { l with lowRun := run } }))
      ∧ (s.port.running = true → l.rest = false → n < 4095 → l.floor ≤ n →
          let full := l.blockSize ≤ l.blockCount + 1
          let sum := l.blockSum + n
          let wear := min 1099511627775 (l.wear + n)
          let taken : Light :=
            { l with
              lowRun := 0, lowReported := false, wear := wear
              blockCount := if full then 0 else l.blockCount + 1
              blockSum := if full then 0 else sum
              k :=
                if full then clamp 2048 8191 (4096 * (l.target : Int) / ((sum : Int) / (l.blockSize : Int))) else l.k }
          let due := l.serviceArmed = true ∧ l.service ≠ 0 ∧ l.service ≤ wear
          (¬ due → exec (.lightSampleEvent v) s = .next { u with light := taken })
            ∧ (due →
                exec (.lightSampleEvent v) s
                  = .next (offer (entry .wear (wear / 65536) (l.service / 65536))
                      (raise .tube { u with light := { taken with serviceArmed := false } }))))

/-- Entering REST and auto-down (R107, R142): each when its conditions hold at the latest field, once for that field (the marks
restDue and downDue are the model's, notes/assumptions/4.md), and else nothing. -/
def Obligations.RestAndAutoDownDecide : Prop :=
  (∀ s : State,
      let enters :=
        s.port.running = true ∧ s.light.restDue = true ∧ s.light.rest = false ∧ s.light.restLimit ≠ 0
          ∧ s.light.restLimit ≤ s.light.restCount ∧ ∀ p, s.pass = some p → p.state ≠ .recording
      (enters →
          exec .enterRest s
            = .next { s with
                light :=
                  { s.light with
                    rest := true, restDue := false, blockCount := 0, blockSum := 0, lowRun := 0, lowReported := false } })
        ∧ (¬ enters → exec .enterRest s = .next s))
    ∧ ∀ (s : State) (l : Link),
        let r := linkOf l s
        let goes :=
          s.port.running = true ∧ r.downDue = true ∧ r.state = .idle ∧ r.owner = .pass ∧ s.pass = none
            ∧ r.silenceLimit ≠ 0 ∧ r.silenceLimit ≤ r.silence
        (goes → Room r →
            exec (.autoDown l) s
              = .next (setLinkRec l
                  { r with queue := r.queue ++ [.standby], state := .down, owner := .none, silence := 0, downDue := false }
                  s))
          ∧ (¬ goes → exec (.autoDown l) s = .next s)

/-! ### The recorder links' events (08) -/

/-- The reports that move a link on (R133, R134, R136 to R140): AWAKE with tape, CUED at the requested timecode, LOCKED, WRITTEN
at the expected timecode, and DONE, each in the states that take it. A start byte opens a frame while hunting and is gathered
within one; bytes other than 165 are dropped while hunting; a sent directive leaves the queue; a frame that the framer discards,
a report that the link's state does not take, and a timer command before its limit leave everything else as it is (R132 to
R135). (That DAMAGED_FRAME carries any frame, and that a timer command before its limit is no event, are the model's choices,
notes/assumptions/14.md and 2.md.) -/
def Obligations.LineEventsMoveTheLink : Prop :=
  (∀ (s : State) (l : Link) (v : BitVec 24) (noted : BitVec 32), (linkOf l s).framer = .assembling noted [165] →
     let r := linkOf l s
     let range := match s.follower.standard with | .s50 => 2160000 | .s60 => 2592000
     let heard : LinkRec := { r with framer := .hunting }
     (r.state = .waking → v.toNat = 1 →
         exec (.awake l v) s = .next (setLinkRec l { heard with state := .idle, timer := none } s))
       ∧ (r.state = .cueing → v.toNat < range → v.toNat = r.requestedTc →
           exec (.cued l v) s = .next (setLinkRec l { heard with state := .armed, timer := none } s))
       ∧ ((r.state = .rolling ∨ r.state = .recording) → v.toNat < range →
           exec (.locked l v) s = .next (setLinkRec l { heard with lockedMark := true } s))
       ∧ (r.state = .recording → v.toNat < range → v.toNat = r.expectedTc →
           exec (.written l v) s
             = .next (setLinkRec l
                 { heard with
                   expectedTc := (r.expectedTc + 1) % range
                   timer := r.timer.map fun t => { t with start := s.follower.record.field } } s))
       ∧ (r.state = .closing → exec (.done l v) s = .next (setLinkRec l { heard with state := .idle, timer := none } s)))
    ∧ (∀ (s : State) (l : Link),
         let r := linkOf l s
         let range := match s.follower.standard with | .s50 => 2160000 | .s60 => 2592000
         let heard : State := setLinkRec l { r with framer := .hunting } s
         (r.framer = .hunting →
             exec (.startByte l) s
                 = .next (setLinkRec l { r with framer := .assembling s.follower.record.field [165] } s)
               ∧ ∀ (kind sum : BitVec 8) (v : BitVec 24),
                   kind ≠ 165 → v.toNat % 256 ≠ 165 → v.toNat / 256 % 256 ≠ 165 → v.toNat / 65536 ≠ 165 → sum ≠ 165 →
                   exec (.damagedFrame l kind v sum) s = .next s)
           ∧ (∀ (noted : BitVec 32) (bytes : List Byte), r.framer = .assembling noted bytes → bytes.length < 5 →
               exec (.startByte l) s = .next (setLinkRec l { r with framer := .assembling noted (bytes ++ [165]) } s))
           ∧ exec (.directiveSent l) s = .next (setLinkRec l { r with queue := r.queue.drop 1 } s)
           ∧ (∀ (noted : BitVec 32) (kind sum : BitVec 8) (v : BitVec 24), r.framer = .assembling noted [165] →
               (sum ≠ 165 + kind + BitVec.ofNat 8 v.toNat + BitVec.ofNat 8 (v.toNat / 256) + BitVec.ofNat 8 (v.toNat / 65536)
                   ∨ kind.toNat < 17 ∨ 22 < kind.toNat ∨ (kind = 17 ∧ 1 < v.toNat)
                   ∨ ((kind = 18 ∨ kind = 19 ∨ kind = 20) ∧ range ≤ v.toNat) ∨ (kind = 22 ∧ 65535 < v.toNat) →
                 exec (.damagedFrame l kind v sum) s = .next heard)
               ∧ (r.state ≠ .waking → exec (.awake l v) s = .next heard)
               ∧ (r.state ≠ .cueing → exec (.cued l v) s = .next heard)
               ∧ (r.state ≠ .rolling → r.state ≠ .recording → exec (.locked l v) s = .next heard)
               ∧ (r.state ≠ .recording → exec (.written l v) s = .next heard)
               ∧ (r.state ≠ .closing → exec (.done l v) s = .next heard)
               ∧ (r.state = .down ∨ r.state = .fault → exec (.trouble l v) s = .next heard))
           ∧ ((∀ t, r.timer = some t → (s.follower.record.field - t.start).toNat < t.limit) →
               exec (.wakeTimerExpiry l) s = .next s ∧ exec (.cueTimerExpiry l) s = .next s
                 ∧ exec (.watchdogExpiry l) s = .next s ∧ exec (.closeTimerExpiry l) s = .next s))

/-- The faults that reports and timers bring to a link (R136, R137, R139 to R141), in a pass or in none: the cause, the codes
and values of the tables, OUT where a recorder runs, LINK raised, and the LINK_FAULT entry offered. That is the whole next
state, but for a held link of a pass that is WAITING, ROLLING or RECORDING, whose loss the pass controller deals with in the
same step (R162): the link leaves the recording set, and the pass is aborted (R166) unless every group that has the link is ALL
with SAFETY and keeps a member. (That the head of the send queue is the directive on the line is the model's choice,
notes/assumptions/13.md, and so is that the EDIT_OUT entries of the abort carry the last field index also where a timer acts
at a field before the pass controller takes that field, notes/assumptions/23.md.) -/
def Obligations.LinkFaultsAreReported : Prop :=
  ∀ (s : State) (l : Link),
    let r := linkOf l s
    let range := match s.follower.standard with | .s50 => 2160000 | .s60 => 2592000
    let fault (framer : Framer) (cause : FaultCause) (code value : Nat) (tc : Option Nat) : State :=
      offer
        { kind := .linkFault, link := some l, regained := false, frame := s.follower.record.frame
          field := s.follower.record.field, timecode := tc, scene := s.grade.scene, value1 := (cause.number : Nat)
          value2 := (value : Nat) }
        (raise .link
          (setLinkRec l
            { r with
              framer := framer, state := .fault, cause := some cause, recorderCode := code, lockedMark := false
              timer := none
              queue := r.queue.take 1 ++ (if r.state = .rolling ∨ r.state = .recording then [.out] else []) } s))
    let dealt (f t : State) : Prop :=
      (s.pass = none ∨ r.held = false ∨ (∃ p, s.pass = some p ∧ (p.state = .preparing ∨ p.state = .closing)) → t = f)
        ∧ ∀ p, s.pass = some p → r.held = true → p.state = .waiting ∨ p.state = .rolling ∨ p.state = .recording →
            let lost : Prop :=
              ∃ (g : Fin 16) (set : LinkSet) (mode : RouteMode) (safety : Bool),
                p.groups[g.val] = .resolved set mode safety ∧ set.get l = true
                  ∧ ¬ (mode = .all ∧ safety = true ∧ ∃ m, m ≠ l ∧ set.get m = true ∧ (linkOf m s).state ≠ .fault)
            let stays (m : Link) : Bool := p.recording.get m && decide (m ≠ l)
            let aborted : Pass :=
              { p with state := .closing, recording := ⟨false, false, false⟩, cause := some .linkFault }
            let x := p.lastIndex.getD p.inIndex
            let closed (m : Link) : LinkRec :=
              let k := linkOf m f
              if k.held = true then
                (if k.state = .recording ∨ k.state = .rolling then
                  { k with
                    queue := k.queue ++ [.out], state := .closing, lockedMark := false
                    timer := some ⟨.close, s.follower.record.field, k.closeLimit⟩ }
                else if k.state = .cueing ∨ k.state = .armed then
                  { k with queue := k.queue ++ [.standby], state := .idle, timer := none, lockedMark := false }
                else k)
              else k
            let scene := p.lastScene.getD ⟨none, 0, 0⟩
            let edit (m : Link) : Entry :=
              { kind := .editOut, link := some m, regained := false, frame := s.follower.record.frame
                field := s.follower.record.field
                timecode := some (tcAdd s.follower.standard (p.tcIn.get m) ((x - p.inIndex) / 2))
                scene := scene.number, value1 := x, value2 := (scene.group.val : Nat) }
            let outs : List Link :=
              [Link.a, Link.b, Link.c].filter fun m =>
                decide (m ≠ l) && (linkOf m s).held && decide ((linkOf m s).state = .recording)
            (¬ lost → t = { f with pass := some { p with recording := ⟨stays .a, stays .b, stays .c⟩ } })
              ∧ (lost →
                  t.pass = some aborted
                    ∧ ((∀ m, m ≠ l → (linkOf m s).held = true → Room (linkOf m s)) →
                        t
                          = { f with
                              pass := some aborted, links := ⟨closed .a, closed .b, closed .c⟩
                              journal := (outs.foldl (fun s m => offer (edit m) s) f).journal }))
    (∀ (v : BitVec 24) (noted : BitVec 32), r.framer = .assembling noted [165] →
        (v.toNat ≤ 65535 → r.state ≠ .down → r.state ≠ .fault →
            ∃ t, exec (.trouble l v) s = .next t ∧ dealt (fault .hunting .trouble v.toNat v.toNat none) t)
          ∧ (v.toNat = 0 → r.state = .waking →
              ∃ t, exec (.awake l v) s = .next t ∧ dealt (fault .hunting .noTape 0 1 none) t)
          ∧ (v.toNat < range → r.state = .cueing → v.toNat ≠ r.requestedTc →
              ∃ t, exec (.cued l v) s = .next t ∧ dealt (fault .hunting .cueMismatch 0 v.toNat (some r.requestedTc)) t)
          ∧ (v.toNat < range → r.state = .recording → v.toNat ≠ r.expectedTc →
              ∃ t, exec (.written l v) s = .next t ∧ dealt (fault .hunting .timecode 0 v.toNat (some r.expectedTc)) t))
      ∧ (∀ (start : BitVec 32) (limit : Nat), s.port.running = true → limit ≤ (s.follower.record.field - start).toNat →
          (r.timer = some ⟨.wake, start, limit⟩ → r.state = .waking →
              ∃ t, exec (.wakeTimerExpiry l) s = .next t ∧ dealt (fault r.framer .noAnswer 0 1 none) t)
            ∧ (r.timer = some ⟨.cue, start, limit⟩ → r.state = .cueing →
                ∃ t, exec (.cueTimerExpiry l) s = .next t ∧ dealt (fault r.framer .noAnswer 0 3 (some r.requestedTc)) t)
            ∧ (r.timer = some ⟨.watchdog, start, limit⟩ → r.state = .recording →
                ∃ t, exec (.watchdogExpiry l) s = .next t ∧ dealt (fault r.framer .stall 0 6 (some r.expectedTc)) t)
            ∧ (r.timer = some ⟨.close, start, limit⟩ → r.state = .closing →
                ∃ t, exec (.closeTimerExpiry l) s = .next t ∧ dealt (fault r.framer .noAnswer 0 7 none) t))



/-! ### The level monitor (07) -/

/-- The level monitor's share of a field event while RUNNING (R113 to R123): the open measurement is finished and published,
judged when it is eligible, its statistics written, the tally stepped and closed, and a measurement opened for the new field. -/
def Obligations.LevelMonitorJudgesTheField : Prop :=
  ∀ s : State, s.port.running = true → StoreOk s.store →
    let r := s.follower.record
    let l := s.level
    let t := runAct .measure s
    let recording : Prop := ∃ p, s.pass = some p ∧ p.state = .recording
    let clear : AlertFlags := ⟨⟨false, false, false⟩, ⟨false, false, false⟩⟩
    let both (f : Bool → Bool → Bool) (x y : AlertFlags) : AlertFlags :=
      ⟨⟨f x.high.r y.high.r, f x.high.g y.high.g, f x.high.b y.high.b⟩,
        ⟨f x.low.r y.low.r, f x.low.g y.low.g, f x.low.b y.low.b⟩⟩
    let closing (y : Tally) (u : State) : State :=
      if y.count = 0 then u
      else
        offer
          { kind := .excursion, link := none, regained := false, frame := y.frame, field := y.field, timecode := none
            scene := y.number, value1 := (y.count : Nat), value2 := (y.union.code : Nat) } u
    (∃ n, t.level.openMeas = some n ∧ n.field = r.field ∧ n.frame = r.frame ∧ n.rest = false
        ∧ (n.recorded = true ↔ recording)
        ∧ n.expected = (match s.follower.standard with | .s50 => 207360 | .s60 => 174960)
        ∧ n.chans = ⟨⟨0, 1023, 0, 0, 0, 0⟩, ⟨0, 1023, 0, 0, 0, 0⟩, ⟨0, 1023, 0, 0, 0, 0⟩⟩
        ∧ ((∀ x ∈ s.store, r.frame < x.start) → n.start = none ∧ n.number = 0)
        ∧ ∀ (i : Nat) (x : Scene), s.store[i]? = some x → x.start ≤ r.frame →
            (∀ y, s.store[i + 1]? = some y → r.frame < y.start) → n.start = some x.start ∧ n.number = x.number)
      ∧ (l.openMeas = none →
          t.level.last = l.last ∧ t.level.block = l.block ∧ t.level.flags = l.flags ∧ t.store = s.store
            ∧ t.port = s.port
            ∧ (recording → t.level.tally = l.tally ∧ t.journal = s.journal)
            ∧ (¬ recording →
                t.level.tally = none
                  ∧ t.journal = (match l.tally with | none => s.journal | some y => (closing y s).journal)))
      ∧ ∀ m, l.openMeas = some m →
          let fin (c : ChanMeas) : ChanMeas := if c.count = 0 then { c with min := 0, max := 0 } else c
          let z : Rgb ChanMeas := ⟨fin m.chans.r, fin m.chans.g, fin m.chans.b⟩
          let mean (c : ChanMeas) : Int := if c.count = 0 then 0 else c.sum / (c.count : Int)
          let eligible : Prop :=
            l.set.on = true ∧ m.rest = false ∧ z.r.count = m.expected ∧ z.g.count = m.expected ∧ z.b.count = m.expected
          let full : Prop := l.set.m ≤ l.block.fields + 1
          let maxSum : Rgb Int :=
            ⟨l.block.maxSum.r + z.r.max, l.block.maxSum.g + z.g.max, l.block.maxSum.b + z.b.max⟩
          let minSum : Rgb Int :=
            ⟨l.block.minSum.r + z.r.min, l.block.minSum.g + z.g.min, l.block.minSum.b + z.b.min⟩
          let exceeds (limit sum : Int) : Bool := decide (limit < sum / (l.set.m : Int))
          let falls (limit sum : Int) : Bool := decide (sum / (l.set.m : Int) < limit)
          ∀ j : Option AlertFlags,
            (¬ eligible → j = none) →
            (eligible → l.set.judge = .field →
              j = some
                ⟨⟨decide (l.set.countLimit < z.r.above), decide (l.set.countLimit < z.g.above),
                    decide (l.set.countLimit < z.b.above)⟩,
                  ⟨decide (l.set.countLimit < z.r.below), decide (l.set.countLimit < z.g.below),
                    decide (l.set.countLimit < z.b.below)⟩⟩) →
            (eligible → l.set.judge = .averaged → ¬ full → j = none) →
            (eligible → l.set.judge = .averaged → full →
              j = some
                ⟨⟨exceeds l.set.high.r maxSum.r, exceeds l.set.high.g maxSum.g, exceeds l.set.high.b maxSum.b⟩,
                  ⟨falls l.set.low.r minSum.r, falls l.set.low.g minSum.g, falls l.set.low.b minSum.b⟩⟩) →
            let excursion : Bool := match j with | none => false | some f => decide (f ≠ clear)
            let flags : AlertFlags :=
              match j with
              | none => l.flags
              | some f => match l.set.flagMode with | .follow => f | .latch => both (· || ·) l.flags f
            let steps : Prop := m.recorded = true ∧ ∃ y, l.tally = some y ∧ y.start ≠ m.start
            let base : Tally :=
              match l.tally with
              | none => ⟨m.start, m.number, 0, clear, m.field, m.frame⟩
              | some y => if y.start = m.start then y else ⟨m.start, m.number, 0, clear, m.field, m.frame⟩
            let stepped : Option Tally :=
              if m.recorded = true then
                some
                  { base with
                    field := m.field, frame := m.frame
                    count := if excursion = true then min 65535 (base.count + 1) else base.count
                    union := if excursion = true then both (· || ·) base.union (j.getD clear) else base.union }
              else l.tally
            let first : State := match l.tally with | none => s | some y => closing y s
            t.level.last = some { m with chans := z }
              ∧ t.level.flags = flags
              ∧ ((¬ eligible ∨ l.set.judge = .field) → t.level.block = l.block)
              ∧ (eligible → l.set.judge = .averaged → ¬ full → t.level.block = ⟨l.block.fields + 1, maxSum, minSum⟩)
              ∧ (eligible → l.set.judge = .averaged → full → t.level.block = ⟨0, ⟨0, 0, 0⟩, ⟨0, 0, 0⟩⟩)
              ∧ (both (fun o n => !o && n) l.flags flags ≠ clear → t.port = (raise .alert s).port)
              ∧ (both (fun o n => !o && n) l.flags flags = clear → t.port = s.port)
              ∧ ((¬ eligible ∨ m.start = none) → t.store = s.store)
              ∧ (∀ f, eligible → m.start = some f →
                  t.store
                    = s.store.map fun x =>
                        if x.start = f then
                          { x with
                            stats :=
                              some
                                { frame := m.frame, field := m.field
                                  min := ⟨z.r.min, z.g.min, z.b.min⟩, max := ⟨z.r.max, z.g.max, z.b.max⟩
                                  mean := ⟨mean z.r, mean z.g, mean z.b⟩, excursion := excursion } }
                        else x)
              ∧ (recording →
                  t.level.tally = stepped ∧ (steps → t.journal = first.journal) ∧ (¬ steps → t.journal = s.journal))
              ∧ (¬ recording →
                  t.level.tally = none
                    ∧ (steps →
                        t.journal = (match stepped with | none => first | some y => closing y first).journal)
                    ∧ (¬ steps → t.journal = (match stepped with | none => s | some y => closing y s).journal))

/-! ### What every field counts and reports (06, 08, 10) -/

/-- The remaining shares of a field event (R106 to R108, R133, R135, R142, R172, R182, R183): while HALTED nothing but the end
of a holdoff and of a mark restDue or downDue; while RUNNING the rest count and the leaving of REST, the framers given up after
two fields, the silence counts, the field report formed, with the position record, the grade summary and the measured values of
the last measurement in its bits, and a new field poll, which ends a holdoff that waits for the field alone; and the looks at a
timer, at REST and at auto-down, which do what TIMER expiry, ENTER_REST and AUTO_DOWN do as commands of their own, and clear
their marks. (The marks restDue and downDue are the model's, notes/assumptions/4.md, as is the holdoff while HALTED, 16.md.) -/
def Obligations.FieldCountsReportsAndPolls : Prop :=
  ∀ s : State,
    let r := s.follower.record
    let l := s.light
    let count := if l.lastFrame = some r.frame then min 65535 (l.restCount + 1) else 0
    let heard (k : LinkRec) : LinkRec :=
      match k.framer with
      | .hunting => k
      | .assembling noted _ => if 2 ≤ (r.field - noted).toNat then { k with framer := .hunting } else k
    let silent (k : LinkRec) : LinkRec :=
      if k.state = .idle ∧ k.owner = .pass ∧ s.pass = none then
        { k with silence := min 65535 (k.silence + 1), downDue := true }
      else { k with silence := 0, downDue := false }
    (s.port.running = false →
        (∀ a ∈ [FieldAct.restCount, .measure, .framers, .silence, .pass, .report, .timer .a, .timer .b, .timer .c],
            runAct a s = s)
          ∧ runAct .restEntry s = { s with light := { s.light with restDue := false } }
          ∧ (∀ l : Link, runAct (.autoDown l) s = setLinkRec l { linkOf l s with downDue := false } s)
          ∧ runAct .poll s = { s with port := { s.port with holdoff := .clear } })
      ∧ (s.port.running = true →
          runAct .restCount s
              = { s with
                  light :=
                    { l with
                      restCount := count, lastFrame := some r.frame, rest := l.rest && decide (count ≠ 0)
                      restDue := true } }
            ∧ runAct .framers s = { s with links := ⟨heard s.links.a, heard s.links.b, heard s.links.c⟩ }
            ∧ runAct .silence s = { s with links := ⟨silent s.links.a, silent s.links.b, silent s.links.c⟩ }
            ∧ (∀ l : Link,
                ((linkOf l s).timer = none → runAct (.timer l) s = s)
                  ∧ ∀ t, (linkOf l s).timer = some t →
                      exec
                          (match t.kind with
                            | .wake => .wakeTimerExpiry l | .cue => .cueTimerExpiry l | .watchdog => .watchdogExpiry l
                            | .close => .closeTimerExpiry l) s
                        = .next (runAct (.timer l) s))
            ∧ (∃ t, exec .enterRest s = .next t ∧ runAct .restEntry s = { t with light := { t.light with restDue := false } })
            ∧ (∀ l : Link,
                let k := linkOf l s
                let goes :=
                  k.downDue = true ∧ k.state = .idle ∧ k.owner = .pass ∧ s.pass = none ∧ k.silenceLimit ≠ 0
                    ∧ k.silenceLimit ≤ k.silence
                (goes → exec (.autoDown l) s = .next (runAct (.autoDown l) s))
                  ∧ (¬ goes → runAct (.autoDown l) s = setLinkRec l { k with downDue := false } s))
            ∧ (s.reports.setting = none → runAct .report s = s)
            ∧ (∀ x, s.reports.setting = some x →
                let slot := r.field.toNat % x.slots
                ∃ w : BitVec 256,
                  runAct .report s
                      = { s with reports := { s.reports with waiting := some ⟨slot, x.offset + 32 * slot, w⟩ } }
                    ∧ w.toNat % 2 ^ 32 = r.field.toNat
                    ∧ w.toNat / 2 ^ 32 % 2 ^ 24 = (r.frame % 2 ^ 24).toNat
                    ∧ w.toNat / 2 ^ 56 % 2 = (match r.parity with | .first => 0 | .second => 1)
                    ∧ w.toNat / 2 ^ 57 % 4 = (match r.mode with | .free => 0 | .seeking => 1 | .locked _ _ => 2)
                    ∧ w.toNat / 2 ^ 59 % 32
                        = bit r.limit + 2 * bit r.slip + 4 * bit r.unlocked + 8 * bit s.grade.rest
                          + 16 * bit s.grade.negative
                    ∧ (s.grade.scene ≤ 65535 → w.toNat / 2 ^ 64 % 65536 = s.grade.scene)
                    ∧ (let g := s.grade.grade
                       let summary (pos len : Nat) : Nat := w.toNat / 2 ^ (80 + pos) % 2 ^ len
                       GradeOk g → FactorOk s.grade.k →
                         (summary 0 12 : Int) = g.gain.r ∧ (summary 12 12 : Int) = g.gain.g ∧ (summary 24 12 : Int) = g.gain.b
                           ∧ summary 36 10 = (g.lift.r % 1024).toNat ∧ (summary 46 10 : Int) = g.mid.r
                           ∧ (summary 56 11 : Int) = g.sat ∧ (summary 67 13 : Int) = s.grade.k)
                    ∧ (s.level.last = none → w.toNat / 2 ^ 160 = 0)
                    ∧ ∀ m, s.level.last = some m →
                        let mean (c : ChanMeas) : Int := if c.count = 0 then 0 else c.sum / (c.count : Int)
                        let code (pos : Nat) (v : Int) : Prop :=
                          0 ≤ v → v ≤ 1023 → (w.toNat / 2 ^ (160 + pos) % 65536 : Nat) = v
                        code 0 (mean m.chans.r) ∧ code 16 (mean m.chans.g) ∧ code 32 (mean m.chans.b)
                          ∧ code 48 m.chans.r.max ∧ code 64 m.chans.g.max ∧ code 80 m.chans.b.max)
            ∧ runAct .poll s
                = { s with
                    port :=
                      { s.port with
                        poll := .headerRead
                        holdoff :=
                          match s.port.holdoff with
                          | .nextPoll => .thisPoll | .thisPoll => .thisPoll | .nextField => .clear | .clear => .clear
                        access :=
                          s.port.access.map fun a =>
                            if (a.kind = .headerRead ∨ a.kind = .headerWrite ∨ a.kind = .linkRead) ∧ a.status = .live then
                              { a with status := .stale }
                            else a } })

/-! ### Passes at a field (09) -/

/-- A pass at a field that does not abort it (R156, R157, R159, R161, R163, R167), while the send queues have room. A field that
is not LOCKED changes nothing in WAITING, ROLLING and RECORDING; a LOCKED one is noted as the last field index, and nothing more
happens below the roll index, below the in index, or at a SECOND field of a recording. At the roll index the held links roll. At
the out-point those that run are closed, and the EDIT_OUT entry of each that was RECORDING is offered, in the order A, B, C.
CLOSING: once every held link is IDLE or FAULT and no tally is open, PASS_END is offered, PASS raised, and the pass is gone. -/
def Obligations.PassRollsClosesAndEnds : Prop :=
  (∀ (s : State) (p : Pass) (n : Nat) (x : Int), s.port.running = true → s.pass = some p →
     let r := s.follower.record
     let noted : Pass := { p with lastIndex := some x }
     r.unlocked = false → r.slip = false →
     (p.state = .waiting ∨ p.state = .rolling ∨ p.state = .recording → (∀ m y, r.mode ≠ .locked m y) → runAct .pass s = s)
       ∧ (r.mode = .locked n x →
           (p.state = .waiting → x < p.rollIndex → runAct .pass s = { s with pass := some noted })
             ∧ (p.state = .waiting → x = p.rollIndex →
                 (∀ l, (linkOf l s).held = true → (linkOf l s).state = .armed → Room (linkOf l s)) →
                 let rolled (l : Link) : LinkRec :=
                   if (linkOf l s).held = true ∧ (linkOf l s).state = .armed then
                     { linkOf l s with queue := (linkOf l s).queue ++ [.roll], state := .rolling, lockedMark := false }
                   else linkOf l s
                 runAct .pass s
                   = { s with
                       pass := some { noted with state := .rolling }
                       links := ⟨rolled .a, rolled .b, rolled .c⟩ })
             ∧ (p.state = .rolling → x < p.inIndex → runAct .pass s = { s with pass := some noted })
             ∧ (p.state = .recording → r.parity = .second → runAct .pass s = { s with pass := some noted })
             ∧ (p.state = .recording → r.parity = .first → p.endIndex ≤ x →
                 (∀ l, (linkOf l s).held = true → Room (linkOf l s)) →
                 let closed (l : Link) : LinkRec :=
                   let k := linkOf l s
                   if k.held = true ∧ (k.state = .recording ∨ k.state = .rolling) then
                     { k with
                       queue := k.queue ++ [.out], state := .closing, lockedMark := false
                       timer := some ⟨.close, r.field, k.closeLimit⟩ }
                   else k
                 let scene := p.lastScene.getD ⟨none, 0, 0⟩
                 let edit (l : Link) : Entry :=
                   { kind := .editOut, link := some l, regained := false, frame := r.frame, field := r.field
                     timecode := some (tcAdd s.follower.standard (p.tcIn.get l) ((x - p.inIndex) / 2))
                     scene := scene.number, value1 := x, value2 := (scene.group.val : Nat) }
                 let outs : List Link :=
                   [Link.a, Link.b, Link.c].filter fun l =>
                     (linkOf l s).held && decide ((linkOf l s).state = .recording)
                 runAct .pass s
                   = { s with
                       pass := some { noted with state := .closing, recording := ⟨false, false, false⟩ }
                       links := ⟨closed .a, closed .b, closed .c⟩
                       journal := (outs.foldl (fun s l => offer (edit l) s) s).journal })))
    ∧ (∀ (s : State) (p : Pass), s.port.running = true → s.pass = some p → p.state = .closing →
         let r := s.follower.record
         let done :=
           (∀ l, (linkOf l s).held = true → (linkOf l s).state = .idle ∨ (linkOf l s).state = .fault)
             ∧ s.level.tally = none
         let cause : Nat :=
           match p.cause with
           | none => 0 | some .order => 1 | some .slip => 2 | some .referenceLost => 3 | some .linkFault => 4
           | some .noRecorder => 5 | some .lateRoll => 6
         let freed (l : Link) : LinkRec := { linkOf l s with held := false }
         let index : Option Int :=
           match r.mode with | .locked _ x => some x | .free => p.lastIndex | .seeking => p.lastIndex
         (done →
             runAct .pass s
               = { (raise .pass
                     (offer
                       { kind := .passEnd, link := none, regained := false, frame := r.frame, field := r.field
                         timecode := none, scene := 0, value1 := if p.cause = none then 0 else 1
                         value2 := (cause : Nat) } s)) with
                   pass := none, links := ⟨freed .a, freed .b, freed .c⟩ })
           ∧ (¬ done → runAct .pass s = { s with pass := some { p with lastIndex := index } }))

/-- A pass aborted at a field (R55, R60, R156, R161, R164, R166): before it closes, UNLOCKED aborts it in every state with
REFERENCE_LOST, SLIP alone with SLIP, and in WAITING a LOCKED field past the roll index with LATE_ROLL. The pass goes to
CLOSING. While the send queues have room, the held links that run are closed, those that are CUEING or ARMED are released, the
others stay, and each that was RECORDING has its EDIT_OUT entry offered, in the order A, B, C; nothing else changes. (That the
last field index is noted before an abort is the model's reading, notes/assumptions/17.md.) -/
def Obligations.FieldAbortsThePass : Prop :=
  ∀ (s : State) (p : Pass) (cause : AbortCause), s.port.running = true → s.pass = some p → p.state ≠ .closing →
    let r := s.follower.record
    let called : Prop :=
      (r.unlocked = true ∧ cause = .referenceLost) ∨ (r.unlocked = false ∧ r.slip = true ∧ cause = .slip)
        ∨ (r.unlocked = false ∧ r.slip = false ∧ p.state = .waiting ∧ cause = .lateRoll
            ∧ ∃ n y, r.mode = .locked n y ∧ p.rollIndex < y)
    let index : Option Int :=
      match r.mode with | .locked _ x => some x | .free => p.lastIndex | .seeking => p.lastIndex
    let x := index.getD p.inIndex
    let aborted : Pass :=
      { p with lastIndex := index, state := .closing, recording := ⟨false, false, false⟩, cause := some cause }
    let closed (l : Link) : LinkRec :=
      let k := linkOf l s
      if k.held = true then
        (if k.state = .recording ∨ k.state = .rolling then
          { k with
            queue := k.queue ++ [.out], state := .closing, lockedMark := false
            timer := some ⟨.close, r.field, k.closeLimit⟩ }
        else if k.state = .cueing ∨ k.state = .armed then
          { k with queue := k.queue ++ [.standby], state := .idle, timer := none, lockedMark := false }
        else k)
      else k
    let scene := p.lastScene.getD ⟨none, 0, 0⟩
    let edit (l : Link) : Entry :=
      { kind := .editOut, link := some l, regained := false, frame := r.frame, field := r.field
        timecode := some (tcAdd s.follower.standard (p.tcIn.get l) ((x - p.inIndex) / 2))
        scene := scene.number, value1 := x, value2 := (scene.group.val : Nat) }
    let outs : List Link :=
      [Link.a, Link.b, Link.c].filter fun l => (linkOf l s).held && decide ((linkOf l s).state = .recording)
    called →
    (runAct .pass s).pass = some aborted
      ∧ ((∀ l, (linkOf l s).held = true → Room (linkOf l s)) →
          runAct .pass s
            = { s with
                pass := some aborted, links := ⟨closed .a, closed .b, closed .c⟩
                journal := (outs.foldl (fun s l => offer (edit l) s) s).journal })

/-- The recording set at the in-point of a ROLLING pass and at a FIRST field below the end index of a RECORDING one (R139, R141,
R157 to R162): links out and in, the new set in force, the scene kept, the pass RECORDING, and the entries SCENE, SPILL,
EDIT_OUT and EDIT_IN offered in that order. A link told to record without its locked mark faults with NOT_LOCKED, one whose
queue is full with OVERRUN, and its LINK_FAULT entry takes the place of its EDIT_IN; one told to stop with a full queue faults
too, and its LINK_FAULT entry comes last. Faulted links leave the set, and abort the pass unless every group that has one is ALL
with SAFETY and keeps a member. (The model's readings: that an EDIT_OUT is not offered for a link that faults instead,
notes/assumptions/15.md; that the directive at the head of a faulting link's queue stays, 13.md; and that an overrunning IN
leaves its expected timecode stored, 20.md.) -/
def Obligations.RecordingSetFollowsTheScene : Prop :=
  ∀ (s : State) (p : Pass) (n : Nat) (x : Int), s.port.running = true → s.pass = some p →
    let r := s.follower.record
    let sc := recSceneAt r.frame s.store
    let new (l : Link) : Bool :=
      match p.groups[sc.group.val] with
      | .resolved set _ _ => set.get l && decide ((linkOf l s).state ≠ .fault)
      | .unused => false
      | .spilled => false
      | .awaited => false
    let leaves (l : Link) : Bool := p.recording.get l && !new l
    let enters (l : Link) : Bool := !p.recording.get l && new l
    let full (l : Link) : Bool := decide (4 ≤ (linkOf l s).queue.length)
    let fails (l : Link) : Bool := (leaves l && full l) || (enters l && (!(linkOf l s).lockedMark || full l))
    let cause (l : Link) : FaultCause :=
      if enters l = true ∧ (linkOf l s).lockedMark = false then .notLocked else .overrun
    let tc (l : Link) : Nat := tcAdd s.follower.standard (p.tcIn.get l) ((x - p.inIndex) / 2)
    let moved (l : Link) : LinkRec :=
      let k := linkOf l s
      if fails l = true then
        { k with
          state := .fault, cause := some (cause l), recorderCode := 0, lockedMark := false, timer := none
          queue := k.queue.take 1 ++ [.out]
          expectedTc := if enters l = true ∧ k.lockedMark = true then tc l else k.expectedTc }
      else if leaves l = true then { k with queue := k.queue ++ [.out], state := .rolling, timer := none }
      else if enters l = true then
        { k with
          queue := k.queue ++ [.recordIn], state := .recording, expectedTc := tc l
          timer := some ⟨.watchdog, r.field, k.watchdogLimit⟩ }
      else k
    let entry (kind : EntryKind) (l : Option Link) (c : RecScene) : Entry :=
      { kind := kind, link := l, regained := false, frame := r.frame, field := r.field, timecode := l.map tc
        scene := c.number, value1 := x, value2 := (c.group.val : Nat) }
    let faultOf (l : Link) : Entry :=
      { kind := .linkFault, link := some l, regained := false, frame := r.frame, field := r.field, timecode := none
        scene := s.grade.scene, value1 := ((cause l).number : Nat), value2 := ((linkOf l s).state.number : Nat) }
    let last := p.lastScene.getD ⟨none, 0, 0⟩
    let links : List Link := [.a, .b, .c]
    let entries : List Entry :=
      (if p.lastScene = none ∨ last.number ≠ sc.number then [entry .scene none sc] else [])
        ++ (if (p.lastScene = none ∨ last.start ≠ sc.start) ∧ p.groups[sc.group.val] = .spilled then
              [entry .spill none sc] else [])
        ++ (links.filter fun l => leaves l && !fails l).map (fun l => entry .editOut (some l) last)
        ++ (links.filter enters).map (fun l => if fails l = true then faultOf l else entry .editIn (some l) sc)
        ++ (links.filter fun l => leaves l && fails l).map faultOf
    let lost : Prop :=
      ∃ (l : Link) (g : Fin 16) (set : LinkSet) (mode : RouteMode) (safety : Bool),
        fails l = true ∧ p.groups[g.val] = .resolved set mode safety ∧ set.get l = true
          ∧ ¬ (mode = .all ∧ safety = true
                ∧ ∃ m, set.get m = true ∧ (linkOf m s).state ≠ .fault ∧ fails m = false)
    let worked : Pass :=
      { p with
        state := .recording, lastIndex := some x, lastScene := some sc
        recording := ⟨new .a && !fails .a, new .b && !fails .b, new .c && !fails .c⟩ }
    (p.state = .rolling ∧ x = p.inIndex) ∨ (p.state = .recording ∧ r.parity = .first ∧ x < p.endIndex) →
    r.unlocked = false → r.slip = false → r.mode = .locked n x →
    (∀ l, leaves l = true → (linkOf l s).held = true ∧ (linkOf l s).state = .recording) →
    (∀ l, enters l = true → (linkOf l s).held = true ∧ (linkOf l s).state = .rolling) →
    (¬ lost →
        runAct .pass s
          = { s with
              port := if fails .a || fails .b || fails .c then (raise .link s).port else s.port
              pass := some worked, links := ⟨moved .a, moved .b, moved .c⟩
              journal := (entries.foldl (fun s e => offer e s) s).journal })
      ∧ (lost →
          (runAct .pass s).pass
            = some { worked with state := .closing, recording := ⟨false, false, false⟩, cause := some .linkFault })

/-- The faults OVERRUN and NOT_LOCKED (R132, R139, R141), request by request. A directive issued to a full send queue is not
queued, and the link that was to issue it faults with OVERRUN, its queue emptied behind the directive on the line and OUT issued
where a recorder runs; LINK is raised and a LINK_FAULT entry with the number of the state left is offered, for a release, an out
and a close request by `lateFault`, behind the entries of the step (R160; at an abort and at the out-point the model's choice,
notes/assumptions/23.md). An in request without the locked mark faults with NOT_LOCKED. Then
the same of WAKE LINK, of AUTO_DOWN, and of an auto-down that SET LINK finds still to be decided (notes/assumptions/4.md), in no
pass. (The wake owner, the silence count and the head of the queue are the model's choices, notes/assumptions/20.md and 13.md.)
-/
def Obligations.FullQueueAndUnlockedLinkFault : Prop :=
  ∀ (s : State) (l : Link),
    let r := linkOf l s
    let fault (cause : FaultCause) (k : LinkRec) : State :=
      raise .link
        (setLinkRec l
          { k with
            state := .fault, cause := some cause, recorderCode := 0, lockedMark := false, timer := none
            queue := k.queue.take 1 ++ (if k.state = .rolling ∨ k.state = .recording then [.out] else []) } s)
    let told (cause : FaultCause) (t : State) : State :=
      offer
        { kind := .linkFault, link := some l, regained := false, frame := s.follower.record.frame
          field := s.follower.record.field, timecode := none, scene := s.grade.scene, value1 := (cause.number : Nat)
          value2 := (r.state.number : Nat) } t
    (∀ tc, r.state = .rolling → r.lockedMark = false → inRequest l tc s = told .notLocked (fault .notLocked r))
      ∧ (¬ Room r →
          (∀ owner, r.state = .down → wakeRequest l owner s = told .overrun (fault .overrun r))
            ∧ (∀ tc, r.state = .idle →
                cueRequest l tc s = told .overrun (fault .overrun { r with requestedTc := tc, silence := 0 }))
            ∧ (r.state = .armed → rollRequest l s = told .overrun (fault .overrun r))
            ∧ (∀ tc, r.state = .rolling → r.lockedMark = true →
                inRequest l tc s = told .overrun (fault .overrun { r with expectedTc := tc }))
            ∧ (r.state = .cueing ∨ r.state = .armed → releaseRequest l s = fault .overrun r)
            ∧ (r.state = .recording → outRequest l s = fault .overrun r)
            ∧ (r.state = .rolling ∨ r.state = .recording → closeRequest l s = fault .overrun r)
            ∧ (r.state ≠ .fault → lateFault s l (fault .overrun r) = told .overrun (fault .overrun r))
            ∧ (s.pass = none → s.port.running = true → r.downDue = true → r.state = .idle → r.owner = .pass →
                r.silenceLimit ≠ 0 → r.silenceLimit ≤ r.silence →
                exec (.autoDown l) s = .next (told .overrun (fault .overrun r)))
            ∧ (∀ b : OrderBlock, Handed s b 66 → param b 12 1 = linkCode l → s.pass = none → r.state = .down →
                exec .wakeLink s = .next (finish b .ok 0 (told .overrun (fault .overrun r))))
            ∧ ∀ b : OrderBlock, Handed s b 65 → param b 12 1 = linkCode l →
                (param b 13 1 ≤ 1 ∧ 1 ≤ param b 14 2 ∧ 1 ≤ param b 16 2 ∧ 1 ≤ param b 18 2 ∧ 1 ≤ param b 22 1
                  ∧ param b 22 1 ≤ 15) →
                s.pass = none → s.port.running = true → r.downDue = true → r.state = .idle → r.owner = .pass →
                r.silenceLimit ≠ 0 → r.silenceLimit ≤ r.silence →
                let t := told .overrun (fault .overrun r)
                exec .setLink s
                  = .next (finish b .ok 0
                      (setLinkRec l
                        { linkOf l t with
                          autoWake := param b 13 1 == 1, wakeLimit := param b 14 2, cueLimit := param b 16 2
                          closeLimit := param b 18 2, silenceLimit := param b 20 2, watchdogLimit := param b 22 1 } t)))

/-- A pass that prepares (R153 to R155) and a loss in a resolved one (R162), while the send queues have room: no cue while a
needed link is WAKING; then all cues together; no resolution before every needed link is ARMED or FAULT; then each awaited group
by its mode, with the abort for NO_RECORDER or the release of what takes no part. A TROUBLE of a held link later aborts the pass
unless every group that has it is ALL with SAFETY and keeps a member. -/
def Obligations.PassPreparesResolvesAndLoses : Prop :=
  (∀ (s : State) (p : Pass), s.port.running = true → s.pass = some p → p.state = .preparing →
      s.follower.record.unlocked = false → s.follower.record.slip = false →
      (∀ l, p.needed.get l = true → Room (linkOf l s)) →
      let index : Option Int :=
        match s.follower.record.mode with | .locked _ x => some x | .free => p.lastIndex | .seeking => p.lastIndex
      let q : Pass := { p with lastIndex := index }
      let tc (l : Link) : Nat := tcAdd s.follower.standard (p.tcIn.get l) (-p.preroll)
      let cued (l : Link) : LinkRec :=
        let k := linkOf l s
        if p.needed.get l = true ∧ k.state = .idle then
          { k with
            requestedTc := tc l, silence := 0, queue := k.queue ++ [.cue (tc l)], state := .cueing
            timer := some ⟨.cue, s.follower.record.field, k.cueLimit⟩ }
        else k
      let settled : Prop :=
        ∀ l, p.needed.get l = true → (linkOf l s).state = .armed ∨ (linkOf l s).state = .fault
      let armed (g : Fin 16) (l : Link) : Bool :=
        (routeOf s g).dest.get l && decide ((linkOf l s).state = .armed)
      let chosen (g : Fin 16) (l : Link) : Bool :=
        match (routeOf s g).mode with
        | .all => if (routeOf s g).safety = true then armed g l else (routeOf s g).dest.get l
        | .any =>
          match l with
          | .a => armed g .a
          | .b => armed g .b && !armed g .a
          | .c => armed g .c && !armed g .a && !armed g .b
      let missing (g : Fin 16) : Prop :=
        p.groups[g.val] = .awaited
          ∧ (((routeOf s g).mode = .all ∧ (routeOf s g).safety = false
                ∧ ∃ l, (routeOf s g).dest.get l = true ∧ (linkOf l s).state = .fault)
              ∨ (((routeOf s g).mode = .any ∨ (routeOf s g).safety = true) ∧ ∀ l, armed g l = false))
      (p.cuesIssued = false → (∃ l, p.needed.get l = true ∧ (linkOf l s).state = .waking) →
          runAct .pass s = { s with pass := some q })
        ∧ (p.cuesIssued = false → (∀ l, p.needed.get l = true → (linkOf l s).state ≠ .waking) →
            (∃ l, p.needed.get l = true ∧ (linkOf l s).state = .idle) →
            runAct .pass s
              = { s with pass := some { q with cuesIssued := true }, links := ⟨cued .a, cued .b, cued .c⟩ })
        ∧ (p.cuesIssued = true → ¬ settled → runAct .pass s = { s with pass := some q })
        ∧ (p.cuesIssued = true → settled →
            ∃ groups : Vector GroupEntry 16,
              (∀ g : Fin 16,
                  groups[g.val]
                    = (if p.groups[g.val] = .awaited then
                        .resolved ⟨chosen g .a, chosen g .b, chosen g .c⟩ (routeOf s g).mode (routeOf s g).safety
                      else p.groups[g.val]))
                ∧ ((∃ g, missing g) →
                    (runAct .pass s).pass
                      = some
                          { q with
                            groups := groups, state := .closing, recording := ⟨false, false, false⟩
                            cause := some .noRecorder })
                ∧ ((∀ g, ¬ missing g) →
                    ∀ free : Link → Bool,
                      (∀ l, free l = true ↔
                        p.needed.get l = true
                          ∧ ∀ g : Fin 16, ∀ set mode safety, groups[g.val] = .resolved set mode safety → set.get l = false) →
                      let left (l : Link) : LinkRec :=
                        let k := linkOf l s
                        if free l = true then
                          (if k.state = .armed then
                            { k with held := false, queue := k.queue ++ [.standby], state := .idle, timer := none, lockedMark := false }
                          else { k with held := false })
                        else k
                      runAct .pass s
                        = { s with
                            pass := some { q with groups := groups, state := .waiting }
                            links := ⟨left .a, left .b, left .c⟩ })))
    ∧ ∀ (s : State) (p : Pass) (l : Link) (v : BitVec 24) (noted : BitVec 32),
        s.pass = some p → p.state = .waiting ∨ p.state = .rolling ∨ p.state = .recording →
        (linkOf l s).held = true → (linkOf l s).framer = .assembling noted [165] → v.toNat ≤ 65535 →
        (linkOf l s).state ≠ .down → (linkOf l s).state ≠ .fault →
        let lost : Prop :=
          ∃ (g : Fin 16) (set : LinkSet) (mode : RouteMode) (safety : Bool),
            p.groups[g.val] = .resolved set mode safety ∧ set.get l = true
              ∧ ¬ (mode = .all ∧ safety = true ∧ ∃ m, m ≠ l ∧ set.get m = true ∧ (linkOf m s).state ≠ .fault)
        ∃ t, exec (.trouble l v) s = .next t ∧ (linkOf l t).state = .fault ∧ (linkOf l t).cause = some .trouble
          ∧ (¬ lost →
              ∃ set, t.pass = some { p with recording := set }
                ∧ ∀ m, set.get m = (p.recording.get m && decide (m ≠ l)))
          ∧ (lost →
              t.pass
                = some { p with state := .closing, recording := ⟨false, false, false⟩, cause := some .linkFault })

/-! ### The exchange port (10) -/

/-- The field poll and the walk (R172 to R175, R180, R183): the header read brings the first-order word and the taken mark;
after the header write the link is judged or read when nothing is in flight, and else the poll is complete; the link read
completes the poll and its word is judged; a poll's end ends a holdoff, unless the poll had begun before it; of a block read,
POSTED is to be taken, TAKEN to be closed, a finished one is passed over and its link judged at once, and any other is left
alone. (That no access is made for the first-order word, and which poll ends a holdoff, are the model's reading,
notes/assumptions/16.md.) -/
def Obligations.PortPollsAndWalks : Prop :=
  (∀ (s : State) (a : Access),
     let u := endAccess a s
     let polled : State := { u with port := { u.port with poll := .idle, holdoff := if s.port.holdoff = .nextPoll then .nextPoll else .clear } }
     (∀ bytes : BitVec 64, Live s a .headerRead →
         exec (.headerReadComplete bytes) s
           = .next
               { u with
                 journal := { u.journal with taken := bytes.extractLsb' 32 16 }
                 port := { u.port with firstOrder := bytes.extractLsb' 0 32, poll := .headerWrite } })
       ∧ (Live s a .headerWrite → s.port.walker ≠ .idle → exec .headerWriteComplete s = .next polled)
       ∧ (Live s a .headerWrite → s.port.walker = .idle → s.port.followPoint ≠ 0 →
           exec .headerWriteComplete s = .next { u with port := { u.port with poll := .linkRead } })
       ∧ (Live s a .headerWrite → s.port.walker = .idle → s.port.followPoint = 0 →
           ∃ t, exec .headerWriteComplete s = .next t ∧ Judged s.port.firstOrder 0 polled t)
       ∧ (∀ link : BitVec 32, Live s a .linkRead →
           ∃ t, exec (.linkReadComplete link) s = .next t ∧ Judged link 0 polled t))
    ∧ (∀ (s : State) (a : Access) (o : BitVec 32) (n : Nat) (block : BitVec 256),
         Live s a .blockRead → s.port.walker = .reading o n →
         let u := endAccess a s
         let state := block.toNat / 2 ^ 48 % 65536
         let b : OrderBlock :=
           ⟨o, block.extractLsb' 0 32, block.extractLsb' 32 8, block.getLsbD 40, block.extractLsb' 96 160⟩
         (state = 1 → exec (.blockReadComplete block) s = .next { u with port := { u.port with walker := .taking b false } })
           ∧ (state = 2 →
               exec (.blockReadComplete block) s = .next { u with port := { u.port with walker := .closing b (n + 1) false } })
           ∧ ((3 ≤ state ∧ state ≤ 5) →
               ∃ t, exec (.blockReadComplete block) s = .next t
                 ∧ Judged b.link (n + 1) { u with port := { u.port with followPoint := o } } t)
           ∧ ((state = 0 ∨ 5 < state) →
               exec (.blockReadComplete block) s = .next { u with port := { u.port with walker := .idle } }))

/-- The writes of an order block (R171, R176): TAKEN hands the order over, or ends it with BAD_ORDER, or leaves it to be ABORTED
after a halt; the result index is followed by the final write; a final or ABORTED write makes the block the follow point, counts
it, and raises ORDER under NOTIFY; and after a found-TAKEN block the walk goes on. -/
def Obligations.OrderBlocksPassToTheirEnd : Prop :=
  ∀ (s : State) (a : Access) (b : OrderBlock),
    let u := endAccess a s
    let known := [1, 2, 3, 4, 5, 6, 7, 16, 17, 18, 19, 32, 33, 34, 40, 48, 56, 57, 64, 65, 66, 67, 80, 81, 96, 97, 98]
    let ended : State :=
      let t : State :=
        { u with port := { u.port with followPoint := b.offset, finished := s.port.finished + 1, walker := .idle } }
      if b.notify = true then raise .order t else t
    (Live s a .takenWrite → s.port.walker = .taking b false →
        (b.code.toNat ∈ known → exec .takenWriteComplete s = .next (proceed b .handed u))
          ∧ (b.code.toNat ∉ known → exec .takenWriteComplete s = .next (finish b .badOrder 0 u)))
      ∧ (Live s a .takenWrite → s.port.walker = .taking b true →
          exec .takenWriteComplete s = .next { u with port := { u.port with walker := .aborting b } })
      ∧ (∀ i r, Live s a .resultIndex → s.port.walker = .flight b (.resultIndex i r) →
          exec .resultIndexWriteComplete s = .next (finish b r.outcome r.detail u))
      ∧ (∀ r, Live s a .finalWrite → s.port.walker = .flight b (.finishing r) → exec .finalWriteComplete s = .next ended)
      ∧ (Live s a .abortedWrite → (s.port.walker = .aborting b ∨ ∃ n, s.port.walker = .closing b n true) →
          exec .abortedWriteComplete s = .next ended)
      ∧ (∀ n, Live s a .abortedWrite → s.port.walker = .closing b n false →
          ∃ t, exec .abortedWriteComplete s = .next t ∧ Judged b.link n ended t)

/-- The arbiter (R178): a grant goes to the high class first, and within a class of two that wait to the one granted less recently;
nothing is granted while an access is in progress or nothing waits; no memory changes at a grant. (That a request is read off
the block that waits is the model's choice, notes/assumptions/9.md, as are the index of free bits, 5.md, and that a poll is granted
ahead of an ABORTED write left over from a halt, which R171 has made first, 22.md.) -/
def Obligations.GrantsFollowTheClasses : Prop :=
  ∀ s : State,
    let poll := s.port.poll ≠ .idle
    let journal :=
      s.port.running = true ∧ s.journal.queue ≠ []
        ∧ ∃ x, s.journal.setting = some x ∧ (s.journal.fill - s.journal.taken).toNat < x.capacity
    let order := s.port.walker ≠ .idle ∧ ∀ b, s.port.walker ≠ .flight b .handed
    let report := s.reports.waiting ≠ none
    let free := Config.freeBits s.freeIndex
    (s.port.access ≠ none ∨ (¬ poll ∧ ¬ journal ∧ ¬ order ∧ ¬ report) → exec .accessGrant s = .next s)
      ∧ (s.port.access = none → poll ∨ journal ∨ order ∨ report →
          ∃ (t : State) (a : Access) (r : Requester),
            exec .accessGrant s = .next t ∧ t.port.access = some a ∧ a = formAccess r s free ∧ a.status = .live
              ∧ ((poll ∧ ¬ journal) ∨ (poll ∧ journal ∧ s.port.lastHigh ≠ .poll) → r = .poll)
              ∧ ((journal ∧ ¬ poll) ∨ (journal ∧ poll ∧ s.port.lastHigh = .poll) → r = .journal)
              ∧ (¬ poll → ¬ journal → (order ∧ ¬ report) ∨ (order ∧ report ∧ s.port.lastLow ≠ .order) → r = .order)
              ∧ (¬ poll → ¬ journal → (report ∧ ¬ order) ∨ (report ∧ order ∧ s.port.lastLow = .order) → r = .report)
              ∧ t.port.lastHigh = (if r = .poll ∨ r = .journal then r else s.port.lastHigh)
              ∧ t.port.lastLow = (if r = .order ∨ r = .report then r else s.port.lastLow)
              ∧ t.reports = (if r = .report then { s.reports with waiting := none } else s.reports)
              ∧ t.freeIndex = s.freeIndex + 1
              ∧ { t with
                  freeIndex := s.freeIndex, reports := s.reports
                  port := { t.port with access := none, lastHigh := s.port.lastHigh, lastLow := s.port.lastLow } } = s)

/-- The addresses of the accesses and the bytes that the writes store (R18, R20, R38, R173 to R176, R180, R182; Layouts, Journal
entry and Order block). With room by the taken mark last read, the journal's grant writes the oldest entry, field by field, into
the slot of the fill mark; without room the journal is granted nothing. The writes of TAKEN, of ABORTED (of a halted order's
block and of a found-TAKEN one), of the result index and of the result go into their block; READ SCENES and READ LOOKS write
slot after slot; LOAD SCENES fetches record after record; the poll and the walk read the header, the follow point's link and the
block. (That addresses and data are formed at the grant is the model's choice, notes/assumptions/8.md.) -/
def Obligations.AccessesStoreTheirBytes : Prop :=
  ∀ (s : State) (free : BitVec 512),
    let base := s.port.base.toNat * 65536
    let bytes (address n w : Nat) : List Host.Cell :=
      (List.range n).map fun i => (address + i, BitVec.ofNat 8 (w / 256 ^ i))
    let room (x : JournalSet) : Prop := (s.journal.fill - s.journal.taken).toNat < x.capacity
    (∀ x e rest, s.journal.setting = some x → s.journal.queue = e :: rest → s.port.running = true →
        s.port.access = none → s.port.poll = .idle → room x →
        let slot := base + (x.offset + 32 * (s.journal.fill.toNat % x.capacity))
        ∃ t w, exec .accessGrant s = .next t
          ∧ t.port.access = some ⟨.journal true true, slot, bytes slot 32 w, .live⟩
          ∧ w % 256 = e.kind.number
          ∧ w / 2 ^ 8 % 256 = (match e.link with | none => 0 | some .a => 1 | some .b => 2 | some .c => 4)
          ∧ w / 2 ^ 16 % 2 = bit e.timecode.isSome ∧ w / 2 ^ 17 % 2 = bit e.regained
          ∧ w / 2 ^ 32 % 2 ^ 32 = (e.frame % 2 ^ 32).toNat ∧ w / 2 ^ 64 % 2 ^ 32 = e.field.toNat
          ∧ (e.timecode = none → w / 2 ^ 96 % 2 ^ 32 = 0)
          ∧ (∀ tc, e.timecode = some tc → tc < 2 ^ 32 → w / 2 ^ 96 % 2 ^ 32 = tc)
          ∧ (e.scene ≤ 65535 → w / 2 ^ 128 % 65536 = e.scene) ∧ w / 2 ^ 144 % 65536 = s.journal.fill.toNat
          ∧ w / 2 ^ 160 % 2 ^ 32 = (e.value1 % 2 ^ 32).toNat ∧ w / 2 ^ 192 % 2 ^ 32 = (e.value2 % 2 ^ 32).toNat
          ∧ w / 2 ^ 224 = 0)
      ∧ (∀ x, s.journal.setting = some x → ¬ room x → s.port.access = none →
          ∃ t, exec .accessGrant s = .next t ∧ ∀ a p v, t.port.access = some a → a.kind ≠ .journal p v)
      ∧ (s.port.poll = .headerRead → formAccess .poll s free = ⟨.headerRead, base, [], .live⟩)
      ∧ (s.port.poll = .linkRead →
          formAccess .poll s free = ⟨.linkRead, base + s.port.followPoint.toNat, [], .live⟩)
      ∧ (∀ (o : BitVec 32) (n : Nat), s.port.walker = .reading o n →
          formAccess .order s free = ⟨.blockRead, base + o.toNat, [], .live⟩)
      ∧ (∀ (b : OrderBlock) (h : Bool), s.port.walker = .taking b h →
          formAccess .order s free
            = ⟨.takenWrite, base + b.offset.toNat + 6, bytes (base + b.offset.toNat + 6) 2 2, .live⟩)
      ∧ (∀ (b : OrderBlock) (r : Result), s.port.walker = .flight b (.finishing r) → r.detail ≤ 65535 →
          formAccess .order s free
            = ⟨.finalWrite, base + b.offset.toNat + 6,
                bytes (base + b.offset.toNat + 6) 6
                  ((match r.outcome with
                      | .ok => 3 | .clamped => 3 | .partially => 3 | .aborted => 5 | .badOrder => 4 | .range => 4 | .full => 4
                      | .locked => 4 | .protectedLook => 4 | .chain => 4 | .passActive => 4 | .noPass => 4 | .mode => 4
                      | .notReady => 4 | .busFault => 4)
                    + 65536 * r.outcome.number + 2 ^ 32 * r.detail), .live⟩)
      ∧ (∀ (b : OrderBlock), (s.port.walker = .aborting b ∨ ∃ n h, s.port.walker = .closing b n h) →
          formAccess .order s free
            = ⟨.abortedWrite, base + b.offset.toNat + 6,
                bytes (base + b.offset.toNat + 6) 6 (5 + 65536 * 14), .live⟩)
      ∧ (∀ (b : OrderBlock) (i : Nat) (r : Result), s.port.walker = .flight b (.resultIndex i r) →
          formAccess .order s free
            = ⟨.resultIndex, base + b.offset.toNat + 20, bytes (base + b.offset.toNat + 20) 2 i, .live⟩)
      ∧ (∀ (b : OrderBlock) (run : LoadRun), s.port.walker = .flight b (.fetchLoad run) →
          formAccess .order s free = ⟨.loadFetch, base + (run.offset + 64 * run.index), [], .live⟩)
      ∧ (∀ (b : OrderBlock) (run : SceneRead) (x : Scene), s.port.walker = .flight b (.slotScene run) →
          run.written < run.count →
          (s.store.filter fun y => decide (run.first ≤ y.start))[run.written]? = some x →
          let slot := base + (run.offset + 64 * run.written)
          formAccess .order s free = ⟨.sceneSlot, slot, bytes slot 64 (encodeScene x free), .live⟩)
      ∧ (∀ (b : OrderBlock) (run : LookRead) (i : Fin 64), s.port.walker = .flight b (.slotLook run) →
          i.val = run.first + run.written →
          let slot := base + (run.offset + 32 * run.written)
          formAccess .order s free = ⟨.lookSlot, slot, bytes slot 32 (lookRecord s.table i free), .live⟩)
      ∧ (∀ x : FieldReport, s.reports.waiting = some x →
          formAccess .report s free
            = ⟨.report x.slot, base + x.offset, bytes (base + x.offset) 32 x.bytes.toNat, .live⟩)

/-- A bus error (R177): by what the access was for, the order ends with BUS_FAULT, or the part halts as under RUN 0 with halt cause
BUS, or reports are turned off; while HALTED it raises BUS alone, and nothing for a data access, whose order the halt has ended. An
access whose result is given up errs in the same way, but for its order and the walker; one that a reset has made the part forget
frees the port alone. The bytes of the failed access are not stored. (What a failed access leaves of the walker, what a given-up one
does, and BUS while HALTED are the model's choice, notes/assumptions/12.md, and the forgotten one's, 8.md.) -/
def Obligations.BusErrorActsByAccess : Prop :=
  ∀ (s : State) (a : Access), s.port.access = some a →
    let u : State := { s with port := { s.port with access := none } }
    let live : Prop := a.status = .live
    let walk : Prop := a.kind = .blockRead ∨ a.kind = .takenWrite ∨ a.kind = .abortedWrite ∨ a.kind = .resultIndex ∨ a.kind = .finalWrite
    let port : Prop := walk ∨ a.kind = .headerRead ∨ a.kind = .headerWrite ∨ a.kind = .linkRead
    let other : Prop := port ∨ (∃ p v, a.kind = .journal p v) ∨ (∃ n, a.kind = .report n)
    let left : State := { u with port := { u.port with walker := if live ∧ walk then .idle else u.port.walker } }
    let halted (t : State) : Prop :=
      ∃ v, exec .runWritten0 (raise .bus left) = .next v ∧ t = { v with port := { v.port with haltCause := .bus } }
    (a.status = .forgotten → exec .busError s = .next u)
      ∧ (a.status ≠ .forgotten → s.port.running = true →
          (∀ b o, live → a.kind = .sceneFetch → s.port.walker = .flight b (.fetchScene o) →
              exec .busError s = .next (finish b .busFault 0 u))
            ∧ (∀ b run, live → a.kind = .loadFetch → s.port.walker = .flight b (.fetchLoad run) →
                exec .busError s = .next (proceed b (.resultIndex run.index ⟨.busFault, run.refused⟩) u))
            ∧ (∀ b run, live → a.kind = .sceneSlot → s.port.walker = .flight b (.slotScene run) →
                exec .busError s = .next (finish b .busFault run.written u))
            ∧ (∀ b i o, live → a.kind = .lookFetch → s.port.walker = .flight b (.fetchLook i o) →
                exec .busError s = .next (finish b .busFault 0 u))
            ∧ (∀ b run, live → a.kind = .lookSlot → s.port.walker = .flight b (.slotLook run) →
                exec .busError s = .next (finish b .busFault run.written u))
            ∧ (¬ live → ¬ other → exec .busError s = .next u)
            ∧ (port ∨ (∃ p v, a.kind = .journal p v) → ∃ t, exec .busError s = .next t ∧ halted t)
            ∧ (∀ n, a.kind = .report n →
                exec .busError s
                  = .next (raise .bus { u with reports := { u.reports with setting := none, waiting := none } })))
      ∧ (a.status ≠ .forgotten → s.port.running = false →
          (other → exec .busError s = .next (raise .bus left)) ∧ (¬ other → exec .busError s = .next u))

/-- The completions of journal and report writes (R171, R180 to R182), of any access that a reset has made the part forget
(R170), and of any whose result is given up: that of an abandoned poll (R172), one cut by a halt (R171), or a report write detached
by SET REPORTS (R182). The bytes land and the port is free, a wanted write moves its marks, and a given-up header read still brings
the taken mark. (The model's choices: that forgotten writes land, notes/assumptions/8.md, and the taken mark, 10.md.) -/
def Obligations.WritesMoveTheirMarks : Prop :=
  ∀ (s : State) (a : Access),
    let u := endAccess a s
    (∀ pops advances, Live s a (.journal pops advances) →
        let queue := if pops = true then s.journal.queue.drop 1 else s.journal.queue
        let fill := if advances = true then s.journal.fill + 1 else s.journal.fill
        let t : State := { u with journal := { s.journal with queue := queue, fill := fill } }
        let reached :=
          advances = true ∧ ∃ x, s.journal.setting = some x ∧ (fill - s.journal.taken).toNat = x.threshold
        (reached → exec .journalWriteComplete s = .next (raise .journal t))
          ∧ (¬ reached → exec .journalWriteComplete s = .next t))
      ∧ (∀ slot, Live s a (.report slot) →
          exec .reportWriteComplete s = .next { u with reports := { s.reports with lastSlot := slot } })
      ∧ (s.port.access = some a → a.status = .forgotten → a.kind = .headerRead →
          ∀ v, exec (.headerReadComplete v) s = .next u)
      ∧ (s.port.access = some a → a.status = .stale → a.kind = .headerRead →
          ∀ v, exec (.headerReadComplete v) s
            = .next { u with journal := { s.journal with taken := v.extractLsb' 32 16 } })
      ∧ (s.port.access = some a → a.status = .forgotten ∨ a.status = .stale →
          (a.kind = .headerWrite → exec .headerWriteComplete s = .next u)
            ∧ (a.kind = .linkRead → ∀ v, exec (.linkReadComplete v) s = .next u)
            ∧ (a.kind = .blockRead → ∀ v, exec (.blockReadComplete v) s = .next u)
            ∧ (a.kind = .takenWrite → exec .takenWriteComplete s = .next u)
            ∧ (a.kind = .abortedWrite → exec .abortedWriteComplete s = .next u)
            ∧ (a.kind = .finalWrite → exec .finalWriteComplete s = .next u)
            ∧ (a.kind = .resultIndex → exec .resultIndexWriteComplete s = .next u)
            ∧ (a.kind = .sceneFetch → ∀ v, exec (.sceneFetchComplete v) s = .next u)
            ∧ (a.kind = .loadFetch → ∀ v, exec (.loadRecordFetchComplete v) s = .next u)
            ∧ (a.kind = .sceneSlot → exec .readScenesSlotWritten s = .next u)
            ∧ (a.kind = .lookSlot → exec .readLooksSlotWritten s = .next u)
            ∧ (a.kind = .lookFetch → ∀ v, exec (.lookFetchComplete v) s = .next u)
            ∧ ((∃ p v, a.kind = .journal p v) → exec .journalWriteComplete s = .next u)
            ∧ ((∃ n, a.kind = .report n) → exec .reportWriteComplete s = .next u))

/-! ### The laws that every step keeps -/

/-- The written part of the exchange area keeps its canonical form: addresses rise strictly and none is listed twice (the list
is the model's own form, notes/assumptions/8.md). The staging queue never holds more than 8 entries, and none while no journal
is set; the lost count stays a 16-bit count; no send queue ever holds more than 4 directives; and a receive framer that does not
hunt holds 1 to 5 bytes, the first of them 165 (R130, R132, R133, R179, R180). -/
def Obligations.MemoryAndBuffersKeepTheirForm : Prop :=
  (∀ s t : State, AreaOk s → step s = .next t → AreaOk t)
    ∧ (∀ s t : State, BuffersOk s → step s = .next t → BuffersOk t)

/-- The perf counter stays within its limits, the follower's settings within their ranges, its account within the frame it
counts, and every frame it shows is a frame (R42, R44, R46, R51, R53). The output stays within its limits: a code value from 0 to
1,023, within 64 to 940 under the legal clip in force, and 64 under REST (R98). (What the output holds between triples, and across
resets, is the model's choice, notes/assumptions/15.md.) -/
def Obligations.FollowerAndOutputStayInRange : Prop :=
  (∀ s t : State, FollowerOk s.follower → step s = .next t → FollowerOk t.follower)
    ∧ ∀ s t : State, OutputOk s → step s = .next t → OutputOk t

/-- Every grade, stored or in force, and the light factor stay within their ranges (R1, R24, R63, R82, R103); the light
monitor's working state stays within its own (R99 to R104); and the wear accumulator never decreases but by a load of SET LIGHT
and a power-on reset. -/
def Obligations.GradesAndLightStayInRange : Prop :=
  (∀ s t : State, GradesOk s → step s = .next t → GradesOk t)
    ∧ (∀ s t : State, LightOk s.light → step s = .next t → LightOk t.light)
    ∧ ∀ (s t : State) (c : Instr), s.light.wear ≤ 1099511627775 → c ≠ .setLight → c ≠ .powerOnReset →
        exec c s = .next t → s.light.wear ≤ t.light.wear

/-- The scene store keeps at most 2,048 records in strictly increasing start frame, each within its ranges (R1, R2, R5). With
it, the look table's laws: levels fit parents, child counts count children, lock counts count the locked scenes that depend on a
look, and a PUT LOOK in flight is of a look that is open to it (R25 to R29, R31, R33, R36, R37). -/
def Obligations.StoreAndLookLawsHold : Prop :=
  (∀ s t : State, StoreOk s.store → step s = .next t → StoreOk t.store)
    ∧ (∀ s t : State, StoreOk s.store → LooksOk s.table → LocksOk s → PutsOpenLook s → step s = .next t →
         LooksOk t.table ∧ LocksOk t ∧ PutsOpenLook t)

/-- While the part is HALTED every link stays DOWN, no pass exists, nothing is measured, REST is clear, and the port has nothing
to do but to let the writes complete that R171 lets complete; a holdoff in force waits for a field event (R110, R126, R147, R168,
R171, R183). (That it waits for that also after a change of run state is the model's reading, notes/assumptions/16.md.) -/
def Obligations.HaltedPartRests : Prop :=
  ∀ s t : State, HaltedOk s → step s = .next t → HaltedOk t

/-- The links and the pass agree: with no pass no link is held; a link is RECORDING only while the pass is RECORDING and the link
is in its recording set; and every link a pass may still use is held (R149, R152, R155, R158, R167). -/
def Obligations.PassAndLinksAgree : Prop :=
  ∀ s t : State, PassOk s → step s = .next t → PassOk t

/-- A locked scene keeps its grade (R9, R29, R83): every command but a power-on and a board reset, which erase it, leaves each frame
of its span to the scene with the same start, number and picture sense, locked unless UNLOCK SCENES cleared it, and the frame's
grade as it was. -/
def Obligations.LockedSceneKeepsItsGrade : Prop :=
  ∀ (s t : State) (c : Instr) (f : Int) (x : Scene) (p : Option Scene),
    StoreOk s.store → LooksOk s.table → LocksOk s → PutsOpenLook s → exec c s = .next t →
    c ≠ .powerOnReset → c ≠ .boardReset →
    lookup f s.store = some (x, p) → x.locked = true →
    ∃ (y : Scene) (q : Option Scene),
      lookup f t.store = some (y, q) ∧ (c ≠ .unlockScenes → y.locked = true)
        ∧ y.start = x.start ∧ y.number = x.number ∧ y.negative = x.negative
        ∧ frameGrade t.table y q f = frameGrade s.table x p f

/-- Right after reset every law above holds. -/
def Obligations.ResetSatisfiesTheLaws : Prop :=
  AreaOk State.reset ∧ BuffersOk State.reset ∧ FollowerOk State.reset.follower ∧ GradesOk State.reset
    ∧ LightOk State.reset.light ∧ OutputOk State.reset ∧ StoreOk State.reset.store ∧ LooksOk State.reset.table
    ∧ LocksOk State.reset ∧ PutsOpenLook State.reset ∧ HaltedOk State.reset ∧ PassOk State.reset
end

