-- ==== Sys2Proof/Laws/State.lean ====
section
/-!
SUPPORT. Laws/State.lean: what the shared operations leave alone, one lemma for each field of State and each update, so that no
later proof unfolds a record update.
-/
namespace Sys2Proof.Machine

/-! ### raise -/

@[simp] theorem raise_pending (c : Cause) (s : State) : (raise c s).pending = s.pending := rfl
@[simp] theorem raise_journal (c : Cause) (s : State) : (raise c s).journal = s.journal := rfl
@[simp] theorem raise_reports (c : Cause) (s : State) : (raise c s).reports = s.reports := rfl
@[simp] theorem raise_follower (c : Cause) (s : State) : (raise c s).follower = s.follower := rfl
@[simp] theorem raise_store (c : Cause) (s : State) : (raise c s).store = s.store := rfl
@[simp] theorem raise_table (c : Cause) (s : State) : (raise c s).table = s.table := rfl
@[simp] theorem raise_grade (c : Cause) (s : State) : (raise c s).grade = s.grade := rfl
@[simp] theorem raise_picture (c : Cause) (s : State) : (raise c s).picture = s.picture := rfl
@[simp] theorem raise_light (c : Cause) (s : State) : (raise c s).light = s.light := rfl
@[simp] theorem raise_level (c : Cause) (s : State) : (raise c s).level = s.level := rfl
@[simp] theorem raise_routes (c : Cause) (s : State) : (raise c s).routes = s.routes := rfl
@[simp] theorem raise_links (c : Cause) (s : State) : (raise c s).links = s.links := rfl
@[simp] theorem raise_pass (c : Cause) (s : State) : (raise c s).pass = s.pass := rfl
@[simp] theorem raise_area (c : Cause) (s : State) : (raise c s).area = s.area := rfl
@[simp] theorem raise_freeIndex (c : Cause) (s : State) : (raise c s).freeIndex = s.freeIndex := rfl

/-! ### offer -/

@[simp] theorem offer_pending (e : Entry) (s : State) : (offer e s).pending = s.pending := by unfold offer; split <;> [rfl; (split <;> rfl)]
@[simp] theorem offer_port (e : Entry) (s : State) : (offer e s).port = s.port := by unfold offer; split <;> [rfl; (split <;> rfl)]
@[simp] theorem offer_reports (e : Entry) (s : State) : (offer e s).reports = s.reports := by unfold offer; split <;> [rfl; (split <;> rfl)]
@[simp] theorem offer_follower (e : Entry) (s : State) : (offer e s).follower = s.follower := by unfold offer; split <;> [rfl; (split <;> rfl)]
@[simp] theorem offer_store (e : Entry) (s : State) : (offer e s).store = s.store := by unfold offer; split <;> [rfl; (split <;> rfl)]
@[simp] theorem offer_table (e : Entry) (s : State) : (offer e s).table = s.table := by unfold offer; split <;> [rfl; (split <;> rfl)]
@[simp] theorem offer_grade (e : Entry) (s : State) : (offer e s).grade = s.grade := by unfold offer; split <;> [rfl; (split <;> rfl)]
@[simp] theorem offer_picture (e : Entry) (s : State) : (offer e s).picture = s.picture := by unfold offer; split <;> [rfl; (split <;> rfl)]
@[simp] theorem offer_light (e : Entry) (s : State) : (offer e s).light = s.light := by unfold offer; split <;> [rfl; (split <;> rfl)]
@[simp] theorem offer_level (e : Entry) (s : State) : (offer e s).level = s.level := by unfold offer; split <;> [rfl; (split <;> rfl)]
@[simp] theorem offer_routes (e : Entry) (s : State) : (offer e s).routes = s.routes := by unfold offer; split <;> [rfl; (split <;> rfl)]
@[simp] theorem offer_links (e : Entry) (s : State) : (offer e s).links = s.links := by unfold offer; split <;> [rfl; (split <;> rfl)]
@[simp] theorem offer_pass (e : Entry) (s : State) : (offer e s).pass = s.pass := by unfold offer; split <;> [rfl; (split <;> rfl)]
@[simp] theorem offer_area (e : Entry) (s : State) : (offer e s).area = s.area := by unfold offer; split <;> [rfl; (split <;> rfl)]
@[simp] theorem offer_freeIndex (e : Entry) (s : State) : (offer e s).freeIndex = s.freeIndex := by unfold offer; split <;> [rfl; (split <;> rfl)]

/-! ### setWalker -/

@[simp] theorem setWalker_pending (w : Walker) (s : State) : (setWalker w s).pending = s.pending := rfl
@[simp] theorem setWalker_journal (w : Walker) (s : State) : (setWalker w s).journal = s.journal := rfl
@[simp] theorem setWalker_reports (w : Walker) (s : State) : (setWalker w s).reports = s.reports := rfl
@[simp] theorem setWalker_follower (w : Walker) (s : State) : (setWalker w s).follower = s.follower := rfl
@[simp] theorem setWalker_store (w : Walker) (s : State) : (setWalker w s).store = s.store := rfl
@[simp] theorem setWalker_table (w : Walker) (s : State) : (setWalker w s).table = s.table := rfl
@[simp] theorem setWalker_grade (w : Walker) (s : State) : (setWalker w s).grade = s.grade := rfl
@[simp] theorem setWalker_picture (w : Walker) (s : State) : (setWalker w s).picture = s.picture := rfl
@[simp] theorem setWalker_light (w : Walker) (s : State) : (setWalker w s).light = s.light := rfl
@[simp] theorem setWalker_level (w : Walker) (s : State) : (setWalker w s).level = s.level := rfl
@[simp] theorem setWalker_routes (w : Walker) (s : State) : (setWalker w s).routes = s.routes := rfl
@[simp] theorem setWalker_links (w : Walker) (s : State) : (setWalker w s).links = s.links := rfl
@[simp] theorem setWalker_pass (w : Walker) (s : State) : (setWalker w s).pass = s.pass := rfl
@[simp] theorem setWalker_area (w : Walker) (s : State) : (setWalker w s).area = s.area := rfl
@[simp] theorem setWalker_freeIndex (w : Walker) (s : State) : (setWalker w s).freeIndex = s.freeIndex := rfl

/-! ### proceed -/

@[simp] theorem proceed_pending (b : OrderBlock) (p : Progress) (s : State) : (proceed b p s).pending = s.pending := rfl
@[simp] theorem proceed_journal (b : OrderBlock) (p : Progress) (s : State) : (proceed b p s).journal = s.journal := rfl
@[simp] theorem proceed_reports (b : OrderBlock) (p : Progress) (s : State) : (proceed b p s).reports = s.reports := rfl
@[simp] theorem proceed_follower (b : OrderBlock) (p : Progress) (s : State) : (proceed b p s).follower = s.follower := rfl
@[simp] theorem proceed_store (b : OrderBlock) (p : Progress) (s : State) : (proceed b p s).store = s.store := rfl
@[simp] theorem proceed_table (b : OrderBlock) (p : Progress) (s : State) : (proceed b p s).table = s.table := rfl
@[simp] theorem proceed_grade (b : OrderBlock) (p : Progress) (s : State) : (proceed b p s).grade = s.grade := rfl
@[simp] theorem proceed_picture (b : OrderBlock) (p : Progress) (s : State) : (proceed b p s).picture = s.picture := rfl
@[simp] theorem proceed_light (b : OrderBlock) (p : Progress) (s : State) : (proceed b p s).light = s.light := rfl
@[simp] theorem proceed_level (b : OrderBlock) (p : Progress) (s : State) : (proceed b p s).level = s.level := rfl
@[simp] theorem proceed_routes (b : OrderBlock) (p : Progress) (s : State) : (proceed b p s).routes = s.routes := rfl
@[simp] theorem proceed_links (b : OrderBlock) (p : Progress) (s : State) : (proceed b p s).links = s.links := rfl
@[simp] theorem proceed_pass (b : OrderBlock) (p : Progress) (s : State) : (proceed b p s).pass = s.pass := rfl
@[simp] theorem proceed_area (b : OrderBlock) (p : Progress) (s : State) : (proceed b p s).area = s.area := rfl
@[simp] theorem proceed_freeIndex (b : OrderBlock) (p : Progress) (s : State) : (proceed b p s).freeIndex = s.freeIndex := rfl

/-! ### finish -/

@[simp] theorem finish_pending (b : OrderBlock) (o : OutcomeCode) (d : Nat) (s : State) : (finish b o d s).pending = s.pending := rfl
@[simp] theorem finish_journal (b : OrderBlock) (o : OutcomeCode) (d : Nat) (s : State) : (finish b o d s).journal = s.journal := rfl
@[simp] theorem finish_reports (b : OrderBlock) (o : OutcomeCode) (d : Nat) (s : State) : (finish b o d s).reports = s.reports := rfl
@[simp] theorem finish_follower (b : OrderBlock) (o : OutcomeCode) (d : Nat) (s : State) : (finish b o d s).follower = s.follower := rfl
@[simp] theorem finish_store (b : OrderBlock) (o : OutcomeCode) (d : Nat) (s : State) : (finish b o d s).store = s.store := rfl
@[simp] theorem finish_table (b : OrderBlock) (o : OutcomeCode) (d : Nat) (s : State) : (finish b o d s).table = s.table := rfl
@[simp] theorem finish_grade (b : OrderBlock) (o : OutcomeCode) (d : Nat) (s : State) : (finish b o d s).grade = s.grade := rfl
@[simp] theorem finish_picture (b : OrderBlock) (o : OutcomeCode) (d : Nat) (s : State) : (finish b o d s).picture = s.picture := rfl
@[simp] theorem finish_light (b : OrderBlock) (o : OutcomeCode) (d : Nat) (s : State) : (finish b o d s).light = s.light := rfl
@[simp] theorem finish_level (b : OrderBlock) (o : OutcomeCode) (d : Nat) (s : State) : (finish b o d s).level = s.level := rfl
@[simp] theorem finish_routes (b : OrderBlock) (o : OutcomeCode) (d : Nat) (s : State) : (finish b o d s).routes = s.routes := rfl
@[simp] theorem finish_links (b : OrderBlock) (o : OutcomeCode) (d : Nat) (s : State) : (finish b o d s).links = s.links := rfl
@[simp] theorem finish_pass (b : OrderBlock) (o : OutcomeCode) (d : Nat) (s : State) : (finish b o d s).pass = s.pass := rfl
@[simp] theorem finish_area (b : OrderBlock) (o : OutcomeCode) (d : Nat) (s : State) : (finish b o d s).area = s.area := rfl
@[simp] theorem finish_freeIndex (b : OrderBlock) (o : OutcomeCode) (d : Nat) (s : State) : (finish b o d s).freeIndex = s.freeIndex := rfl

/-! ### setLinkRec -/

@[simp] theorem setLinkRec_pending (l : Link) (r : LinkRec) (s : State) : (setLinkRec l r s).pending = s.pending := rfl
@[simp] theorem setLinkRec_port (l : Link) (r : LinkRec) (s : State) : (setLinkRec l r s).port = s.port := rfl
@[simp] theorem setLinkRec_journal (l : Link) (r : LinkRec) (s : State) : (setLinkRec l r s).journal = s.journal := rfl
@[simp] theorem setLinkRec_reports (l : Link) (r : LinkRec) (s : State) : (setLinkRec l r s).reports = s.reports := rfl
@[simp] theorem setLinkRec_follower (l : Link) (r : LinkRec) (s : State) : (setLinkRec l r s).follower = s.follower := rfl
@[simp] theorem setLinkRec_store (l : Link) (r : LinkRec) (s : State) : (setLinkRec l r s).store = s.store := rfl
@[simp] theorem setLinkRec_table (l : Link) (r : LinkRec) (s : State) : (setLinkRec l r s).table = s.table := rfl
@[simp] theorem setLinkRec_grade (l : Link) (r : LinkRec) (s : State) : (setLinkRec l r s).grade = s.grade := rfl
@[simp] theorem setLinkRec_picture (l : Link) (r : LinkRec) (s : State) : (setLinkRec l r s).picture = s.picture := rfl
@[simp] theorem setLinkRec_light (l : Link) (r : LinkRec) (s : State) : (setLinkRec l r s).light = s.light := rfl
@[simp] theorem setLinkRec_level (l : Link) (r : LinkRec) (s : State) : (setLinkRec l r s).level = s.level := rfl
@[simp] theorem setLinkRec_routes (l : Link) (r : LinkRec) (s : State) : (setLinkRec l r s).routes = s.routes := rfl
@[simp] theorem setLinkRec_pass (l : Link) (r : LinkRec) (s : State) : (setLinkRec l r s).pass = s.pass := rfl
@[simp] theorem setLinkRec_area (l : Link) (r : LinkRec) (s : State) : (setLinkRec l r s).area = s.area := rfl
@[simp] theorem setLinkRec_freeIndex (l : Link) (r : LinkRec) (s : State) : (setLinkRec l r s).freeIndex = s.freeIndex := rfl

/-! ### huntAgain -/

@[simp] theorem huntAgain_pending (l : Link) (s : State) : (huntAgain l s).pending = s.pending := rfl
@[simp] theorem huntAgain_port (l : Link) (s : State) : (huntAgain l s).port = s.port := rfl
@[simp] theorem huntAgain_journal (l : Link) (s : State) : (huntAgain l s).journal = s.journal := rfl
@[simp] theorem huntAgain_reports (l : Link) (s : State) : (huntAgain l s).reports = s.reports := rfl
@[simp] theorem huntAgain_follower (l : Link) (s : State) : (huntAgain l s).follower = s.follower := rfl
@[simp] theorem huntAgain_store (l : Link) (s : State) : (huntAgain l s).store = s.store := rfl
@[simp] theorem huntAgain_table (l : Link) (s : State) : (huntAgain l s).table = s.table := rfl
@[simp] theorem huntAgain_grade (l : Link) (s : State) : (huntAgain l s).grade = s.grade := rfl
@[simp] theorem huntAgain_picture (l : Link) (s : State) : (huntAgain l s).picture = s.picture := rfl
@[simp] theorem huntAgain_light (l : Link) (s : State) : (huntAgain l s).light = s.light := rfl
@[simp] theorem huntAgain_level (l : Link) (s : State) : (huntAgain l s).level = s.level := rfl
@[simp] theorem huntAgain_routes (l : Link) (s : State) : (huntAgain l s).routes = s.routes := rfl
@[simp] theorem huntAgain_pass (l : Link) (s : State) : (huntAgain l s).pass = s.pass := rfl
@[simp] theorem huntAgain_area (l : Link) (s : State) : (huntAgain l s).area = s.area := rfl
@[simp] theorem huntAgain_freeIndex (l : Link) (s : State) : (huntAgain l s).freeIndex = s.freeIndex := rfl

/-! ### changePass -/

@[simp] theorem changePass_pending (f : Pass → Pass) (s : State) : (changePass f s).pending = s.pending := rfl
@[simp] theorem changePass_port (f : Pass → Pass) (s : State) : (changePass f s).port = s.port := rfl
@[simp] theorem changePass_journal (f : Pass → Pass) (s : State) : (changePass f s).journal = s.journal := rfl
@[simp] theorem changePass_reports (f : Pass → Pass) (s : State) : (changePass f s).reports = s.reports := rfl
@[simp] theorem changePass_follower (f : Pass → Pass) (s : State) : (changePass f s).follower = s.follower := rfl
@[simp] theorem changePass_store (f : Pass → Pass) (s : State) : (changePass f s).store = s.store := rfl
@[simp] theorem changePass_table (f : Pass → Pass) (s : State) : (changePass f s).table = s.table := rfl
@[simp] theorem changePass_grade (f : Pass → Pass) (s : State) : (changePass f s).grade = s.grade := rfl
@[simp] theorem changePass_picture (f : Pass → Pass) (s : State) : (changePass f s).picture = s.picture := rfl
@[simp] theorem changePass_light (f : Pass → Pass) (s : State) : (changePass f s).light = s.light := rfl
@[simp] theorem changePass_level (f : Pass → Pass) (s : State) : (changePass f s).level = s.level := rfl
@[simp] theorem changePass_routes (f : Pass → Pass) (s : State) : (changePass f s).routes = s.routes := rfl
@[simp] theorem changePass_links (f : Pass → Pass) (s : State) : (changePass f s).links = s.links := rfl
@[simp] theorem changePass_area (f : Pass → Pass) (s : State) : (changePass f s).area = s.area := rfl
@[simp] theorem changePass_freeIndex (f : Pass → Pass) (s : State) : (changePass f s).freeIndex = s.freeIndex := rfl

/-! ### endAccess -/

@[simp] theorem endAccess_pending (a : Access) (s : State) : (endAccess a s).pending = s.pending := rfl
@[simp] theorem endAccess_journal (a : Access) (s : State) : (endAccess a s).journal = s.journal := rfl
@[simp] theorem endAccess_reports (a : Access) (s : State) : (endAccess a s).reports = s.reports := rfl
@[simp] theorem endAccess_follower (a : Access) (s : State) : (endAccess a s).follower = s.follower := rfl
@[simp] theorem endAccess_store (a : Access) (s : State) : (endAccess a s).store = s.store := rfl
@[simp] theorem endAccess_table (a : Access) (s : State) : (endAccess a s).table = s.table := rfl
@[simp] theorem endAccess_grade (a : Access) (s : State) : (endAccess a s).grade = s.grade := rfl
@[simp] theorem endAccess_picture (a : Access) (s : State) : (endAccess a s).picture = s.picture := rfl
@[simp] theorem endAccess_light (a : Access) (s : State) : (endAccess a s).light = s.light := rfl
@[simp] theorem endAccess_level (a : Access) (s : State) : (endAccess a s).level = s.level := rfl
@[simp] theorem endAccess_routes (a : Access) (s : State) : (endAccess a s).routes = s.routes := rfl
@[simp] theorem endAccess_links (a : Access) (s : State) : (endAccess a s).links = s.links := rfl
@[simp] theorem endAccess_pass (a : Access) (s : State) : (endAccess a s).pass = s.pass := rfl
@[simp] theorem endAccess_freeIndex (a : Access) (s : State) : (endAccess a s).freeIndex = s.freeIndex := rfl

/-! ### dropAccess -/

@[simp] theorem dropAccess_pending (s : State) : (dropAccess s).pending = s.pending := rfl
@[simp] theorem dropAccess_journal (s : State) : (dropAccess s).journal = s.journal := rfl
@[simp] theorem dropAccess_reports (s : State) : (dropAccess s).reports = s.reports := rfl
@[simp] theorem dropAccess_follower (s : State) : (dropAccess s).follower = s.follower := rfl
@[simp] theorem dropAccess_store (s : State) : (dropAccess s).store = s.store := rfl
@[simp] theorem dropAccess_table (s : State) : (dropAccess s).table = s.table := rfl
@[simp] theorem dropAccess_grade (s : State) : (dropAccess s).grade = s.grade := rfl
@[simp] theorem dropAccess_picture (s : State) : (dropAccess s).picture = s.picture := rfl
@[simp] theorem dropAccess_light (s : State) : (dropAccess s).light = s.light := rfl
@[simp] theorem dropAccess_level (s : State) : (dropAccess s).level = s.level := rfl
@[simp] theorem dropAccess_routes (s : State) : (dropAccess s).routes = s.routes := rfl
@[simp] theorem dropAccess_links (s : State) : (dropAccess s).links = s.links := rfl
@[simp] theorem dropAccess_pass (s : State) : (dropAccess s).pass = s.pass := rfl
@[simp] theorem dropAccess_area (s : State) : (dropAccess s).area = s.area := rfl
@[simp] theorem dropAccess_freeIndex (s : State) : (dropAccess s).freeIndex = s.freeIndex := rfl

/-! ### setPoll -/

@[simp] theorem setPoll_pending (p : PollPhase) (s : State) : (setPoll p s).pending = s.pending := rfl
@[simp] theorem setPoll_journal (p : PollPhase) (s : State) : (setPoll p s).journal = s.journal := rfl
@[simp] theorem setPoll_reports (p : PollPhase) (s : State) : (setPoll p s).reports = s.reports := rfl
@[simp] theorem setPoll_follower (p : PollPhase) (s : State) : (setPoll p s).follower = s.follower := rfl
@[simp] theorem setPoll_store (p : PollPhase) (s : State) : (setPoll p s).store = s.store := rfl
@[simp] theorem setPoll_table (p : PollPhase) (s : State) : (setPoll p s).table = s.table := rfl
@[simp] theorem setPoll_grade (p : PollPhase) (s : State) : (setPoll p s).grade = s.grade := rfl
@[simp] theorem setPoll_picture (p : PollPhase) (s : State) : (setPoll p s).picture = s.picture := rfl
@[simp] theorem setPoll_light (p : PollPhase) (s : State) : (setPoll p s).light = s.light := rfl
@[simp] theorem setPoll_level (p : PollPhase) (s : State) : (setPoll p s).level = s.level := rfl
@[simp] theorem setPoll_routes (p : PollPhase) (s : State) : (setPoll p s).routes = s.routes := rfl
@[simp] theorem setPoll_links (p : PollPhase) (s : State) : (setPoll p s).links = s.links := rfl
@[simp] theorem setPoll_pass (p : PollPhase) (s : State) : (setPoll p s).pass = s.pass := rfl
@[simp] theorem setPoll_area (p : PollPhase) (s : State) : (setPoll p s).area = s.area := rfl
@[simp] theorem setPoll_freeIndex (p : PollPhase) (s : State) : (setPoll p s).freeIndex = s.freeIndex := rfl

/-! ### pollComplete -/

@[simp] theorem pollComplete_pending (s : State) : (pollComplete s).pending = s.pending := rfl
@[simp] theorem pollComplete_journal (s : State) : (pollComplete s).journal = s.journal := rfl
@[simp] theorem pollComplete_reports (s : State) : (pollComplete s).reports = s.reports := rfl
@[simp] theorem pollComplete_follower (s : State) : (pollComplete s).follower = s.follower := rfl
@[simp] theorem pollComplete_store (s : State) : (pollComplete s).store = s.store := rfl
@[simp] theorem pollComplete_table (s : State) : (pollComplete s).table = s.table := rfl
@[simp] theorem pollComplete_grade (s : State) : (pollComplete s).grade = s.grade := rfl
@[simp] theorem pollComplete_picture (s : State) : (pollComplete s).picture = s.picture := rfl
@[simp] theorem pollComplete_light (s : State) : (pollComplete s).light = s.light := rfl
@[simp] theorem pollComplete_level (s : State) : (pollComplete s).level = s.level := rfl
@[simp] theorem pollComplete_routes (s : State) : (pollComplete s).routes = s.routes := rfl
@[simp] theorem pollComplete_links (s : State) : (pollComplete s).links = s.links := rfl
@[simp] theorem pollComplete_pass (s : State) : (pollComplete s).pass = s.pass := rfl
@[simp] theorem pollComplete_area (s : State) : (pollComplete s).area = s.area := rfl
@[simp] theorem pollComplete_freeIndex (s : State) : (pollComplete s).freeIndex = s.freeIndex := rfl

/-! ### takeMark -/

@[simp] theorem takeMark_pending (m : BitVec 64) (s : State) : (takeMark m s).pending = s.pending := rfl
@[simp] theorem takeMark_port (m : BitVec 64) (s : State) : (takeMark m s).port = s.port := rfl
@[simp] theorem takeMark_reports (m : BitVec 64) (s : State) : (takeMark m s).reports = s.reports := rfl
@[simp] theorem takeMark_follower (m : BitVec 64) (s : State) : (takeMark m s).follower = s.follower := rfl
@[simp] theorem takeMark_store (m : BitVec 64) (s : State) : (takeMark m s).store = s.store := rfl
@[simp] theorem takeMark_table (m : BitVec 64) (s : State) : (takeMark m s).table = s.table := rfl
@[simp] theorem takeMark_grade (m : BitVec 64) (s : State) : (takeMark m s).grade = s.grade := rfl
@[simp] theorem takeMark_picture (m : BitVec 64) (s : State) : (takeMark m s).picture = s.picture := rfl
@[simp] theorem takeMark_light (m : BitVec 64) (s : State) : (takeMark m s).light = s.light := rfl
@[simp] theorem takeMark_level (m : BitVec 64) (s : State) : (takeMark m s).level = s.level := rfl
@[simp] theorem takeMark_routes (m : BitVec 64) (s : State) : (takeMark m s).routes = s.routes := rfl
@[simp] theorem takeMark_links (m : BitVec 64) (s : State) : (takeMark m s).links = s.links := rfl
@[simp] theorem takeMark_pass (m : BitVec 64) (s : State) : (takeMark m s).pass = s.pass := rfl
@[simp] theorem takeMark_area (m : BitVec 64) (s : State) : (takeMark m s).area = s.area := rfl
@[simp] theorem takeMark_freeIndex (m : BitVec 64) (s : State) : (takeMark m s).freeIndex = s.freeIndex := rfl

/-! ### noteBroken -/

@[simp] theorem noteBroken_pending (n : Option (BitVec 32)) (s : State) : (noteBroken n s).pending = s.pending := rfl
@[simp] theorem noteBroken_journal (n : Option (BitVec 32)) (s : State) : (noteBroken n s).journal = s.journal := rfl
@[simp] theorem noteBroken_reports (n : Option (BitVec 32)) (s : State) : (noteBroken n s).reports = s.reports := rfl
@[simp] theorem noteBroken_follower (n : Option (BitVec 32)) (s : State) : (noteBroken n s).follower = s.follower := rfl
@[simp] theorem noteBroken_store (n : Option (BitVec 32)) (s : State) : (noteBroken n s).store = s.store := rfl
@[simp] theorem noteBroken_table (n : Option (BitVec 32)) (s : State) : (noteBroken n s).table = s.table := rfl
@[simp] theorem noteBroken_grade (n : Option (BitVec 32)) (s : State) : (noteBroken n s).grade = s.grade := rfl
@[simp] theorem noteBroken_picture (n : Option (BitVec 32)) (s : State) : (noteBroken n s).picture = s.picture := rfl
@[simp] theorem noteBroken_light (n : Option (BitVec 32)) (s : State) : (noteBroken n s).light = s.light := rfl
@[simp] theorem noteBroken_level (n : Option (BitVec 32)) (s : State) : (noteBroken n s).level = s.level := rfl
@[simp] theorem noteBroken_routes (n : Option (BitVec 32)) (s : State) : (noteBroken n s).routes = s.routes := rfl
@[simp] theorem noteBroken_links (n : Option (BitVec 32)) (s : State) : (noteBroken n s).links = s.links := rfl
@[simp] theorem noteBroken_pass (n : Option (BitVec 32)) (s : State) : (noteBroken n s).pass = s.pass := rfl
@[simp] theorem noteBroken_area (n : Option (BitVec 32)) (s : State) : (noteBroken n s).area = s.area := rfl
@[simp] theorem noteBroken_freeIndex (n : Option (BitVec 32)) (s : State) : (noteBroken n s).freeIndex = s.freeIndex := rfl

/-! ### follows -/

@[simp] theorem follows_pending (o : BitVec 32) (s : State) : (follows o s).pending = s.pending := rfl
@[simp] theorem follows_journal (o : BitVec 32) (s : State) : (follows o s).journal = s.journal := rfl
@[simp] theorem follows_reports (o : BitVec 32) (s : State) : (follows o s).reports = s.reports := rfl
@[simp] theorem follows_follower (o : BitVec 32) (s : State) : (follows o s).follower = s.follower := rfl
@[simp] theorem follows_store (o : BitVec 32) (s : State) : (follows o s).store = s.store := rfl
@[simp] theorem follows_table (o : BitVec 32) (s : State) : (follows o s).table = s.table := rfl
@[simp] theorem follows_grade (o : BitVec 32) (s : State) : (follows o s).grade = s.grade := rfl
@[simp] theorem follows_picture (o : BitVec 32) (s : State) : (follows o s).picture = s.picture := rfl
@[simp] theorem follows_light (o : BitVec 32) (s : State) : (follows o s).light = s.light := rfl
@[simp] theorem follows_level (o : BitVec 32) (s : State) : (follows o s).level = s.level := rfl
@[simp] theorem follows_routes (o : BitVec 32) (s : State) : (follows o s).routes = s.routes := rfl
@[simp] theorem follows_links (o : BitVec 32) (s : State) : (follows o s).links = s.links := rfl
@[simp] theorem follows_pass (o : BitVec 32) (s : State) : (follows o s).pass = s.pass := rfl
@[simp] theorem follows_area (o : BitVec 32) (s : State) : (follows o s).area = s.area := rfl
@[simp] theorem follows_freeIndex (o : BitVec 32) (s : State) : (follows o s).freeIndex = s.freeIndex := rfl

/-! ### grantTo -/

@[simp] theorem grantTo_pending (r : Requester) (s : State) : (grantTo r s).pending = s.pending := rfl
@[simp] theorem grantTo_journal (r : Requester) (s : State) : (grantTo r s).journal = s.journal := rfl
@[simp] theorem grantTo_follower (r : Requester) (s : State) : (grantTo r s).follower = s.follower := rfl
@[simp] theorem grantTo_store (r : Requester) (s : State) : (grantTo r s).store = s.store := rfl
@[simp] theorem grantTo_table (r : Requester) (s : State) : (grantTo r s).table = s.table := rfl
@[simp] theorem grantTo_grade (r : Requester) (s : State) : (grantTo r s).grade = s.grade := rfl
@[simp] theorem grantTo_picture (r : Requester) (s : State) : (grantTo r s).picture = s.picture := rfl
@[simp] theorem grantTo_light (r : Requester) (s : State) : (grantTo r s).light = s.light := rfl
@[simp] theorem grantTo_level (r : Requester) (s : State) : (grantTo r s).level = s.level := rfl
@[simp] theorem grantTo_routes (r : Requester) (s : State) : (grantTo r s).routes = s.routes := rfl
@[simp] theorem grantTo_links (r : Requester) (s : State) : (grantTo r s).links = s.links := rfl
@[simp] theorem grantTo_pass (r : Requester) (s : State) : (grantTo r s).pass = s.pass := rfl
@[simp] theorem grantTo_area (r : Requester) (s : State) : (grantTo r s).area = s.area := rfl

/-! ### haltPart -/

@[simp] theorem haltPart_pending (c : HaltCause) (s : State) : (haltPart c s).pending = s.pending := rfl
@[simp] theorem haltPart_follower (c : HaltCause) (s : State) : (haltPart c s).follower = s.follower := rfl
@[simp] theorem haltPart_store (c : HaltCause) (s : State) : (haltPart c s).store = s.store := rfl
@[simp] theorem haltPart_table (c : HaltCause) (s : State) : (haltPart c s).table = s.table := rfl
@[simp] theorem haltPart_grade (c : HaltCause) (s : State) : (haltPart c s).grade = s.grade := rfl
@[simp] theorem haltPart_picture (c : HaltCause) (s : State) : (haltPart c s).picture = s.picture := rfl
@[simp] theorem haltPart_routes (c : HaltCause) (s : State) : (haltPart c s).routes = s.routes := rfl
@[simp] theorem haltPart_area (c : HaltCause) (s : State) : (haltPart c s).area = s.area := rfl
@[simp] theorem haltPart_freeIndex (c : HaltCause) (s : State) : (haltPart c s).freeIndex = s.freeIndex := rfl

/-! ### runPart -/

@[simp] theorem runPart_pending (s : State) : (runPart s).pending = s.pending := rfl
@[simp] theorem runPart_journal (s : State) : (runPart s).journal = s.journal := rfl
@[simp] theorem runPart_reports (s : State) : (runPart s).reports = s.reports := rfl
@[simp] theorem runPart_follower (s : State) : (runPart s).follower = s.follower := rfl
@[simp] theorem runPart_store (s : State) : (runPart s).store = s.store := rfl
@[simp] theorem runPart_table (s : State) : (runPart s).table = s.table := rfl
@[simp] theorem runPart_grade (s : State) : (runPart s).grade = s.grade := rfl
@[simp] theorem runPart_picture (s : State) : (runPart s).picture = s.picture := rfl
@[simp] theorem runPart_light (s : State) : (runPart s).light = s.light := rfl
@[simp] theorem runPart_level (s : State) : (runPart s).level = s.level := rfl
@[simp] theorem runPart_routes (s : State) : (runPart s).routes = s.routes := rfl
@[simp] theorem runPart_links (s : State) : (runPart s).links = s.links := rfl
@[simp] theorem runPart_pass (s : State) : (runPart s).pass = s.pass := rfl
@[simp] theorem runPart_area (s : State) : (runPart s).area = s.area := rfl
@[simp] theorem runPart_freeIndex (s : State) : (runPart s).freeIndex = s.freeIndex := rfl

/-! ### enterRestNow -/

@[simp] theorem enterRestNow_pending (s : State) : (enterRestNow s).pending = s.pending := rfl
@[simp] theorem enterRestNow_port (s : State) : (enterRestNow s).port = s.port := rfl
@[simp] theorem enterRestNow_journal (s : State) : (enterRestNow s).journal = s.journal := rfl
@[simp] theorem enterRestNow_reports (s : State) : (enterRestNow s).reports = s.reports := rfl
@[simp] theorem enterRestNow_follower (s : State) : (enterRestNow s).follower = s.follower := rfl
@[simp] theorem enterRestNow_store (s : State) : (enterRestNow s).store = s.store := rfl
@[simp] theorem enterRestNow_table (s : State) : (enterRestNow s).table = s.table := rfl
@[simp] theorem enterRestNow_grade (s : State) : (enterRestNow s).grade = s.grade := rfl
@[simp] theorem enterRestNow_picture (s : State) : (enterRestNow s).picture = s.picture := rfl
@[simp] theorem enterRestNow_level (s : State) : (enterRestNow s).level = s.level := rfl
@[simp] theorem enterRestNow_routes (s : State) : (enterRestNow s).routes = s.routes := rfl
@[simp] theorem enterRestNow_links (s : State) : (enterRestNow s).links = s.links := rfl
@[simp] theorem enterRestNow_pass (s : State) : (enterRestNow s).pass = s.pass := rfl
@[simp] theorem enterRestNow_area (s : State) : (enterRestNow s).area = s.area := rfl
@[simp] theorem enterRestNow_freeIndex (s : State) : (enterRestNow s).freeIndex = s.freeIndex := rfl

/-! ### newJournal -/

@[simp] theorem newJournal_pending (x : JournalSet) (s : State) : (newJournal x s).pending = s.pending := rfl
@[simp] theorem newJournal_reports (x : JournalSet) (s : State) : (newJournal x s).reports = s.reports := rfl
@[simp] theorem newJournal_follower (x : JournalSet) (s : State) : (newJournal x s).follower = s.follower := rfl
@[simp] theorem newJournal_store (x : JournalSet) (s : State) : (newJournal x s).store = s.store := rfl
@[simp] theorem newJournal_table (x : JournalSet) (s : State) : (newJournal x s).table = s.table := rfl
@[simp] theorem newJournal_grade (x : JournalSet) (s : State) : (newJournal x s).grade = s.grade := rfl
@[simp] theorem newJournal_picture (x : JournalSet) (s : State) : (newJournal x s).picture = s.picture := rfl
@[simp] theorem newJournal_light (x : JournalSet) (s : State) : (newJournal x s).light = s.light := rfl
@[simp] theorem newJournal_level (x : JournalSet) (s : State) : (newJournal x s).level = s.level := rfl
@[simp] theorem newJournal_routes (x : JournalSet) (s : State) : (newJournal x s).routes = s.routes := rfl
@[simp] theorem newJournal_links (x : JournalSet) (s : State) : (newJournal x s).links = s.links := rfl
@[simp] theorem newJournal_pass (x : JournalSet) (s : State) : (newJournal x s).pass = s.pass := rfl
@[simp] theorem newJournal_area (x : JournalSet) (s : State) : (newJournal x s).area = s.area := rfl
@[simp] theorem newJournal_freeIndex (x : JournalSet) (s : State) : (newJournal x s).freeIndex = s.freeIndex := rfl

/-! ### raise, within the port -/

@[simp] theorem raise_port_resetKind (c : Cause) (s : State) : (raise c s).port.resetKind = s.port.resetKind := rfl
@[simp] theorem raise_port_base (c : Cause) (s : State) : (raise c s).port.base = s.port.base := rfl
@[simp] theorem raise_port_running (c : Cause) (s : State) : (raise c s).port.running = s.port.running := rfl
@[simp] theorem raise_port_haltCause (c : Cause) (s : State) : (raise c s).port.haltCause = s.port.haltCause := rfl
@[simp] theorem raise_port_mask (c : Cause) (s : State) : (raise c s).port.mask = s.port.mask := rfl
@[simp] theorem raise_port_followPoint (c : Cause) (s : State) : (raise c s).port.followPoint = s.port.followPoint := rfl
@[simp] theorem raise_port_finished (c : Cause) (s : State) : (raise c s).port.finished = s.port.finished := rfl
@[simp] theorem raise_port_brokenNote (c : Cause) (s : State) : (raise c s).port.brokenNote = s.port.brokenNote := rfl
@[simp] theorem raise_port_holdoff (c : Cause) (s : State) : (raise c s).port.holdoff = s.port.holdoff := rfl
@[simp] theorem raise_port_poll (c : Cause) (s : State) : (raise c s).port.poll = s.port.poll := rfl
@[simp] theorem raise_port_firstOrder (c : Cause) (s : State) : (raise c s).port.firstOrder = s.port.firstOrder := rfl
@[simp] theorem raise_port_walker (c : Cause) (s : State) : (raise c s).port.walker = s.port.walker := rfl
@[simp] theorem raise_port_access (c : Cause) (s : State) : (raise c s).port.access = s.port.access := rfl
@[simp] theorem raise_port_lastHigh (c : Cause) (s : State) : (raise c s).port.lastHigh = s.port.lastHigh := rfl
@[simp] theorem raise_port_lastLow (c : Cause) (s : State) : (raise c s).port.lastLow = s.port.lastLow := rfl

/-! ### blankOutput -/

@[simp] theorem blankOutput_pending (s : State) : (blankOutput s).pending = s.pending := rfl
@[simp] theorem blankOutput_port (s : State) : (blankOutput s).port = s.port := rfl
@[simp] theorem blankOutput_journal (s : State) : (blankOutput s).journal = s.journal := rfl
@[simp] theorem blankOutput_reports (s : State) : (blankOutput s).reports = s.reports := rfl
@[simp] theorem blankOutput_follower (s : State) : (blankOutput s).follower = s.follower := rfl
@[simp] theorem blankOutput_store (s : State) : (blankOutput s).store = s.store := rfl
@[simp] theorem blankOutput_table (s : State) : (blankOutput s).table = s.table := rfl
@[simp] theorem blankOutput_grade (s : State) : (blankOutput s).grade = s.grade := rfl
@[simp] theorem blankOutput_light (s : State) : (blankOutput s).light = s.light := rfl
@[simp] theorem blankOutput_level (s : State) : (blankOutput s).level = s.level := rfl
@[simp] theorem blankOutput_routes (s : State) : (blankOutput s).routes = s.routes := rfl
@[simp] theorem blankOutput_links (s : State) : (blankOutput s).links = s.links := rfl
@[simp] theorem blankOutput_pass (s : State) : (blankOutput s).pass = s.pass := rfl
@[simp] theorem blankOutput_area (s : State) : (blankOutput s).area = s.area := rfl
@[simp] theorem blankOutput_freeIndex (s : State) : (blankOutput s).freeIndex = s.freeIndex := rfl

/-! ### setWalker, within the port -/

@[simp] theorem setWalker_port_resetKind (w : Walker) (s : State) : (setWalker w s).port.resetKind = s.port.resetKind := rfl
@[simp] theorem setWalker_port_base (w : Walker) (s : State) : (setWalker w s).port.base = s.port.base := rfl
@[simp] theorem setWalker_port_running (w : Walker) (s : State) : (setWalker w s).port.running = s.port.running := rfl
@[simp] theorem setWalker_port_haltCause (w : Walker) (s : State) : (setWalker w s).port.haltCause = s.port.haltCause := rfl
@[simp] theorem setWalker_port_attention (w : Walker) (s : State) : (setWalker w s).port.attention = s.port.attention := rfl
@[simp] theorem setWalker_port_mask (w : Walker) (s : State) : (setWalker w s).port.mask = s.port.mask := rfl
@[simp] theorem setWalker_port_followPoint (w : Walker) (s : State) : (setWalker w s).port.followPoint = s.port.followPoint := rfl
@[simp] theorem setWalker_port_finished (w : Walker) (s : State) : (setWalker w s).port.finished = s.port.finished := rfl
@[simp] theorem setWalker_port_brokenNote (w : Walker) (s : State) : (setWalker w s).port.brokenNote = s.port.brokenNote := rfl
@[simp] theorem setWalker_port_holdoff (w : Walker) (s : State) : (setWalker w s).port.holdoff = s.port.holdoff := rfl
@[simp] theorem setWalker_port_poll (w : Walker) (s : State) : (setWalker w s).port.poll = s.port.poll := rfl
@[simp] theorem setWalker_port_firstOrder (w : Walker) (s : State) : (setWalker w s).port.firstOrder = s.port.firstOrder := rfl
@[simp] theorem setWalker_port_access (w : Walker) (s : State) : (setWalker w s).port.access = s.port.access := rfl
@[simp] theorem setWalker_port_lastHigh (w : Walker) (s : State) : (setWalker w s).port.lastHigh = s.port.lastHigh := rfl
@[simp] theorem setWalker_port_lastLow (w : Walker) (s : State) : (setWalker w s).port.lastLow = s.port.lastLow := rfl

/-! ### proceed, within the port -/

@[simp] theorem proceed_port_resetKind (b : OrderBlock) (p : Progress) (s : State) : (proceed b p s).port.resetKind = s.port.resetKind := rfl
@[simp] theorem proceed_port_base (b : OrderBlock) (p : Progress) (s : State) : (proceed b p s).port.base = s.port.base := rfl
@[simp] theorem proceed_port_running (b : OrderBlock) (p : Progress) (s : State) : (proceed b p s).port.running = s.port.running := rfl
@[simp] theorem proceed_port_haltCause (b : OrderBlock) (p : Progress) (s : State) : (proceed b p s).port.haltCause = s.port.haltCause := rfl
@[simp] theorem proceed_port_attention (b : OrderBlock) (p : Progress) (s : State) : (proceed b p s).port.attention = s.port.attention := rfl
@[simp] theorem proceed_port_mask (b : OrderBlock) (p : Progress) (s : State) : (proceed b p s).port.mask = s.port.mask := rfl
@[simp] theorem proceed_port_followPoint (b : OrderBlock) (p : Progress) (s : State) : (proceed b p s).port.followPoint = s.port.followPoint := rfl
@[simp] theorem proceed_port_finished (b : OrderBlock) (p : Progress) (s : State) : (proceed b p s).port.finished = s.port.finished := rfl
@[simp] theorem proceed_port_brokenNote (b : OrderBlock) (p : Progress) (s : State) : (proceed b p s).port.brokenNote = s.port.brokenNote := rfl
@[simp] theorem proceed_port_holdoff (b : OrderBlock) (p : Progress) (s : State) : (proceed b p s).port.holdoff = s.port.holdoff := rfl
@[simp] theorem proceed_port_poll (b : OrderBlock) (p : Progress) (s : State) : (proceed b p s).port.poll = s.port.poll := rfl
@[simp] theorem proceed_port_firstOrder (b : OrderBlock) (p : Progress) (s : State) : (proceed b p s).port.firstOrder = s.port.firstOrder := rfl
@[simp] theorem proceed_port_access (b : OrderBlock) (p : Progress) (s : State) : (proceed b p s).port.access = s.port.access := rfl
@[simp] theorem proceed_port_lastHigh (b : OrderBlock) (p : Progress) (s : State) : (proceed b p s).port.lastHigh = s.port.lastHigh := rfl
@[simp] theorem proceed_port_lastLow (b : OrderBlock) (p : Progress) (s : State) : (proceed b p s).port.lastLow = s.port.lastLow := rfl

/-! ### finish, within the port -/

@[simp] theorem finish_port_resetKind (b : OrderBlock) (o : OutcomeCode) (d : Nat) (s : State) : (finish b o d s).port.resetKind = s.port.resetKind := rfl
@[simp] theorem finish_port_base (b : OrderBlock) (o : OutcomeCode) (d : Nat) (s : State) : (finish b o d s).port.base = s.port.base := rfl
@[simp] theorem finish_port_running (b : OrderBlock) (o : OutcomeCode) (d : Nat) (s : State) : (finish b o d s).port.running = s.port.running := rfl
@[simp] theorem finish_port_haltCause (b : OrderBlock) (o : OutcomeCode) (d : Nat) (s : State) : (finish b o d s).port.haltCause = s.port.haltCause := rfl
@[simp] theorem finish_port_attention (b : OrderBlock) (o : OutcomeCode) (d : Nat) (s : State) : (finish b o d s).port.attention = s.port.attention := rfl
@[simp] theorem finish_port_mask (b : OrderBlock) (o : OutcomeCode) (d : Nat) (s : State) : (finish b o d s).port.mask = s.port.mask := rfl
@[simp] theorem finish_port_followPoint (b : OrderBlock) (o : OutcomeCode) (d : Nat) (s : State) : (finish b o d s).port.followPoint = s.port.followPoint := rfl
@[simp] theorem finish_port_finished (b : OrderBlock) (o : OutcomeCode) (d : Nat) (s : State) : (finish b o d s).port.finished = s.port.finished := rfl
@[simp] theorem finish_port_brokenNote (b : OrderBlock) (o : OutcomeCode) (d : Nat) (s : State) : (finish b o d s).port.brokenNote = s.port.brokenNote := rfl
@[simp] theorem finish_port_holdoff (b : OrderBlock) (o : OutcomeCode) (d : Nat) (s : State) : (finish b o d s).port.holdoff = s.port.holdoff := rfl
@[simp] theorem finish_port_poll (b : OrderBlock) (o : OutcomeCode) (d : Nat) (s : State) : (finish b o d s).port.poll = s.port.poll := rfl
@[simp] theorem finish_port_firstOrder (b : OrderBlock) (o : OutcomeCode) (d : Nat) (s : State) : (finish b o d s).port.firstOrder = s.port.firstOrder := rfl
@[simp] theorem finish_port_access (b : OrderBlock) (o : OutcomeCode) (d : Nat) (s : State) : (finish b o d s).port.access = s.port.access := rfl
@[simp] theorem finish_port_lastHigh (b : OrderBlock) (o : OutcomeCode) (d : Nat) (s : State) : (finish b o d s).port.lastHigh = s.port.lastHigh := rfl
@[simp] theorem finish_port_lastLow (b : OrderBlock) (o : OutcomeCode) (d : Nat) (s : State) : (finish b o d s).port.lastLow = s.port.lastLow := rfl

/-! ### endAccess, within the port -/

@[simp] theorem endAccess_port_resetKind (a : Access) (s : State) : (endAccess a s).port.resetKind = s.port.resetKind := rfl
@[simp] theorem endAccess_port_base (a : Access) (s : State) : (endAccess a s).port.base = s.port.base := rfl
@[simp] theorem endAccess_port_running (a : Access) (s : State) : (endAccess a s).port.running = s.port.running := rfl
@[simp] theorem endAccess_port_haltCause (a : Access) (s : State) : (endAccess a s).port.haltCause = s.port.haltCause := rfl
@[simp] theorem endAccess_port_attention (a : Access) (s : State) : (endAccess a s).port.attention = s.port.attention := rfl
@[simp] theorem endAccess_port_mask (a : Access) (s : State) : (endAccess a s).port.mask = s.port.mask := rfl
@[simp] theorem endAccess_port_followPoint (a : Access) (s : State) : (endAccess a s).port.followPoint = s.port.followPoint := rfl
@[simp] theorem endAccess_port_finished (a : Access) (s : State) : (endAccess a s).port.finished = s.port.finished := rfl
@[simp] theorem endAccess_port_brokenNote (a : Access) (s : State) : (endAccess a s).port.brokenNote = s.port.brokenNote := rfl
@[simp] theorem endAccess_port_holdoff (a : Access) (s : State) : (endAccess a s).port.holdoff = s.port.holdoff := rfl
@[simp] theorem endAccess_port_poll (a : Access) (s : State) : (endAccess a s).port.poll = s.port.poll := rfl
@[simp] theorem endAccess_port_firstOrder (a : Access) (s : State) : (endAccess a s).port.firstOrder = s.port.firstOrder := rfl
@[simp] theorem endAccess_port_walker (a : Access) (s : State) : (endAccess a s).port.walker = s.port.walker := rfl
@[simp] theorem endAccess_port_lastHigh (a : Access) (s : State) : (endAccess a s).port.lastHigh = s.port.lastHigh := rfl
@[simp] theorem endAccess_port_lastLow (a : Access) (s : State) : (endAccess a s).port.lastLow = s.port.lastLow := rfl

/-! ### dropAccess, within the port -/

@[simp] theorem dropAccess_port_resetKind (s : State) : (dropAccess s).port.resetKind = s.port.resetKind := rfl
@[simp] theorem dropAccess_port_base (s : State) : (dropAccess s).port.base = s.port.base := rfl
@[simp] theorem dropAccess_port_running (s : State) : (dropAccess s).port.running = s.port.running := rfl
@[simp] theorem dropAccess_port_haltCause (s : State) : (dropAccess s).port.haltCause = s.port.haltCause := rfl
@[simp] theorem dropAccess_port_attention (s : State) : (dropAccess s).port.attention = s.port.attention := rfl
@[simp] theorem dropAccess_port_mask (s : State) : (dropAccess s).port.mask = s.port.mask := rfl
@[simp] theorem dropAccess_port_followPoint (s : State) : (dropAccess s).port.followPoint = s.port.followPoint := rfl
@[simp] theorem dropAccess_port_finished (s : State) : (dropAccess s).port.finished = s.port.finished := rfl
@[simp] theorem dropAccess_port_brokenNote (s : State) : (dropAccess s).port.brokenNote = s.port.brokenNote := rfl
@[simp] theorem dropAccess_port_holdoff (s : State) : (dropAccess s).port.holdoff = s.port.holdoff := rfl
@[simp] theorem dropAccess_port_poll (s : State) : (dropAccess s).port.poll = s.port.poll := rfl
@[simp] theorem dropAccess_port_firstOrder (s : State) : (dropAccess s).port.firstOrder = s.port.firstOrder := rfl
@[simp] theorem dropAccess_port_walker (s : State) : (dropAccess s).port.walker = s.port.walker := rfl
@[simp] theorem dropAccess_port_lastHigh (s : State) : (dropAccess s).port.lastHigh = s.port.lastHigh := rfl
@[simp] theorem dropAccess_port_lastLow (s : State) : (dropAccess s).port.lastLow = s.port.lastLow := rfl

/-! ### setPoll, within the port -/

@[simp] theorem setPoll_port_resetKind (p : PollPhase) (s : State) : (setPoll p s).port.resetKind = s.port.resetKind := rfl
@[simp] theorem setPoll_port_base (p : PollPhase) (s : State) : (setPoll p s).port.base = s.port.base := rfl
@[simp] theorem setPoll_port_running (p : PollPhase) (s : State) : (setPoll p s).port.running = s.port.running := rfl
@[simp] theorem setPoll_port_haltCause (p : PollPhase) (s : State) : (setPoll p s).port.haltCause = s.port.haltCause := rfl
@[simp] theorem setPoll_port_attention (p : PollPhase) (s : State) : (setPoll p s).port.attention = s.port.attention := rfl
@[simp] theorem setPoll_port_mask (p : PollPhase) (s : State) : (setPoll p s).port.mask = s.port.mask := rfl
@[simp] theorem setPoll_port_followPoint (p : PollPhase) (s : State) : (setPoll p s).port.followPoint = s.port.followPoint := rfl
@[simp] theorem setPoll_port_finished (p : PollPhase) (s : State) : (setPoll p s).port.finished = s.port.finished := rfl
@[simp] theorem setPoll_port_brokenNote (p : PollPhase) (s : State) : (setPoll p s).port.brokenNote = s.port.brokenNote := rfl
@[simp] theorem setPoll_port_holdoff (p : PollPhase) (s : State) : (setPoll p s).port.holdoff = s.port.holdoff := rfl
@[simp] theorem setPoll_port_firstOrder (p : PollPhase) (s : State) : (setPoll p s).port.firstOrder = s.port.firstOrder := rfl
@[simp] theorem setPoll_port_walker (p : PollPhase) (s : State) : (setPoll p s).port.walker = s.port.walker := rfl
@[simp] theorem setPoll_port_access (p : PollPhase) (s : State) : (setPoll p s).port.access = s.port.access := rfl
@[simp] theorem setPoll_port_lastHigh (p : PollPhase) (s : State) : (setPoll p s).port.lastHigh = s.port.lastHigh := rfl
@[simp] theorem setPoll_port_lastLow (p : PollPhase) (s : State) : (setPoll p s).port.lastLow = s.port.lastLow := rfl

/-! ### pollComplete, within the port -/

@[simp] theorem pollComplete_port_resetKind (s : State) : (pollComplete s).port.resetKind = s.port.resetKind := rfl
@[simp] theorem pollComplete_port_base (s : State) : (pollComplete s).port.base = s.port.base := rfl
@[simp] theorem pollComplete_port_running (s : State) : (pollComplete s).port.running = s.port.running := rfl
@[simp] theorem pollComplete_port_haltCause (s : State) : (pollComplete s).port.haltCause = s.port.haltCause := rfl
@[simp] theorem pollComplete_port_attention (s : State) : (pollComplete s).port.attention = s.port.attention := rfl
@[simp] theorem pollComplete_port_mask (s : State) : (pollComplete s).port.mask = s.port.mask := rfl
@[simp] theorem pollComplete_port_followPoint (s : State) : (pollComplete s).port.followPoint = s.port.followPoint := rfl
@[simp] theorem pollComplete_port_finished (s : State) : (pollComplete s).port.finished = s.port.finished := rfl
@[simp] theorem pollComplete_port_brokenNote (s : State) : (pollComplete s).port.brokenNote = s.port.brokenNote := rfl
@[simp] theorem pollComplete_port_firstOrder (s : State) : (pollComplete s).port.firstOrder = s.port.firstOrder := rfl
@[simp] theorem pollComplete_port_walker (s : State) : (pollComplete s).port.walker = s.port.walker := rfl
@[simp] theorem pollComplete_port_access (s : State) : (pollComplete s).port.access = s.port.access := rfl
@[simp] theorem pollComplete_port_lastHigh (s : State) : (pollComplete s).port.lastHigh = s.port.lastHigh := rfl
@[simp] theorem pollComplete_port_lastLow (s : State) : (pollComplete s).port.lastLow = s.port.lastLow := rfl

/-! ### noteBroken, within the port -/

@[simp] theorem noteBroken_port_resetKind (n : Option (BitVec 32)) (s : State) : (noteBroken n s).port.resetKind = s.port.resetKind := rfl
@[simp] theorem noteBroken_port_base (n : Option (BitVec 32)) (s : State) : (noteBroken n s).port.base = s.port.base := rfl
@[simp] theorem noteBroken_port_running (n : Option (BitVec 32)) (s : State) : (noteBroken n s).port.running = s.port.running := rfl
@[simp] theorem noteBroken_port_haltCause (n : Option (BitVec 32)) (s : State) : (noteBroken n s).port.haltCause = s.port.haltCause := rfl
@[simp] theorem noteBroken_port_attention (n : Option (BitVec 32)) (s : State) : (noteBroken n s).port.attention = s.port.attention := rfl
@[simp] theorem noteBroken_port_mask (n : Option (BitVec 32)) (s : State) : (noteBroken n s).port.mask = s.port.mask := rfl
@[simp] theorem noteBroken_port_followPoint (n : Option (BitVec 32)) (s : State) : (noteBroken n s).port.followPoint = s.port.followPoint := rfl
@[simp] theorem noteBroken_port_finished (n : Option (BitVec 32)) (s : State) : (noteBroken n s).port.finished = s.port.finished := rfl
@[simp] theorem noteBroken_port_holdoff (n : Option (BitVec 32)) (s : State) : (noteBroken n s).port.holdoff = s.port.holdoff := rfl
@[simp] theorem noteBroken_port_poll (n : Option (BitVec 32)) (s : State) : (noteBroken n s).port.poll = s.port.poll := rfl
@[simp] theorem noteBroken_port_firstOrder (n : Option (BitVec 32)) (s : State) : (noteBroken n s).port.firstOrder = s.port.firstOrder := rfl
@[simp] theorem noteBroken_port_walker (n : Option (BitVec 32)) (s : State) : (noteBroken n s).port.walker = s.port.walker := rfl
@[simp] theorem noteBroken_port_access (n : Option (BitVec 32)) (s : State) : (noteBroken n s).port.access = s.port.access := rfl
@[simp] theorem noteBroken_port_lastHigh (n : Option (BitVec 32)) (s : State) : (noteBroken n s).port.lastHigh = s.port.lastHigh := rfl
@[simp] theorem noteBroken_port_lastLow (n : Option (BitVec 32)) (s : State) : (noteBroken n s).port.lastLow = s.port.lastLow := rfl

/-! ### follows, within the port -/

@[simp] theorem follows_port_resetKind (o : BitVec 32) (s : State) : (follows o s).port.resetKind = s.port.resetKind := rfl
@[simp] theorem follows_port_base (o : BitVec 32) (s : State) : (follows o s).port.base = s.port.base := rfl
@[simp] theorem follows_port_running (o : BitVec 32) (s : State) : (follows o s).port.running = s.port.running := rfl
@[simp] theorem follows_port_haltCause (o : BitVec 32) (s : State) : (follows o s).port.haltCause = s.port.haltCause := rfl
@[simp] theorem follows_port_attention (o : BitVec 32) (s : State) : (follows o s).port.attention = s.port.attention := rfl
@[simp] theorem follows_port_mask (o : BitVec 32) (s : State) : (follows o s).port.mask = s.port.mask := rfl
@[simp] theorem follows_port_finished (o : BitVec 32) (s : State) : (follows o s).port.finished = s.port.finished := rfl
@[simp] theorem follows_port_brokenNote (o : BitVec 32) (s : State) : (follows o s).port.brokenNote = s.port.brokenNote := rfl
@[simp] theorem follows_port_holdoff (o : BitVec 32) (s : State) : (follows o s).port.holdoff = s.port.holdoff := rfl
@[simp] theorem follows_port_poll (o : BitVec 32) (s : State) : (follows o s).port.poll = s.port.poll := rfl
@[simp] theorem follows_port_firstOrder (o : BitVec 32) (s : State) : (follows o s).port.firstOrder = s.port.firstOrder := rfl
@[simp] theorem follows_port_walker (o : BitVec 32) (s : State) : (follows o s).port.walker = s.port.walker := rfl
@[simp] theorem follows_port_access (o : BitVec 32) (s : State) : (follows o s).port.access = s.port.access := rfl
@[simp] theorem follows_port_lastHigh (o : BitVec 32) (s : State) : (follows o s).port.lastHigh = s.port.lastHigh := rfl
@[simp] theorem follows_port_lastLow (o : BitVec 32) (s : State) : (follows o s).port.lastLow = s.port.lastLow := rfl

/-! ### What the updates write -/

@[simp] theorem raise_attention (c : Cause) (s : State) :
    (raise c s).port.attention = s.port.attention ||| c.word := rfl

@[simp] theorem setWalker_walker (w : Walker) (s : State) : (setWalker w s).port.walker = w := rfl

@[simp] theorem proceed_walker (b : OrderBlock) (p : Progress) (s : State) :
    (proceed b p s).port.walker = .flight b p := rfl

@[simp] theorem finish_walker (b : OrderBlock) (o : OutcomeCode) (d : Nat) (s : State) :
    (finish b o d s).port.walker = .flight b (.finishing ⟨o, d⟩) := rfl

@[simp] theorem endAccess_access (a : Access) (s : State) : (endAccess a s).port.access = none := rfl

@[simp] theorem endAccess_area (a : Access) (s : State) : (endAccess a s).area = Memory.write a.cells s.area := rfl

@[simp] theorem dropAccess_access (s : State) : (dropAccess s).port.access = none := rfl

@[simp] theorem pollComplete_poll (s : State) : (pollComplete s).port.poll = .idle := rfl

@[simp] theorem pollComplete_holdoff (s : State) : (pollComplete s).port.holdoff = s.port.holdoff.afterPoll := rfl

@[simp] theorem blankOutput_output (s : State) : (blankOutput s).picture.output = Rgb.same 64 := rfl

@[simp] theorem takeMark_taken (m : BitVec 64) (s : State) :
    (takeMark m s).journal.taken = BitVec.ofNat 16 (m.toNat >>> 32) := rfl

@[simp] theorem follows_followPoint (o : BitVec 32) (s : State) : (follows o s).port.followPoint = o := rfl

@[simp] theorem changePass_pass (f : Pass → Pass) (s : State) : (changePass f s).pass = s.pass.map f := rfl

@[simp] theorem passExists_eq (s : State) : passExists s = s.pass.isSome := rfl

@[simp] theorem setLinkRec_links (l : Link) (r : LinkRec) (s : State) : (setLinkRec l r s).links = s.links.set l r := rfl

@[simp] theorem linkOf_setLinkRec_same (l : Link) (r : LinkRec) (s : State) : linkOf l (setLinkRec l r s) = r := by
  cases l <;> rfl

theorem linkOf_setLinkRec_other (l m : Link) (r : LinkRec) (s : State) (h : m ≠ l) :
    linkOf m (setLinkRec l r s) = linkOf m s := by
  cases l <;> cases m <;> first | rfl | exact absurd rfl h

theorem linkOf_congr (l : Link) (s t : State) (h : s.links = t.links) : linkOf l s = linkOf l t := by
  simp [linkOf, h]

end Sys2Proof.Machine
end

