-- ==== Sys2Proof/Laws/Links.lean ====
section
/-!
SUPPORT. Laws/Links.lean: what the link and pass operations leave alone. They change link records, the pass, the staging
queue and the attention causes, and nothing else.
-/
namespace Sys2Proof.Machine

/-- Between `s` and `t` nothing has changed but link records, the pass, the staging queue with its lost count, and
attention causes. -/
structure SideFrame (s t : State) : Prop where
  pending : t.pending = s.pending
  port : t.port = { s.port with attention := t.port.attention }
  journal : t.journal = { s.journal with
    queue := t.journal.queue, lost := t.journal.lost, lostFlag := t.journal.lostFlag }
  reports : t.reports = s.reports
  follower : t.follower = s.follower
  store : t.store = s.store
  table : t.table = s.table
  grade : t.grade = s.grade
  picture : t.picture = s.picture
  light : t.light = s.light
  level : t.level = s.level
  routes : t.routes = s.routes
  area : t.area = s.area
  freeIndex : t.freeIndex = s.freeIndex

theorem SideFrame.refl (s : State) : SideFrame s s :=
  ⟨rfl, rfl, rfl, rfl, rfl, rfl, rfl, rfl, rfl, rfl, rfl, rfl, rfl, rfl⟩

theorem SideFrame.trans {s t u : State} (h : SideFrame s t) (k : SideFrame t u) : SideFrame s u := by
  refine ⟨k.pending.trans h.pending, ?_, ?_, k.reports.trans h.reports, k.follower.trans h.follower,
    k.store.trans h.store, k.table.trans h.table, k.grade.trans h.grade, k.picture.trans h.picture,
    k.light.trans h.light, k.level.trans h.level, k.routes.trans h.routes, k.area.trans h.area,
    k.freeIndex.trans h.freeIndex⟩
  · rw [k.port, h.port]
  · rw [k.journal, h.journal]

theorem raise_frame (c : Cause) (s : State) : SideFrame s (raise c s) :=
  ⟨rfl, rfl, rfl, rfl, rfl, rfl, rfl, rfl, rfl, rfl, rfl, rfl, rfl, rfl⟩

theorem offer_frame (e : Entry) (s : State) : SideFrame s (offer e s) := by
  unfold offer
  split
  · exact .refl s
  · split <;> exact ⟨rfl, rfl, rfl, rfl, rfl, rfl, rfl, rfl, rfl, rfl, rfl, rfl, rfl, rfl⟩

theorem setLinkRec_frame (l : Link) (r : LinkRec) (s : State) : SideFrame s (setLinkRec l r s) :=
  ⟨rfl, rfl, rfl, rfl, rfl, rfl, rfl, rfl, rfl, rfl, rfl, rfl, rfl, rfl⟩

theorem changePass_frame (f : Pass → Pass) (s : State) : SideFrame s (changePass f s) :=
  ⟨rfl, rfl, rfl, rfl, rfl, rfl, rfl, rfl, rfl, rfl, rfl, rfl, rfl, rfl⟩

theorem setPass_frame (p : Option Pass) (s : State) : SideFrame s { s with pass := p } :=
  ⟨rfl, rfl, rfl, rfl, rfl, rfl, rfl, rfl, rfl, rfl, rfl, rfl, rfl, rfl⟩

theorem beginPass_frame (p : Option Pass) (x : PerLink LinkRec) (s : State) : SideFrame s { s with pass := p, links := x } :=
  ⟨rfl, rfl, rfl, rfl, rfl, rfl, rfl, rfl, rfl, rfl, rfl, rfl, rfl, rfl⟩

theorem faultLink_frame (l : Link) (c : FaultCause) (n : Nat) (s : State) : SideFrame s (faultLink l c n s) :=
  (setLinkRec_frame ..).trans (raise_frame ..)

theorem enterFault_frame (l : Link) (c : FaultCause) (n v : Nat) (tc : Option Nat) (s : State) :
    SideFrame s (enterFault l c n v tc s) :=
  (faultLink_frame ..).trans (offer_frame ..)

theorem issueOr_frame (full : State → State) (l : Link) (d : Directive) (f : LinkRec → LinkRec) (s : State)
    (h : SideFrame s (full s)) : SideFrame s (issueOr full l d f s) := by
  unfold issueOr
  simp only
  split
  · exact h
  · exact setLinkRec_frame ..

theorem issue_frame (l : Link) (d : Directive) (f : LinkRec → LinkRec) (s : State) : SideFrame s (issue l d f s) :=
  issueOr_frame _ _ _ _ _ (enterFault_frame ..)

theorem issueEarly_frame (l : Link) (d : Directive) (f : LinkRec → LinkRec) (s : State) :
    SideFrame s (issueEarly l d f s) := issueOr_frame _ _ _ _ _ (faultLink_frame ..)

theorem lateFault_frame (before : State) (l : Link) (s : State) : SideFrame s (lateFault before l s) := by
  unfold lateFault; split <;> first | exact offer_frame .. | exact .refl s

/-- What issuing a directive does while the send queue has room (R132), whatever a full queue would do. -/
theorem issueOr_room (full : State → State) (l : Link) (d : Directive) (f : LinkRec → LinkRec) (s : State)
    (h : (linkOf l s).queue.length < Config.sendCapacity) :
    issueOr full l d f s = setLinkRec l (f { linkOf l s with queue := (linkOf l s).queue ++ [d] }) s := by
  simp [issueOr, Nat.not_le.mpr h]

/-- A directive issued to a full send queue is not queued (R132). -/
theorem issueOr_full (full : State → State) (l : Link) (d : Directive) (f : LinkRec → LinkRec) (s : State)
    (h : Config.sendCapacity ≤ (linkOf l s).queue.length) : issueOr full l d f s = full s := by
  simp [issueOr, h]

theorem wakeRequest_frame (l : Link) (o : WakeOwner) (s : State) : SideFrame s (wakeRequest l o s) := by
  unfold wakeRequest; split <;> first | exact issue_frame .. | exact .refl s

theorem cueRequest_frame (l : Link) (tc : Nat) (s : State) : SideFrame s (cueRequest l tc s) := by
  unfold cueRequest; split
  · exact (setLinkRec_frame ..).trans (issue_frame ..)
  · exact .refl s

theorem releaseRequest_frame (l : Link) (s : State) : SideFrame s (releaseRequest l s) := by
  unfold releaseRequest; split <;> first | exact issueEarly_frame .. | exact .refl s

theorem rollRequest_frame (l : Link) (s : State) : SideFrame s (rollRequest l s) := by
  unfold rollRequest; split <;> first | exact issue_frame .. | exact .refl s

theorem inRequest_frame (l : Link) (tc : Nat) (s : State) : SideFrame s (inRequest l tc s) := by
  unfold inRequest; simp only; split
  · split
    · exact (setLinkRec_frame ..).trans (issue_frame ..)
    · exact enterFault_frame ..
  · exact .refl s

theorem outRequest_frame (l : Link) (s : State) : SideFrame s (outRequest l s) := by
  unfold outRequest; split <;> first | exact issueEarly_frame .. | exact .refl s

theorem closeRequest_frame (l : Link) (s : State) : SideFrame s (closeRequest l s) := by
  unfold closeRequest; split <;> first | exact issueEarly_frame .. | exact .refl s

theorem takeReport_frame (l : Link) (k : ReportKind) (v : Nat) (s : State) : SideFrame s (takeReport l k v s) := by
  cases k <;> simp only [takeReport, takeAwake, takeCued, takeLocked, takeWritten, takeDone, takeTrouble] <;>
    repeat' split
  all_goals first | exact setLinkRec_frame .. | exact enterFault_frame .. | exact .refl s

theorem completeFrame_frame (l : Link) (k : BitVec 8) (v : BitVec 24) (x : BitVec 8) (s : State) :
    SideFrame s (completeFrame l k v x s) := by
  unfold completeFrame
  split
  · exact setLinkRec_frame ..
  · exact (setLinkRec_frame ..).trans (takeReport_frame ..)

theorem takeByte_frame (l : Link) (x : Byte) (s : State) : SideFrame s (takeByte l x s) := by
  unfold takeByte
  split <;> split
  · exact setLinkRec_frame ..
  · exact .refl s
  · exact setLinkRec_frame ..
  · exact completeFrame_frame ..

theorem takeBytes_frame (l : Link) (bytes : List Byte) (s : State) : SideFrame s (takeBytes l bytes s) := by
  unfold takeBytes
  induction bytes generalizing s with
  | nil => exact .refl s
  | cons x bytes ih => exact (takeByte_frame l x s).trans (ih _)

/-- The three value bytes, put together again, are the value (R131). -/
theorem messageValue (v : BitVec 24) :
    (v.extractLsb' 16 8 ++ (v.extractLsb' 8 8 ++ v.extractLsb' 0 8) : BitVec 24) = v := by
  apply BitVec.eq_of_getLsbD_eq
  intro i hi
  rw [BitVec.getLsbD_append, BitVec.getLsbD_append, BitVec.getLsbD_extractLsb', BitVec.getLsbD_extractLsb',
    BitVec.getLsbD_extractLsb']
  split
  · split
    · have : i < 8 := by omega
      simp only [this, decide_true, Bool.true_and, Nat.zero_add]
    · have : i - 8 < 8 := by omega
      simp only [this, decide_true, Bool.true_and]; congr 1; omega
  · have : i - (8 + 8) < 8 := by omega
    simp only [this, decide_true, Bool.true_and]; congr 1; omega

@[simp] theorem linkOf_setFramer (l : Link) (f : Framer) (s : State) :
    linkOf l (setFramer l f s) = { linkOf l s with framer := f } := by cases l <;> rfl

@[simp] theorem setFramer_setFramer (l : Link) (f g : Framer) (s : State) :
    setFramer l g (setFramer l f s) = setFramer l g s := by cases l <;> rfl

/-- A byte within an unfinished frame is gathered (R133). -/
theorem takeByte_gather (l : Link) (x : Byte) (s : State) (noted : BitVec 32) (bytes : List Byte)
    (h : (linkOf l s).framer = .assembling noted bytes) (h5 : bytes.length < 5) :
    takeByte l x s = setFramer l (.assembling noted (bytes ++ [x])) s := by
  simp [takeByte, h, h5]

/-- The sixth byte completes a frame (R133). -/
theorem takeByte_complete (l : Link) (x : Byte) (s : State) (noted : BitVec 32) (bytes : List Byte)
    (h : (linkOf l s).framer = .assembling noted bytes) (h5 : ¬bytes.length < 5) :
    takeByte l x s = completeBytes l (bytes ++ [x]) s := by
  simp [takeByte, h, h5]

/-- The five bytes that follow a start byte complete its frame (R133). -/
theorem takeBytes_message (l : Link) (k : BitVec 8) (v : BitVec 24) (x : BitVec 8) (s : State) (noted : BitVec 32)
    (b : Byte) (h : (linkOf l s).framer = .assembling noted [b]) :
    takeBytes l (messageBytes k v x) s = completeFrame l k v x s := by
  have gather (y : Byte) (bs : List Byte) (h5 : bs.length < 5) :
      takeByte l y (setFramer l (.assembling noted bs) s) = setFramer l (.assembling noted (bs ++ [y])) s := by
    rw [takeByte_gather l y _ noted bs (by simp) h5, setFramer_setFramer]
  simp only [takeBytes, messageBytes, List.foldl_cons, List.foldl_nil]
  rw [takeByte_gather l k s noted [b] h (by simp), gather _ _ (by simp), gather _ _ (by simp), gather _ _ (by simp),
    takeByte_complete l x _ noted _ (by rw [linkOf_setFramer]) (by simp)]
  have hv : completeBytes l ([b] ++ [k] ++ [v.extractLsb' 0 8] ++ [v.extractLsb' 8 8] ++ [v.extractLsb' 16 8] ++ [x])
      = completeFrame l k v x := by
    funext u
    exact congrArg (fun w => completeFrame l k w x u) (messageValue v)
  rw [hv]
  simp only [completeFrame, huntAgain, setFramer_setFramer]
  rfl

theorem checkTimer_frame (l : Link) (s : State) : SideFrame s (checkTimer l s) := by
  unfold checkTimer
  split
  · split
    · exact .refl s
    · rename_i t _
      cases h : t.kind <;> simp only [expireKind] <;> exact enterFault_frame ..
  · exact .refl s

theorem expiryOf_frame (k : TimerKind) (l : Link) (s : State) : SideFrame s (expiryOf k l s) := by
  unfold expiryOf; split <;> first | exact checkTimer_frame .. | exact .refl s

theorem autoDownNow_frame (l : Link) (s : State) : SideFrame s (autoDownNow l s) := issue_frame ..

theorem decideDown_frame (l : Link) (s : State) : SideFrame s (decideDown l s) := by
  unfold decideDown; split <;> first | exact autoDownNow_frame .. | exact setLinkRec_frame ..

/-- A cancelled auto-down decision takes back the silence count and its own mark alone. -/
theorem cancelDown_eq (r : LinkRec) :
    cancelDown r = { r with silence := if r.downDue then 0 else r.silence, downDue := false } := by
  unfold cancelDown
  split
  · rfl
  · cases r; simp_all

/-- A step made for each link of a set changes what its parts change. -/
theorem eachLink_frame (x : LinkSet) (f : Link → State → State) (s : State) (h : ∀ l t, SideFrame t (f l t)) :
    SideFrame s (eachLink x f s) := by
  unfold eachLink
  generalize membersOf x = ls
  induction ls generalizing s with
  | nil => exact .refl s
  | cons l ls ih => exact (h l s).trans (ih _)

theorem holdLinks_frame (x : LinkSet) (s : State) : SideFrame s (holdLinks x s) :=
  eachLink_frame _ _ _ fun _ _ => setLinkRec_frame ..

theorem unholdLinks_frame (x : LinkSet) (s : State) : SideFrame s (unholdLinks x s) :=
  eachLink_frame _ _ _ fun _ _ => setLinkRec_frame ..

theorem editOut_frame (p : Pass) (x : Int) (l : Link) (s : State) : SideFrame s (editOut p x l s) := by
  unfold editOut; simp only; split
  · exact (outRequest_frame ..).trans (offer_frame ..)
  · exact outRequest_frame ..

theorem editIn_frame (p : Pass) (x : Int) (sc : RecScene) (l : Link) (s : State) : SideFrame s (editIn p x sc l s) := by
  unfold editIn; simp only; split
  · exact (inRequest_frame ..).trans (offer_frame ..)
  · exact inRequest_frame ..

theorem closeEdit_frame (p : Pass) (x : Int) (l : Link) (s : State) : SideFrame s (closeEdit p x l s) := by
  unfold closeEdit; simp only; split
  · exact (closeRequest_frame ..).trans (offer_frame ..)
  · exact closeRequest_frame ..

theorem offerScene_frame (p : Pass) (sc : RecScene) (x : Int) (s : State) : SideFrame s (offerScene p sc x s) := by
  unfold offerScene; simp only
  split <;> split
  · exact (offer_frame ..).trans (offer_frame ..)
  · exact offer_frame ..
  · exact offer_frame ..
  · exact .refl s

theorem workSet_frame (p : Pass) (x : Int) (s : State) : SideFrame s (workSet p x s) := by
  unfold workSet; simp only
  exact (offerScene_frame ..).trans ((eachLink_frame _ _ _ fun _ _ => editOut_frame ..).trans
    ((changePass_frame ..).trans ((eachLink_frame _ _ _ fun _ _ => editIn_frame ..).trans ((changePass_frame ..).trans
      (eachLink_frame _ _ _ fun _ _ => lateFault_frame ..)))))

theorem abortPassNow_frame (c : AbortCause) (s : State) : SideFrame s (abortPassNow c s) := by
  unfold abortPassNow
  split
  · exact .refl s
  · split
    · exact .refl s
    · exact (changePass_frame ..).trans ((eachLink_frame _ _ _ fun _ _ =>
        (closeEdit_frame ..).trans (releaseRequest_frame ..)).trans (eachLink_frame _ _ _ fun _ _ => lateFault_frame ..))

theorem memberLoss_frame (l : Link) (s : State) : SideFrame s (memberLoss l s) := by
  unfold memberLoss
  split
  · exact .refl s
  · split
    · simp only; split
      · exact (changePass_frame ..).trans (abortPassNow_frame ..)
      · exact changePass_frame ..
    · exact .refl s

theorem tellLosses_frame (before after : State) : SideFrame after (tellLosses before after) := by
  unfold tellLosses
  generalize Link.all = ls
  suffices ∀ s, SideFrame s (ls.foldl (fun s l => if faultedIn before after l then memberLoss l s else s) s) from this _
  induction ls with
  | nil => exact .refl
  | cons l ls ih =>
    intro s
    simp only [List.foldl_cons]
    split
    · exact (memberLoss_frame l s).trans (ih _)
    · exact ih _

theorem resolvePass_frame (p : Pass) (s : State) : SideFrame s (resolvePass p s) := by
  unfold resolvePass; simp only; split
  · exact (changePass_frame ..).trans (abortPassNow_frame ..)
  · exact (changePass_frame ..).trans ((eachLink_frame _ _ _ fun _ _ => releaseRequest_frame ..).trans
      ((eachLink_frame _ _ _ fun _ _ => lateFault_frame ..).trans ((unholdLinks_frame ..).trans (changePass_frame ..))))

theorem issueCues_frame (p : Pass) (s : State) : SideFrame s (issueCues p s) :=
  (changePass_frame ..).trans (eachLink_frame _ _ _ fun _ _ => cueRequest_frame ..)

theorem preparePass_frame (p : Pass) (s : State) : SideFrame s (preparePass p s) := by
  have hcue : SideFrame s (if p.cuesIssued then s else if nonesWaking p s then issueCues p s else s) := by
    split
    · exact .refl s
    · split
      · exact issueCues_frame p s
      · exact .refl s
  have hres (t : State) (b : Bool) (h : SideFrame s t) : SideFrame s (if b then resolvePass p t else t) := by
    cases b
    · exact h
    · exact h.trans (resolvePass_frame p t)
  exact hres _ _ hcue

theorem atIndex_frame (m : FieldMode) (f : Int → State → State) (s : State) (h : ∀ x t, SideFrame t (f x t)) :
    SideFrame s (atIndex m f s) := by
  cases m <;> first | exact .refl s | exact h ..

theorem closePass_frame (p : Pass) (s : State) : SideFrame s (closePass p s) := by
  unfold closePass
  split
  · exact ((offer_frame ..).trans (raise_frame ..)).trans ((unholdLinks_frame ..).trans (setPass_frame ..))
  · exact .refl s

theorem passByState_frame (p : Pass) (s : State) : SideFrame s (passByState p s) := by
  unfold passByState
  split
  · exact preparePass_frame ..
  · refine atIndex_frame _ _ _ fun x t => ?_
    unfold waitPass rollPass
    split
    · exact (changePass_frame ..).trans (eachLink_frame _ _ _ fun _ _ => rollRequest_frame ..)
    · split <;> first | exact abortPassNow_frame .. | exact .refl t
  · refine atIndex_frame _ _ _ fun x t => ?_
    unfold rollingPass
    split <;> first | exact workSet_frame .. | exact .refl t
  · refine atIndex_frame _ _ _ fun x t => ?_
    unfold recordPass outPoint
    split
    · split
      · exact workSet_frame ..
      · exact (changePass_frame ..).trans ((eachLink_frame _ _ _ fun _ _ => closeEdit_frame ..).trans
          (eachLink_frame _ _ _ fun _ _ => lateFault_frame ..))
    · exact .refl t
  · exact closePass_frame ..

theorem passStep_frame (p : Pass) (s : State) : SideFrame s (passStep p s) := by
  unfold passStep; simp only
  split
  · exact (setPass_frame ..).trans (abortPassNow_frame ..)
  · split
    · exact (setPass_frame ..).trans (abortPassNow_frame ..)
    · exact (setPass_frame ..).trans (passByState_frame ..)

theorem passField_frame (s : State) : SideFrame s (passField s) := by
  unfold passField
  split
  · split
    · exact .refl s
    · exact (passStep_frame ..).trans (tellLosses_frame ..)
  · exact .refl s

theorem acceptPass_frame (a : PassArgs) (s : State) : SideFrame s (acceptPass a s) :=
  (beginPass_frame ..).trans ((holdLinks_frame ..).trans
    ((eachLink_frame _ _ _ fun _ _ => wakeRequest_frame ..).trans (offer_frame ..)))

theorem changeLink_frame (a : LinkArgs) (w : Bool) (l : Link) (s : State) : SideFrame s (changeLink a w l s) :=
  (decideDown_frame ..).trans (setLinkRec_frame ..)

theorem wakeByOrder_frame (l : Link) (s : State) : SideFrame s (wakeByOrder l s) := by
  unfold wakeByOrder; split
  · exact (wakeRequest_frame ..).trans (tellLosses_frame ..)
  · exact setLinkRec_frame ..

end Sys2Proof.Machine
end

