-- ==== Sys2Proof/Laws/Field.lean ====
section
/-!
SUPPORT. Laws/Field.lean: what the blocks' shares of a field event leave alone, and what the whole of a field event does to
the follower.
-/
namespace Sys2Proof.Machine

/-- Between `s` and `t` the queue of commands, the follower, the looks, the routes, the written memory and the count of free
bits have not changed. -/
structure FieldFrame (s t : State) : Prop where
  pending : t.pending = s.pending
  follower : t.follower = s.follower
  table : t.table = s.table
  routes : t.routes = s.routes
  area : t.area = s.area
  freeIndex : t.freeIndex = s.freeIndex
  running : t.port.running = s.port.running

theorem FieldFrame.refl (s : State) : FieldFrame s s := ⟨rfl, rfl, rfl, rfl, rfl, rfl, rfl⟩

theorem FieldFrame.trans {s t u : State} (h : FieldFrame s t) (k : FieldFrame t u) : FieldFrame s u :=
  ⟨k.pending.trans h.pending, k.follower.trans h.follower, k.table.trans h.table, k.routes.trans h.routes,
    k.area.trans h.area, k.freeIndex.trans h.freeIndex, k.running.trans h.running⟩

theorem SideFrame.field {s t : State} (h : SideFrame s t) : FieldFrame s t :=
  ⟨h.pending, h.follower, h.table, h.routes, h.area, h.freeIndex, by rw [h.port]⟩

theorem gradeField_frame (s : State) : FieldFrame s (gradeField s) := by
  unfold gradeField; split <;> exact ⟨rfl, rfl, rfl, rfl, rfl, rfl, rfl⟩

theorem restField_frame (s : State) : FieldFrame s (restField s) := by
  unfold restField; split <;> exact ⟨rfl, rfl, rfl, rfl, rfl, rfl, rfl⟩

theorem decideRest_frame (s : State) : FieldFrame s (decideRest s) := by
  unfold decideRest; split <;> exact ⟨rfl, rfl, rfl, rfl, rfl, rfl, rfl⟩

theorem takeJudgement_frame (j : Option AlertFlags) (s : State) : FieldFrame s (takeJudgement j s) := by
  unfold takeJudgement
  split
  · exact .refl s
  · simp only; split <;> exact ⟨rfl, rfl, rfl, rfl, rfl, rfl, rfl⟩

theorem statsField_frame (m : Measurement) (e : Bool) (s : State) : FieldFrame s (statsField m e s) := by
  unfold statsField; split <;> exact ⟨rfl, rfl, rfl, rfl, rfl, rfl, rfl⟩

theorem closeTally_frame (s : State) : FieldFrame s (closeTally s) := by
  unfold closeTally
  split
  · exact .refl s
  · simp only; split
    · exact FieldFrame.trans (t := { s with level := { s.level with tally := none } }) ⟨rfl, rfl, rfl, rfl, rfl, rfl, rfl⟩
        (offer_frame ..).field
    · exact ⟨rfl, rfl, rfl, rfl, rfl, rfl, rfl⟩

theorem setLevel_frame (s : State) (l : Level) : FieldFrame s { s with level := l } :=
  ⟨rfl, rfl, rfl, rfl, rfl, rfl, rfl⟩

theorem tallyField_frame (m : Measurement) (j : Option AlertFlags) (s : State) : FieldFrame s (tallyField m j s) := by
  unfold tallyField
  split
  · simp only; split
    · exact (closeTally_frame s).trans (setLevel_frame ..)
    · exact setLevel_frame ..
  · exact .refl s

theorem dealMeasurement_frame (m : Measurement) (s : State) : FieldFrame s (dealMeasurement m s) := by
  unfold dealMeasurement; simp only
  refine FieldFrame.trans ?_ (tallyField_frame ..)
  split
  · exact (setLevel_frame ..).trans ((takeJudgement_frame ..).trans (statsField_frame ..))
  · exact (setLevel_frame ..).trans (takeJudgement_frame ..)

theorem finishOpen_frame (s : State) : FieldFrame s (finishOpen s) := by
  unfold finishOpen; split
  · exact .refl s
  · exact (setLevel_frame ..).trans (dealMeasurement_frame ..)

theorem closeIfEnded_frame (s : State) : FieldFrame s (closeIfEnded s) := by
  unfold closeIfEnded; split
  · exact .refl s
  · exact closeTally_frame s

theorem levelField_frame (s : State) : FieldFrame s (levelField s) := by
  unfold levelField; split
  · exact (finishOpen_frame s).trans ((closeIfEnded_frame _).trans (setLevel_frame ..))
  · exact .refl s

theorem framersField_frame (s : State) : FieldFrame s (framersField s) := by
  unfold framersField; split <;> exact ⟨rfl, rfl, rfl, rfl, rfl, rfl, rfl⟩

theorem silenceField_frame (s : State) : FieldFrame s (silenceField s) := by
  unfold silenceField; split <;> exact ⟨rfl, rfl, rfl, rfl, rfl, rfl, rfl⟩

theorem reportField_frame (s : State) : FieldFrame s (reportField s) := by
  unfold reportField; split
  · split <;> exact ⟨rfl, rfl, rfl, rfl, rfl, rfl, rfl⟩
  · exact .refl s

theorem pollField_frame (s : State) : FieldFrame s (pollField s) := by
  unfold pollField; split <;> exact ⟨rfl, rfl, rfl, rfl, rfl, rfl, rfl⟩

/-- One block's share of a field event leaves the follower, the looks, the routes, the memory and the run state alone. -/
theorem runAct_frame (a : FieldAct) (s : State) : FieldFrame s (runAct a s) := by
  cases a with
  | grade => exact gradeField_frame s
  | restCount => exact restField_frame s
  | restEntry => exact decideRest_frame s
  | measure => exact levelField_frame s
  | framers => exact framersField_frame s
  | silence => exact silenceField_frame s
  | timer l => exact ((checkTimer_frame l s).trans (tellLosses_frame ..)).field
  | autoDown l => exact ((decideDown_frame l s).trans (tellLosses_frame ..)).field
  | pass => exact (passField_frame s).field
  | report => exact reportField_frame s
  | poll => exact pollField_frame s

theorem runActs_frame (acts : List FieldAct) (s : State) :
    FieldFrame s (acts.foldl (fun s a => runAct a s) s) := by
  induction acts generalizing s with
  | nil => exact .refl s
  | cons a acts ih => exact (runAct_frame a s).trans (ih _)

theorem settleField_frame (s : State) : FieldFrame s (settleField s) := runActs_frame ..

/-- The follower after its own share of a field event. -/
theorem publish_follower (p : Parity) (timer : Bool) (s : State) :
    (publish p timer s).follower = followField s.follower p timer := by
  unfold publish offerSlip noteReference
  simp only
  split
  · split <;> simp
  · split <;> split <;> simp

/-- A whole field event leaves the follower as its own rules give it, whatever the order of the blocks' shares. -/
theorem fieldStep_follower (p : Parity) (timer : Bool) (order : List FieldAct) (s : State) :
    (fieldStep p timer order s).follower = followField s.follower p timer := by
  unfold fieldStep
  rw [(runActs_frame ..).follower, publish_follower, (settleField_frame s).follower]

theorem publish_pending (p : Parity) (timer : Bool) (s : State) : (publish p timer s).pending = s.pending := by
  unfold publish offerSlip noteReference
  simp only
  split
  · split <;> simp
  · split <;> split <;> simp

theorem fieldStep_pending (p : Parity) (timer : Bool) (order : List FieldAct) (s : State) :
    (fieldStep p timer order s).pending = s.pending := by
  unfold fieldStep
  rw [(runActs_frame ..).pending, publish_pending, (settleField_frame s).pending]

end Sys2Proof.Machine
end

