-- ==== Sys2Proof/Laws/Memory.lean ====
section
/-!
SUPPORT. Laws/Memory.lean: the laws of the written part of the exchange area: a read after a write, and the canonical form.
-/
namespace Sys2Proof.Machine

theorem Memory.read_put_same (a : Nat) (v : Byte) (m : List Host.Cell) : Memory.read (Memory.put a v m) a = some v := by
  induction m with
  | nil => simp [Memory.put, Memory.read]
  | cons c m ih =>
    obtain ⟨b, w⟩ := c
    simp only [Memory.put]
    split
    · simp [Memory.read]
    · split
      · simp [Memory.read]
      · rename_i h h'
        simp [Memory.read, h', ih]

theorem Memory.read_put_other (a b : Nat) (v : Byte) (m : List Host.Cell) (h : b ≠ a) :
    Memory.read (Memory.put a v m) b = Memory.read m b := by
  induction m with
  | nil => simp [Memory.put, Memory.read, h]
  | cons c m ih =>
    obtain ⟨d, w⟩ := c
    simp only [Memory.put]
    split
    · simp [Memory.read, h]
    · split
      · rename_i h1 h2
        subst h2
        simp [Memory.read, h]
      · simp only [Memory.read, ih]

/-- A write leaves every byte outside its cells as it was. -/
theorem Memory.read_write_other (cells m : List Host.Cell) (a : Nat) (h : ∀ c ∈ cells, c.1 ≠ a) :
    Memory.read (Memory.write cells m) a = Memory.read m a := by
  induction cells generalizing m with
  | nil => rfl
  | cons c cells ih =>
    simp only [Memory.write, List.foldl_cons]
    have := ih (Memory.put c.1 c.2 m) (fun x hx => h x (List.mem_cons_of_mem _ hx))
    simp only [Memory.write] at this
    rw [this, Memory.read_put_other _ _ _ _ (fun e => h c (List.mem_cons_self ..) e.symm)]

theorem Memory.all_put (a : Nat) (v : Byte) (m : List Host.Cell) (b : Nat) (hb : b < a)
    (h : m.all (fun c => decide (b < c.1)) = true) : (Memory.put a v m).all (fun c => decide (b < c.1)) = true := by
  induction m with
  | nil => simp [Memory.put, hb]
  | cons c m ih =>
    obtain ⟨d, w⟩ := c
    simp only [List.all_cons, Bool.and_eq_true, decide_eq_true_eq] at h
    simp only [Memory.put]
    split
    · simp [hb, h.1, h.2]
    · split
      · simp [hb, h.2]
      · simp [h.1, ih h.2]

/-- Storing one byte keeps the canonical form. -/
theorem Memory.wf_put (a : Nat) (v : Byte) (m : List Host.Cell) (h : Memory.wf m = true) :
    Memory.wf (Memory.put a v m) = true := by
  induction m with
  | nil => simp [Memory.put, Memory.wf]
  | cons c m ih =>
    obtain ⟨d, w⟩ := c
    simp only [Memory.wf, Bool.and_eq_true] at h
    simp only [Memory.put]
    split
    · rename_i hlt
      simp only [Memory.wf, List.all_cons, Bool.and_eq_true, decide_eq_true_eq]
      refine ⟨⟨hlt, ?_⟩, h⟩
      have := h.1
      simp only [List.all_eq_true, decide_eq_true_eq] at this ⊢
      exact fun x hx => Nat.lt_trans hlt (this x hx)
    · split
      · rename_i _ he
        subst he
        simp only [Memory.wf, Bool.and_eq_true]
        exact h
      · rename_i h1 h2
        simp only [Memory.wf, Bool.and_eq_true]
        exact ⟨Memory.all_put a v m d (by omega) h.1, ih h.2⟩

/-- Storing the bytes of an access keeps the canonical form. -/
theorem Memory.wf_write (cells m : List Host.Cell) (h : Memory.wf m = true) : Memory.wf (Memory.write cells m) = true := by
  induction cells generalizing m with
  | nil => exact h
  | cons c cells ih =>
    simp only [Memory.write, List.foldl_cons]
    exact ih _ (Memory.wf_put _ _ _ h)

end Sys2Proof.Machine
end

