-- ==== Sys2Proof/Laws/Port.lean ====
section
/-!
SUPPORT. Laws/Port.lean: the shared operations of the exchange port, each said once: what a completion can do, how a link is
judged, how a block is closed, and what the arbiter grants.
-/
namespace Sys2Proof.Machine

/-- All that a completion can do (R170 to R172, R177): nothing when no such access is in progress; otherwise the bytes are
stored, and a live access's result is used. -/
theorem complete_cases (isKind : AccessKind → Bool) (s : State) (live stale : Access → State → State) :
    complete isKind s live stale = s
      ∨ ∃ a, s.port.access = some a ∧ isKind a.kind = true
          ∧ ((a.status = .live ∧ complete isKind s live stale = live a (endAccess a s))
            ∨ (a.status = .stale ∧ complete isKind s live stale = stale a (endAccess a s))
            ∨ (a.status = .forgotten ∧ complete isKind s live stale = endAccess a s)) := by
  unfold complete
  split
  · exact .inl rfl
  · rename_i a h
    split
    · rename_i hk
      refine .inr ⟨a, h, hk, ?_⟩
      cases a.status
      · exact .inl ⟨rfl, rfl⟩
      · exact .inr (.inl ⟨rfl, rfl⟩)
      · exact .inr (.inr ⟨rfl, rfl⟩)
    · exact .inl rfl

/-- The completion of a live access of the kind asked for. -/
theorem complete_live (isKind : AccessKind → Bool) (s : State) (live stale : Access → State → State) (a : Access)
    (h : s.port.access = some a) (hk : isKind a.kind = true) (hs : a.status = .live) :
    complete isKind s live stale = live a (endAccess a s) := by
  simp [complete, h, hk, hs]

/-- A command that completes an access that is not in progress changes nothing. -/
theorem complete_none (isKind : AccessKind → Bool) (s : State) (live stale : Access → State → State)
    (h : ∀ a, s.port.access = some a → isKind a.kind = false) : complete isKind s live stale = s := by
  unfold complete
  split
  · rfl
  · rename_i a ha
    simp [h a ha]

/-- Taking an order that is not handed over changes nothing. -/
theorem withOrder_none (code : BitVec 8) (s : State) (take : OrderBlock → State) (h : handedOrder code s = none) :
    withOrder code s take = s := by simp [withOrder, h]

/-- Taking the order that is handed over under its code. -/
theorem withOrder_some (s : State) (b : OrderBlock) (take : OrderBlock → State)
    (h : s.port.walker = .flight b .handed) : withOrder b.code s take = take b := by
  simp [withOrder, handedOrder, h]

theorem withProgress_flight (s : State) (b : OrderBlock) (p : Progress) (take : OrderBlock → Progress → State)
    (h : s.port.walker = .flight b p) : withProgress s take = take b p := by simp [withProgress, h]

/-- A broken link is noted and CHAIN raised once (R174). -/
theorem judgeLink_broken (v : BitVec 32) (n : Nat) (s : State) (h : isBroken v = true) (h0 : v ≠ 0) :
    judgeLink v n s =
      if s.port.brokenNote = some v then setWalker .idle s
      else raise .chain (noteBroken (some v) (setWalker .idle s)) := by
  unfold judgeLink
  simp only
  rw [if_neg h0, if_pos h]
  rfl

/-- A valid link is followed while the walk has blocks left (R174, R175). -/
theorem judgeLink_valid (v : BitVec 32) (n : Nat) (s : State) (h : isBroken v = false) (h0 : v ≠ 0)
    (hn : n < Config.walkLimit) : judgeLink v n s = setWalker (.reading v n) (noteBroken none (setWalker .idle s)) := by
  have h1 : ¬v = 0#32 := h0
  simp [judgeLink, h, h1, hn]

/-- A link of 0 ends the walk (R174). -/
theorem judgeLink_zero (n : Nat) (s : State) : judgeLink 0 n s = noteBroken none (setWalker .idle s) := by
  simp [judgeLink]

/-- Judging a link changes the walker, the broken-link note and at most the CHAIN cause (R174). -/
theorem judgeLink_port (v : BitVec 32) (n : Nat) (s : State) :
    judgeLink v n s = { s with port := { s.port with
      walker := (judgeLink v n s).port.walker
      brokenNote := (judgeLink v n s).port.brokenNote
      attention := (judgeLink v n s).port.attention } } := by
  unfold judgeLink
  simp only
  split
  · rfl
  · split
    · split <;> rfl
    · split <;> rfl

/-- Closing a block (R176): the follow point, the finished count, the walker, and ORDER under NOTIFY. -/
theorem closeBlock_port (b : OrderBlock) (s : State) :
    closeBlock b s = { s with port := { s.port with
      followPoint := b.offset, finished := s.port.finished + 1, walker := .idle
      attention := if b.notify then s.port.attention ||| Cause.order.word else s.port.attention } } := by
  unfold closeBlock
  simp only
  split
  · rfl
  · rfl

/-- All that a grant command can do (R178). -/
theorem grantAccess_cases (s : State) :
    grantAccess s = s ∨ ∃ r, s.port.access = none ∧ chosen s = some r ∧ grantAccess s = grantTo r s := by
  unfold grantAccess
  split
  · exact .inl rfl
  · rename_i h
    split
    · exact .inl rfl
    · rename_i r hr
      exact .inr ⟨r, by simpa using h, hr, rfl⟩

theorem pick_wants (a b last r : Requester) (s : State) (h : pick a b last s = some r) :
    wants r s = true ∧ (r = a ∨ r = b) := by
  unfold pick at h
  cases ha : wants a s <;> cases hb : wants b s <;> simp [ha, hb] at h
  · exact ⟨h ▸ hb, .inr h.symm⟩
  · exact ⟨h ▸ ha, .inl h.symm⟩
  · split at h
    · exact ⟨h ▸ hb, .inr h.symm⟩
    · exact ⟨h ▸ ha, .inl h.symm⟩

/-- The arbiter grants only a waiting request (R178). -/
theorem chosen_wants (r : Requester) (s : State) (h : chosen s = some r) : wants r s = true := by
  unfold chosen at h
  split at h
  · rename_i q hq
    cases h
    exact (pick_wants _ _ _ _ _ hq).1
  · exact (pick_wants _ _ _ _ _ h).1

end Sys2Proof.Machine
end

