-- ==== Sys2Proof/WellFormed.lean ====
section
/-!
DEFINITION. WellFormed.lean: the commands whose operands the manual allows: an order of a field's shares that leaves no
block out, report values that the framer lets through, and frames that it discards. `exec` is total and gives every
command an effect; these checks say which commands the part's surroundings can send.
-/
namespace Sys2Proof

/-- `x` does not stand before `y` in an order that holds both. -/
def notBefore (x y : FieldAct) (order : List FieldAct) : Bool :=
  !order.contains x || order.idxOf y < order.idxOf x

/-- An order of a field's shares: each share at most once, none of the mandatory ones left out, the decision on REST after
the rest count (R107), and an auto-down after the silence count (R142). -/
def properOrder (order : List FieldAct) : Bool :=
  order.eraseDups == order
    && [.grade, .restCount, .measure, .framers, .silence, .pass, .report, .poll].all (order.contains ·)
    && notBefore .restEntry .restCount order
    && Link.all.all fun l => notBefore (.autoDown l) .silence order

/-- A timecode that some field standard has (R133). -/
def isTimecode (v : BitVec 24) : Bool := v.toNat < Machine.tcRange .s60

/-- A frame that the framer discards at both field standards (R133). -/
def isDamaged (kind : BitVec 8) (value : BitVec 24) (sum : BitVec 8) : Bool :=
  (Machine.judgeFrame .s50 kind value sum).isNone && (Machine.judgeFrame .s60 kind value sum).isNone

/-- The command is one that the manual's table has, with operands that it allows. -/
def wellFormed (i : Instr) : Bool :=
  match i with
  | .fieldEvent _ order => properOrder order
  | .referenceWatchExpiry order => properOrder order
  | .standInField order => properOrder order
  | .awake _ v => v.toNat ≤ 1
  | .cued _ v => isTimecode v
  | .locked _ v => isTimecode v
  | .written _ v => isTimecode v
  | .done _ _ => true
  | .trouble _ v => v.toNat ≤ 65535
  | .damagedFrame _ kind value sum => isDamaged kind value sum
  | .putScene => true
  | .sceneFetchComplete _ => true
  | .removeScene => true
  | .clearScenes => true
  | .lockScenes => true
  | .unlockScenes => true
  | .loadScenes => true
  | .loadRecordFetchComplete _ => true
  | .readScenes => true
  | .readScenesSlotWritten => true
  | .putLook => true
  | .lookFetchComplete _ => true
  | .readLooks => true
  | .readLooksSlotWritten => true
  | .setHouseArea => true
  | .clearHouseLooks => true
  | .setStandard => true
  | .setPosition => true
  | .setFollow => true
  | .setPicture => true
  | .setLight => true
  | .setMonitor => true
  | .ackMonitor => true
  | .setRoute => true
  | .setLink => true
  | .wakeLink => true
  | .resetLink => true
  | .startPass => true
  | .abortPass => true
  | .setJournal => true
  | .setReports => true
  | .mark => true
  | .runWritten1 => true
  | .runWritten0 => true
  | .softReset => true
  | .powerOnReset => true
  | .boardReset => true
  | .baseWrite _ => true
  | .attentionWrite _ => true
  | .noticeMaskWrite _ => true
  | .perfEvent _ => true
  | .sampleTriple _ => true
  | .lightSampleEvent _ => true
  | .enterRest => true
  | .directiveSent _ => true
  | .wakeTimerExpiry _ => true
  | .cueTimerExpiry _ => true
  | .watchdogExpiry _ => true
  | .closeTimerExpiry _ => true
  | .autoDown _ => true
  | .headerReadComplete _ => true
  | .headerWriteComplete => true
  | .linkReadComplete _ => true
  | .blockReadComplete _ => true
  | .takenWriteComplete => true
  | .resultIndexWriteComplete => true
  | .finalWriteComplete => true
  | .abortedWriteComplete => true
  | .accessGrant => true
  | .busError => true
  | .journalWriteComplete => true
  | .reportWriteComplete => true
  | .startByte _ => true

end Sys2Proof
end

