-- ==== Sys2Proof/Tests/Slice0.lean ====
section
/-!
SUPPORT. Tests/Slice0.lean: the author's own tests. The tests `test_…` take their expected results from the manual's worked
examples and tables, which each names, or show that WellFormed refuses an ill-formed command. The tests `witness_…` show, for
each statement with hypotheses, concrete states and operands that meet them.
-/
namespace Sys2Proof.Tests
section
open Sys2Proof.Machine
-- One theorem's kernel evaluation at a time: run side by side, hundreds of them outgrow the memory limit.
set_option Elab.async false

/-! ### Small states -/

/-- The state that a command leaves. -/
def after (c : Instr) (s : State) : State :=
  match exec c s with
  | .next t => t
  | .fault _ => s
  | .refused _ => s

/-- The part RUNNING, right after a power-on reset. -/
def running : State := after .runWritten1 State.reset

/-- The low `n` bytes of a number, low byte first. -/
def le (n v : Nat) : List Nat := (List.range n).map fun i => v / 256 ^ i % 256

/-- A number of little-endian bytes. -/
def number (bytes : List Nat) : Nat := bytes.foldr (fun b n => b + 256 * n) 0

/-- An order block at 4,096 with a code and its parameter bytes from byte 12 on, NOTIFY set. -/
def block (code : BitVec 8) (bytes : List Nat) : OrderBlock := ⟨4096, 0, code, true, BitVec.ofNat 160 (number bytes)⟩

/-- `s` with an order handed to its owner. -/
def handed (b : OrderBlock) (s : State) : State := setWalker (.flight b .handed) s

/-- The state that an order leaves when its owner takes it. -/
def take (c : Instr) (code : BitVec 8) (bytes : List Nat) (s : State) : State := after c (handed (block code bytes) s)

/-- `s` with a live access of a kind under way for the walker. -/
def during (k : AccessKind) (w : Walker) (s : State) : State :=
  { setWalker w s with port := { (setWalker w s).port with access := some ⟨k, 0, [], .live⟩ } }

/-- The result that an order waits to write back. -/
def result (s : State) : Option (OutcomeCode × Nat) :=
  match s.port.walker with
  | .flight _ (.finishing r) => some (r.outcome, r.detail)
  | .flight _ .handed => none
  | .flight _ (.fetchScene _) => none
  | .flight _ (.fetchLoad _) => none
  | .flight _ (.slotScene _) => none
  | .flight _ (.fetchLook _ _) => none
  | .flight _ (.slotLook _) => none
  | .flight _ (.resultIndex _ _) => none
  | .idle => none
  | .reading _ _ => none
  | .taking _ _ => none
  | .closing _ _ _ => none
  | .aborting _ => none

/-! ### WellFormed refuses ill-formed commands -/

theorem test_wellformed_repeated_share :
    wellFormed (.fieldEvent .first [.grade, .grade, .restCount, .measure, .framers, .silence, .pass, .report, .poll]) = false := by
  decide

theorem test_wellformed_missing_share :
    wellFormed (.standInField [.grade, .restCount, .measure, .framers, .silence, .pass, .report]) = false := by decide

theorem test_wellformed_rest_before_its_count :
    wellFormed (.referenceWatchExpiry
      [.restEntry, .grade, .restCount, .measure, .framers, .silence, .pass, .report, .poll]) = false := by decide

theorem test_wellformed_auto_down_before_its_count :
    wellFormed (.fieldEvent .second
      [.grade, .restCount, .measure, .framers, .autoDown .b, .silence, .pass, .report, .poll]) = false := by decide

theorem test_wellformed_field :
    wellFormed (.fieldEvent .first
      [.timer .a, .restCount, .restEntry, .grade, .measure, .framers, .silence, .autoDown .b, .report, .poll, .pass]) = true := by
  decide

theorem test_wellformed_awake_value : wellFormed (.awake .a 2) = false ∧ wellFormed (.awake .a 1) = true := by decide

theorem test_wellformed_timecodes :
    wellFormed (.cued .a 2592000) = false ∧ wellFormed (.locked .b 2592000) = false ∧ wellFormed (.written .c 2592000) = false
      ∧ wellFormed (.cued .a 2591999) = true := by decide

theorem test_wellformed_trouble_value : wellFormed (.trouble .a 65536) = false ∧ wellFormed (.trouble .a 65535) = true := by decide

/-- AWAKE 1 with its right sum (165 + 17 + 1 = 183) is no damaged frame; with another sum it is. -/
theorem test_wellformed_damaged_frame :
    wellFormed (.damagedFrame .a 17 1 183) = false ∧ wellFormed (.damagedFrame .a 17 1 184) = true := by decide

/-! ### The scene store: A locked scene among its neighbours; a replacing load -/

/-- A CUT scene record as fetched (Layouts, Scene record): start, number, look, unity grade, gain as given. -/
def sceneBits (start scene look gain : Nat) : BitVec 512 :=
  BitVec.ofNat 512
    (start + look * 2 ^ 21 + scene * 2 ^ 32 + gain * 2 ^ 94 + gain * 2 ^ 107 + gain * 2 ^ 120
      + 512 * 2 ^ 133 + 512 * 2 ^ 143 + 512 * 2 ^ 153 + 1024 * 2 ^ 163)

/-- A stored scene with the unity grade. -/
def scene (start : Int) (scene : Nat) (look : Fin 64) (t : Transition) (locked : Bool) : Scene :=
  ⟨start, scene, unityGrade, look, t, [], 0, false, locked, none⟩

/-- Look 5 under look 2, which has no parent. -/
def twoLooks (locks : Nat) : LookTable :=
  setLook (setLook LookTable.reset 2 ⟨unityGrade, 0, 1, 1, locks⟩) 5 ⟨unityGrade, 2, 2, 0, locks⟩

/-- The example's four scenes, before and after the lock. -/
def fourScenes (locked : Bool) : State :=
  { running with
    store := [scene 100 1 0 .cut false, scene 140 2 5 (.dissolve 4) locked, scene 200 3 0 .cut false, scene 260 4 0 .cut false]
    table := twoLooks (if locked = true then 1 else 0) }

def starts (s : State) : List Int := s.store.map Scene.start

/-- A PUT SCENE whose record has been fetched. -/
def put (record : BitVec 512) (s : State) : State :=
  after (.sceneFetchComplete record) (during .sceneFetch (.flight (block 1 []) (.fetchScene 8192)) s)

theorem test_lock_scenes :
    let s := take .lockScenes 4 (le 4 140 ++ le 4 150) (fourScenes false)
    result s = some (.ok, 1) ∧ s.store = (fourScenes true).store ∧ s.table = twoLooks 1 := by decide

theorem test_unlock_scenes :
    let s := take .unlockScenes 5 (le 4 140 ++ le 4 150) (fourScenes true)
    result s = some (.ok, 1) ∧ s.store = (fourScenes false).store ∧ s.table = twoLooks 0 := by decide

theorem test_put_scene_beside_locked_scene :
    result (put (sceneBits 170 9 0 1024) (fourScenes true)) = some (.locked, 0)
      ∧ result (put (sceneBits 120 9 0 1024) (fourScenes true)) = some (.locked, 0)
      ∧ result (put (sceneBits 100 9 0 1024) (fourScenes true)) = some (.locked, 0) := by decide +kernel

theorem test_put_scene_replaces_successor :
    let s := put (sceneBits 200 9 0 1024) (fourScenes true)
    result s = some (.ok, 1) ∧ starts s = [100, 140, 200, 260] := by decide +kernel

theorem test_remove_scene :
    result (take .removeScene 2 (le 4 200) (fourScenes true)) = some (.locked, 0)
      ∧ starts (take .removeScene 2 (le 4 260) (fourScenes true)) = [100, 140, 200] := by decide +kernel

/-- The store of the example after PUT SCENE 80 and the removal of 260. -/
def withEighty : State :=
  { fourScenes true with
    store := [scene 80 8 0 .cut false, scene 100 1 0 .cut false, scene 140 2 5 (.dissolve 4) true, scene 200 3 0 .cut false] }

theorem test_clear_scenes :
    let s := take .clearScenes 3 [] withEighty
    result s = some (.ok, 3) ∧ starts s = [100, 140, 200] := by decide +kernel

/-- LOAD SCENES about to deal with its records, in the store that the first example left. -/
def loading (run : LoadRun) (s : State) : State :=
  during .loadFetch (.flight (block 6 []) (.fetchLoad run)) s

/-- One more record of the load. -/
def loadOne (s : State) (record : BitVec 512) : State :=
  after (.loadRecordFetchComplete record) { s with port := { s.port with access := some ⟨.loadFetch, 0, [], .live⟩ } }

theorem test_load_scenes :
    let s0 := loading ⟨8192, 5, 0, 0, none, false⟩ (take .clearScenes 3 [] withEighty)
    let s := [sceneBits 100 9 0 1024, sceneBits 150 9 0 1024, sceneBits 200 9 0 5000, sceneBits 300 9 70 1024,
      sceneBits 320 9 0 1024].foldl loadOne s0
    starts s = [100, 140, 200, 320] ∧ (s.store[2]?.map fun x => x.own.gain.r) = some 4095
      ∧ s.port.walker = .flight (block 6 []) (.resultIndex 0 ⟨.partially, 3⟩) := by decide +kernel

theorem test_load_scenes_replace_clears_first :
    let s := take .loadScenes 6 (le 4 8192 ++ le 2 5 ++ [1]) withEighty
    starts s = [100, 140, 200] ∧ (match s.port.walker with | .flight _ (.fetchLoad run) => run.count | _ => 0) = 5 := by decide +kernel

/-- READ SCENES writes a record whose bits lie as the layout of a scene record gives. -/
theorem test_read_scenes_record :
    let w := encodeScene { scene (-3) 7 5 (.dissolve 4) true with own := { unityGrade with lift := ⟨-1, 0, 0⟩ } } 0
    w % 2 ^ 64 = (2 ^ 21 - 3) + 5 * 2 ^ 21 + 2 ^ 31 + 7 * 2 ^ 32 + 4 * 2 ^ 48 + 2 ^ 61 ∧ w / 2 ^ 64 % 2 ^ 10 = 1023
      ∧ w / 2 ^ 163 % 2 ^ 11 = 1024 := by decide +kernel

theorem test_read_scenes_counts_slots :
    let s := { fourScenes true with port := (during .sceneSlot (.flight (block 7 []) (.slotScene ⟨140, 9, 8192, 2⟩)) running).port }
    result (after .readScenesSlotWritten s) = some (.ok, 3) := by decide +kernel

/-! ### Looks: A house chain through a session -/

/-- A look record as fetched: parent, gain, and unity else. -/
def lookBits (parent gain : Nat) : BitVec 256 :=
  BitVec.ofNat 256
    (parent + gain * 2 ^ 112 + gain * 2 ^ 128 + gain * 2 ^ 144 + 512 * 2 ^ 160 + 512 * 2 ^ 176 + 512 * 2 ^ 192 + 1024 * 2 ^ 208)

/-- A PUT LOOK whose record has been fetched. -/
def putLookRecord (i : Fin 64) (record : BitVec 256) (s : State) : State :=
  after (.lookFetchComplete record) (during .lookFetch (.flight (block 16 []) (.fetchLook i 8192)) s)

/-- The example's table after its four puts and SET HOUSE AREA. -/
def houseTable : State :=
  let s := putLookRecord 6 (lookBits 5 1024) (putLookRecord 5 (lookBits 61 1024) (putLookRecord 61 (lookBits 60 1024)
    (putLookRecord 60 (lookBits 0 1024) running)))
  take .setHouseArea 18 [8] s

theorem test_set_house_area :
    result houseTable = some (.ok, 8) ∧ houseTable.table.house = 8 ∧ (lookAt houseTable.table 6).level = 4
      ∧ (lookAt houseTable.table 61).children = 1 := by decide +kernel

theorem test_set_house_area_is_protected : result (take .setHouseArea 18 [16] houseTable) = some (.protectedLook, 0) := by
  decide +kernel

theorem test_put_look_checks :
    result (take .putLook 16 ([61, 0, 0, 0] ++ le 4 8192) houseTable) = some (.protectedLook, 0)
      ∧ result (putLookRecord 7 (lookBits 6 1024) houseTable) = some (.chain, 0)
      ∧ result (putLookRecord 5 (lookBits 0 1024) houseTable) = some (.chain, 0) := by decide +kernel

theorem test_put_look_clamps :
    let s := putLookRecord 5 (lookBits 61 5000) houseTable
    result s = some (.clamped, 3) ∧ (lookAt s.table 5).grade.gain = ⟨4095, 4095, 4095⟩ := by decide +kernel

/-- The table after PUT LOOK 9 under 61. -/
def withNine : State := putLookRecord 9 (lookBits 61 1024) houseTable

/-- READ LOOKS of a house look: unity, parent 0, level 0, its child count, and WITHHELD. -/
theorem test_read_looks_withholds :
    let w := lookRecord withNine.table 61 0
    w % 2 ^ 32 = 2 * 2 ^ 16 + 2 ^ 24 ∧ w / 2 ^ 112 % 2 ^ 16 = 1024 := by decide +kernel

theorem test_read_looks_counts_slots :
    result (after .readLooksSlotWritten (during .lookSlot (.flight (block 17 []) (.slotLook ⟨59, 4, 8192, 3⟩)) withNine))
      = some (.ok, 4) := by decide +kernel

/-- LOCK SCENES of a scene naming look 6 counts looks 6, 5, 61 and 60; then CLEAR HOUSE LOOKS is refused. -/
theorem test_clear_house_looks_locked :
    let s := take .lockScenes 4 (le 4 500 ++ le 4 500) { withNine with store := [scene 500 1 6 .cut false] }
    [(6 : Fin 64), 5, 61, 60, 9].map (fun i => (lookAt s.table i).locks) = [1, 1, 1, 1, 0]
      ∧ result (take .clearHouseLooks 19 [] s) = some (.locked, 0) := by decide +kernel

theorem test_clear_house_looks :
    let s := take .clearHouseLooks 19 [] withNine
    result s = some (.ok, 8) ∧ [(5 : Fin 64), 6, 9, 60, 61].map (fun i => (lookAt s.table i).level) = [2, 3, 2, 1, 1]
      ∧ [(5 : Fin 64), 6, 9, 60, 61].map (fun i => (lookAt s.table i).children) = [1, 0, 0, 0, 2] := by decide +kernel

/-! ### Following: The map at work; locking on, and a slip -/

/-- The follower of the examples: standard 60, PPF 4, origin 1,000, DIV 2, ODD 1. -/
def follower (perf : Int) (mode : Follow) : Follower := { Follower.reset with origin := 1000, perf := perf, mode := mode }

theorem test_cadence_map :
    [998, 999, 1000, 1001, 1002, 1003, 1004, 1005].map (startIndex (follower 0 .free)) = [-5, -3, 0, 2, 5, 7, 10, 12]
      ∧ [998, 999, 1000, 1001].map (fieldCount (follower 0 .free)) = [2, 3, 2, 3]
      ∧ startParity (follower 0 .free) 998 = .second ∧ startParity (follower 0 .free) 1004 = .first := by decide +kernel

/-- A field event on a follower. -/
def field (p : Parity) (f : Follower) : Follower := (after (.fieldEvent p []) { running with follower := f }).follower

theorem test_field_event_waits_for_parity :
    let f := field .first (follower 4010 .seeking)
    f.mode = .seeking ∧ f.record.frame = 1002 ∧ f.frameRef = false := by decide +kernel

theorem test_field_event_locks_on :
    let f := field .second (follower 4010 .seeking)
    f.mode = .locked 1002 0 ∧ f.record.mode = .locked 0 5 ∧ f.frameRef = true
      ∧ (field .first { f with perf := 4012 }).record.mode = .locked 1 6 := by decide +kernel

/-- At field 509 the account runs one frame ahead of the parked film. -/
theorem test_stand_in_field_advances_the_account :
    let f := (after (.standInField []) { running with
      follower := { follower 4019 (.locked 1004 1) with standIn := true, lastParity := some .second } }).follower
    f.mode = .locked 1005 0 ∧ f.record.mode = .locked 0 12 ∧ f.record.unlocked = true ∧ f.record.slip = false := by
  decide +kernel

/-- R60: stand-in begins with the parity opposite to the field before, UNLOCKED and REFERENCE. -/
theorem test_reference_watch_expiry :
    let s := after (.referenceWatchExpiry []) { running with follower := { follower 40 .free with lastParity := some .first } }
    s.follower.record.parity = .second ∧ s.follower.record.unlocked = true ∧ s.follower.standIn = true
      ∧ isPending .reference s = true := by decide +kernel

theorem test_perf_event_holds_at_the_limit :
    let s := after (.perfEvent .forward) { running with follower := follower 3999999 .free }
    s.follower.perf = 3999999 ∧ s.follower.heldNote = true := by decide +kernel

theorem test_set_standard :
    let s := take .setStandard 32 [50, 2] { running with follower := follower 4011 .free }
    result s = some (.ok, 0) ∧ s.follower.perf = 2004 ∧ s.follower.standard = .s50 := by decide +kernel

theorem test_set_position :
    let s := take .setPosition 33 (le 4 (2 ^ 32 - 10000)) running
    result s = some (.ok, 0) ∧ s.follower.perf = -40000
      ∧ result (take .setPosition 33 (le 4 1000000) running) = some (.range, 0) := by decide +kernel

theorem test_set_follow :
    let s := take .setFollow 34 ([1, 0, 0, 0] ++ le 4 1000 ++ [15, 1]) running
    result s = some (.ok, 0) ∧ s.follower.mode = .seeking ∧ s.follower.div = 15
      ∧ result (take .setFollow 34 ([1, 0, 0, 0] ++ le 4 1000 ++ [16, 1]) running) = some (.range, 0) := by decide +kernel

/-! ### The field grade: Per-step clamping; a trim run; the worked case -/

/-- The same figures in every channel. -/
def grade (l g m s : Int) : Grade := ⟨Rgb.same l, Rgb.same g, Rgb.same m, s⟩

theorem test_composition_clamps_at_each_look :
    let t := setLook (setLook LookTable.reset 3 ⟨grade (-200) 512 300 512, 0, 1, 1, 0⟩) 7 ⟨grade 300 2048 700 1536, 3, 2, 0, 0⟩
    composed t { scene 0 40 7 .cut false with own := grade 400 3000 800 1600 } = grade 311 2047 684 1023 := by decide +kernel

theorem test_trim_run :
    let x := { scene 0 41 0 .cut false with keys := [⟨10, ⟨100, 0, 0⟩⟩, ⟨31, ⟨-60, 0, 0⟩⟩] }
    [0, 5, 10, 12, 20, 30, 31, 500].map (fun d => (trims x d).r) = [0, 50, 100, 84, 23, -53, -60, -60] := by decide +kernel

/-- The worked case's part, RUNNING in FREE at a frame, K 4415. -/
def worked (frame : Int) : State :=
  { running with
    table := setLook LookTable.reset 5 ⟨grade 10 1100 530 1024, 0, 1, 0, 0⟩
    store := [{ scene 900 11 5 .cut false with own := grade (-20) 1000 500 1100 },
      { scene 1000 12 0 (.dissolve 3) false with own := grade 30 1200 560 900 }]
    light := { running.light with k := 4415 }
    follower := { Follower.reset with perf := 4 * frame } }

theorem test_field_grade_of_the_worked_case :
    [999, 1000, 1001, 1002, 1003].map (fun f => (after (.fieldEvent .first []) (worked f)).grade.grade)
      = [grade (-10) 1074 518 1100, grade 0 1105 528 1050, grade 10 1137 539 1000, grade 20 1168 549 950,
          grade 30 1200 560 900] := by decide +kernel

theorem test_sample_of_the_worked_case :
    let s := after (.sampleTriple ⟨600, 500, 400⟩) (after (.fieldEvent .first []) (worked 1001))
    s.grade.k = 4415 ∧ s.grade.scene = 12 ∧ s.picture.output = ⟨739, 628, 516⟩ := by decide +kernel

/-! ### The picture path: One triple through a negative scene -/

theorem test_sample_of_a_negative_scene :
    let s := { running with
      grade := ⟨7, ⟨⟨-40, 20, 0⟩, ⟨1800, 1024, 700⟩, ⟨400, 512, 700⟩, 1500⟩, 5000, true, false, 9⟩
      picture := { running.picture with haltPassage := false, legalInForce := true } }
    (after (.sampleTriple ⟨100, 300, 950⟩) s).picture.output = ⟨940, 928, 64⟩
      ∧ (after (.sampleTriple ⟨100, 300, 950⟩) { s with picture := { s.picture with legalInForce := false } }).picture.output
        = ⟨1023, 928, 0⟩
      ∧ (after (.sampleTriple ⟨100, 300, 950⟩) { s with grade := { s.grade with rest := true } }).picture.output
        = ⟨64, 64, 64⟩ := by decide +kernel

theorem test_sample_under_halt_passage :
    (after (.sampleTriple ⟨100, 300, 950⟩) State.reset).picture.output = ⟨100, 300, 950⟩ := by decide +kernel

/-- R87: no triple, no picture: code 64, from a field event and from a light sample on. -/
theorem test_output_is_blank :
    let s := { running with picture := { running.picture with output := ⟨739, 628, 516⟩ } }
    (after (.fieldEvent .first []) s).picture.output = ⟨64, 64, 64⟩
      ∧ (after (.lightSampleEvent 1900) s).picture.output = ⟨64, 64, 64⟩ := by decide +kernel

theorem test_set_picture :
    let s := take .setPicture 40 [0, 1] running
    result s = some (.ok, 0) ∧ s.picture.legalClip = false ∧ s.picture.defaultNegative = true
      ∧ result (take .setPicture 40 [2, 0] running) = some (.range, 0) := by decide +kernel

/-! ### Light: A block through rejected readings; parking on a frame -/

theorem test_light_samples_complete_a_block :
    let s := [1900, 4095, 1890, 350, 1910, 1905].foldl (fun s v => after (.lightSampleEvent v) s)
      { running with light := { running.light with blockSize := 4, k := 4415, wear := 1000000000 } }
    s.light.k = 4412 ∧ s.light.blockCount = 0 ∧ s.light.wear = 1000007605 ∧ s.light.lowRun = 0 := by decide +kernel

theorem test_light_sample_low_run :
    let s := after (.lightSampleEvent 399) { running with light := { running.light with lowRun := 15 } }
    s.light.lowRun = 16 ∧ s.light.lowReported = true ∧ isPending .tube s = true := by decide +kernel

/-- Five fields on one frame under rest limit 5, after a field of another frame. -/
theorem test_enter_rest :
    let s0 := { running with
      follower := { Follower.reset with perf := 800 }
      light := { running.light with restLimit := 5, lastFrame := some 199, blockCount := 3, blockSum := 99 } }
    let parked := fun n => (List.replicate n (Instr.fieldEvent .first [])).foldl (fun s c => after c s) s0
    (after .enterRest (parked 5)).light.rest = false ∧ (after .enterRest (parked 6)).light.rest = true
      ∧ (after .enterRest (parked 6)).light.blockCount = 0 := by decide +kernel

theorem test_set_light :
    let s := take .setLight 48 (le 2 4094 ++ [64, 0] ++ le 2 256 ++ le 2 9 ++ le 5 70000 ++ [1] ++ le 5 5) running
    result s = some (.ok, 0) ∧ s.light.wear = 5 ∧ s.light.service = 70000 ∧ s.light.floor = 4094
      ∧ result (take .setLight 48 (le 2 4095 ++ [64, 0] ++ le 2 256) running) = some (.range, 0) := by decide +kernel

/-- R109: a field event taken before SET LIGHT is judged by the old rest limit. -/
theorem test_set_light_after_a_field :
    let s := { running with light := { running.light with restCount := 7, restDue := true } }
    let t := take .setLight 48 (le 2 1 ++ [1, 0] ++ le 2 256 ++ le 2 5) s
    t.light.restLimit = 5 ∧ (after .enterRest t).light.rest = false ∧ (after (.fieldEvent .first []) t).light.rest = false
      ∧ (take .setLight 48 (le 2 1 ++ [1, 0] ++ le 2 256 ++ le 2 5)
        { s with light := { s.light with restLimit := 7 } }).light.rest = true := by decide +kernel

/-! ### Levels: A recorded scene change with latched flags; one averaged block -/

/-- A finished channel with a whole field's samples. -/
def chanOf (min max : Int) (above below : Nat) : ChanMeas := ⟨174960, min, max, 0, above, below⟩

/-- A measurement of a recorded field with the same extremes in green and blue. -/
def measured (field : BitVec 32) (frame start : Int) (scene : Nat) (r b : ChanMeas) : Measurement :=
  ⟨field, frame, some start, scene, true, false, 174960, ⟨r, chanOf 64 800 0 0, b⟩⟩

/-- The part in a pass that is RECORDING. -/
def recordingPass : Pass :=
  { state := .recording, inFrame := 1000, outFrame := 1100, preroll := 30, tcIn := ⟨0, 0, 0⟩, inIndex := 0, rollIndex := -60,
    endIndex := 500, needed := ⟨true, false, false⟩, cuesIssued := true, groups := Vector.replicate 16 .unused,
    recording := ⟨false, false, false⟩, lastScene := none, lastIndex := none, cause := none }

/-- The example's monitor: limits 940 and 64, count limit 100, FIELD, LATCH, with flags, a tally and an open measurement. -/
def monitored (flags : AlertFlags) (t : Tally) (m : Measurement) : State :=
  { running with
    journal := { running.journal with setting := some ⟨4096, 16, 16⟩ }
    pass := some recordingPass
    level :=
      { set := ⟨Rgb.same 940, Rgb.same 64, 100, .field, 1, .latch, true⟩, openMeas := some m, last := none,
        block := LevelBlock.empty, flags := flags, tally := some t } }

theorem test_field_judging_latches :
    let s := runAct .measure (monitored ⟨⟨true, false, false⟩, Rgb.same false⟩
      ⟨some 1000, 12, 1, ⟨⟨true, false, false⟩, Rgb.same false⟩, 802, 1008⟩
      (measured 803 1009 1000 12 (chanOf 64 900 90 0) (chanOf 0 800 0 200)))
    s.level.flags.code = 33 ∧ (s.level.tally.map fun t => (t.count, t.union.code)) = some (2, 33) ∧ isPending .alert s = true := by
  decide +kernel

/-- Field 805: the tally of scene 12 closes with its EXCURSION entry and one of scene 13 opens. -/
theorem test_tally_closes_at_a_scene_change :
    let flags := flagsOfCode 33
    let s := runAct .measure (monitored flags ⟨some 1000, 12, 2, flags, 804, 1009⟩
      (measured 805 1010 1010 13 (chanOf 64 800 0 0) (chanOf 64 800 0 0)))
    (s.journal.queue.map fun e => (e.kind, e.scene, e.field, e.frame, e.value1, e.value2))
        = [(.excursion, 12, 804, 1009, 2, 33)]
      ∧ (s.level.tally.map fun t => (t.number, t.count)) = some (13, 0) ∧ s.level.flags.code = 33 := by decide +kernel

theorem test_averaged_block :
    let s0 := monitored AlertFlags.clear ⟨some 1000, 12, 0, AlertFlags.clear, 904, 1009⟩
      (measured 905 1010 1000 12 (chanOf 75 890 0 0) (chanOf 64 800 0 0))
    let s := runAct .measure { s0 with level := { s0.level with
      set := ⟨Rgb.same 900, Rgb.same 64, 0, .averaged, 4, .follow, true⟩
      block := ⟨3, ⟨2750, 2400, 2400⟩, ⟨210, 192, 192⟩⟩ } }
    s.level.flags.code = 1 ∧ s.level.block = LevelBlock.empty ∧ isPending .alert s = true := by decide +kernel

theorem test_ack_monitor :
    let s := take .ackMonitor 57 [63] { running with level := { running.level with flags := flagsOfCode 33 } }
    result s = some (.ok, 33) ∧ s.level.flags = AlertFlags.clear := by decide +kernel

theorem test_set_monitor :
    let bytes := le 2 940 ++ le 2 940 ++ le 2 940 ++ le 2 64 ++ le 2 64 ++ le 2 64 ++ le 2 100
    let s := take .setMonitor 56 (bytes ++ [1, 4, 1, 1]) { running with level := { running.level with flags := flagsOfCode 33 } }
    result s = some (.ok, 33) ∧ s.level.set = ⟨Rgb.same 940, Rgb.same 64, 100, .averaged, 4, .latch, true⟩
      ∧ result (take .setMonitor 56 (bytes ++ [1, 3, 1, 1]) running) = some (.range, 0) := by decide +kernel

/-! ### Links: A cue that goes unanswered; a dropped frame -/

/-- The part RUNNING with a record of link A and the latest field number. -/
def linked (now : BitVec 32) (r : LinkRec) : State :=
  { running with
    links := ⟨r, LinkRec.reset, LinkRec.reset⟩
    journal := { running.journal with setting := some ⟨4096, 16, 16⟩ }
    follower := { Follower.reset with fields := now, record := { PosRecord.reset with field := now } } }

/-- Link A ROLLING or RECORDING with its framer in a frame. -/
def recorder (st : LinkState) (start : BitVec 32) : LinkRec :=
  { LinkRec.reset with
    state := st, owner := .pass, expectedTc := 108002, lockedMark := true, framer := .assembling 5005 [165]
    timer := some ⟨.watchdog, start, 4⟩ }

theorem test_awake :
    (after (.awake .a 1) (linked 9006 { LinkRec.reset with
      state := .waking, framer := .assembling 9006 [165], timer := some ⟨.wake, 9000, 120⟩ })).links.a.state = .idle := by decide +kernel

/-- Link B's cue timer of the example: still running at count 1,799, expired at 1,800. -/
theorem test_cue_timer :
    let r := { LinkRec.reset with state := .cueing, requestedTc := 107700, timer := some ⟨.cue, 9010, 1800⟩ }
    let s := after (.cueTimerExpiry .a) (linked 10810 r)
    (after (.cueTimerExpiry .a) (linked 10809 r)).links.a.state = .cueing
      ∧ s.links.a.state = .fault ∧ s.links.a.cause = some .noAnswer ∧ s.links.a.queue = [] ∧ isPending .link s = true
      ∧ (s.journal.queue.map fun e => (e.kind, e.value1, e.value2, e.timecode)) = [(.linkFault, 2, 3, some 107700)] := by
  decide +kernel

theorem test_cued :
    (after (.cued .a 107700) (linked 9400 { LinkRec.reset with
      state := .cueing, requestedTc := 107700, framer := .assembling 9400 [165], timer := some ⟨.cue, 9010, 1800⟩ })).links.a.state
      = .armed := by decide +kernel

/-- A CUED with a bad sum: the framer discards it and hunts again. -/
theorem test_damaged_frame :
    let s := after (.damagedFrame .a 18 107700 0) (linked 9400 { LinkRec.reset with state := .cueing, framer := .assembling 9400 [165] })
    s.links.a.state = .cueing ∧ s.links.a.framer = .hunting := by decide +kernel

theorem test_start_byte :
    (after (.startByte .a) (linked 9400 LinkRec.reset)).links.a.framer = .assembling 9400 [165] := by decide +kernel

/-- R133: a start byte within a frame is gathered, and bytes of the next message complete a frame that lacks them: AWAKE 1 with
its sum 183, or with another. -/
theorem test_frame_across_commands :
    let s (bytes : List Byte) : State := linked 9400 { LinkRec.reset with state := .waking, framer := .assembling 9400 bytes }
    (after (.startByte .a) (s [165, 17, 1])).links.a.framer = .assembling 9400 [165, 17, 1, 165]
      ∧ (after (.damagedFrame .a 0 183 0) (s [165, 17, 1, 0])).links.a.state = .idle
      ∧ (after (.damagedFrame .a 0 182 0) (s [165, 17, 1, 0])).links.a.state = .waking := by decide +kernel

theorem test_written_matches :
    let s := after (.written .a 108002) (linked 5005 (recorder .recording 5003))
    s.links.a.state = .recording ∧ s.links.a.expectedTc = 108003 ∧ s.links.a.timer = some ⟨.watchdog, 5005, 4⟩ := by decide +kernel

theorem test_written_disagrees :
    let s := after (.written .a 108003) (linked 5005 (recorder .recording 5003))
    s.links.a.state = .fault ∧ s.links.a.cause = some .timecode ∧ s.links.a.queue = [.out] ∧ s.links.a.timer = none
      ∧ (s.journal.queue.map fun e => (e.link, e.value1, e.value2, e.timecode)) = [(some .a, 4, 108003, some 108002)] := by
  decide +kernel

theorem test_watchdog :
    let s := after (.watchdogExpiry .a) (linked 5007 (recorder .recording 5003))
    (after (.watchdogExpiry .a) (linked 5006 (recorder .recording 5003))).links.a.state = .recording
      ∧ s.links.a.cause = some .stall ∧ (s.journal.queue.map fun e => (e.value2, e.timecode)) = [(6, some 108002)] := by
  decide +kernel

theorem test_locked_report :
    (after (.locked .a 5) (linked 5005 { recorder .rolling 5003 with lockedMark := false })).links.a.lockedMark = true := by
  decide +kernel

theorem test_done :
    (after (.done .a 0) (linked 5005 (recorder .closing 5003))).links.a.state = .idle := by decide +kernel

/-- R136, R140: a recorder that does not answer faults with NO_ANSWER and the state's number. -/
theorem test_wake_and_close_timers :
    ((after (.wakeTimerExpiry .a) (linked 9120 { LinkRec.reset with
        state := .waking, timer := some ⟨.wake, 9000, 120⟩ })).journal.queue.map fun e => (e.value1, e.value2)) = [(2, 1)]
      ∧ ((after (.closeTimerExpiry .a) (linked 300 { LinkRec.reset with
        state := .closing, timer := some ⟨.close, 0, 300⟩ })).journal.queue.map fun e => (e.value1, e.value2)) = [(2, 7)] := by
  decide +kernel

theorem test_auto_down :
    let s := after (.autoDown .a) (linked 5005 { LinkRec.reset with state := .idle, owner := .pass, silence := 1800, downDue := true })
    s.links.a.state = .down ∧ s.links.a.queue = [.standby] := by decide +kernel

theorem test_directive_sent :
    (after (.directiveSent .a) (linked 1 { LinkRec.reset with queue := [.wake, .roll] })).links.a.queue = [.roll] := by
  decide +kernel

/-- RESET LINK gives the fault cause's number (2, NO_ANSWER) and issues STANDBY; WAKE LINK then wakes with owner ORDER. -/
theorem test_reset_link_and_wake_link :
    let s := take .resetLink 67 [1] (linked 10810 { LinkRec.reset with state := .fault, cause := some .noAnswer })
    let t := take .wakeLink 66 [1] s
    result s = some (.ok, 2) ∧ s.links.a.state = .down ∧ s.links.a.queue = [.standby]
      ∧ result t = some (.ok, 0) ∧ t.links.a.state = .waking ∧ t.links.a.owner = .order := by decide +kernel

theorem test_wake_link_in_fault :
    result (take .wakeLink 66 [1] (linked 1 { LinkRec.reset with state := .fault })) = some (.mode, 8) := by decide +kernel

theorem test_set_link :
    let s := take .setLink 65 ([4, 1] ++ le 2 1 ++ le 2 65535 ++ le 2 2 ++ le 2 0 ++ [15]) running
    result s = some (.ok, 0) ∧ s.links.c.autoWake = true ∧ s.links.c.cueLimit = 65535 ∧ s.links.c.watchdogLimit = 15
      ∧ result (take .setLink 65 ([4, 1] ++ le 2 0 ++ le 2 1 ++ le 2 2 ++ le 2 0 ++ [15]) running) = some (.range, 0) := by
  decide +kernel

/-- R142: a field taken before SET LINK is judged by the old silence limit, a lowered limit from the next field on. -/
theorem test_set_link_after_a_field :
    let idle (n limit : Nat) : State := linked 5005 { LinkRec.reset with
      state := .idle, owner := .pass, silence := n, silenceLimit := limit, downDue := true }
    let set (limit : Nat) : State → State := take .setLink 65 ([1, 1] ++ le 2 9 ++ le 2 9 ++ le 2 9 ++ le 2 limit ++ [4])
    let down (s : State) : LinkState := (after (.autoDown .a) s).links.a.state
    down (set 3 (idle 5 10)) = .idle ∧ down (runAct .silence (set 3 (idle 5 10))) = .down
      ∧ (set 20 (idle 10 10)).links.a.state = .down ∧ (set 20 (idle 10 10)).links.a.silenceLimit = 20 := by decide +kernel

/-- R131: CUE 107,700 on the line: 165, 2, the value low byte first, and the sum of the five bytes. -/
theorem test_message :
    (Directive.cue 107700).message = BitVec.ofNat 48 (number [165, 2, 180, 164, 1, (165 + 2 + 180 + 164 + 1) % 256]) := by
  decide +kernel

/-! ### Passes: A pass across a route change and a spill -/

/-- The example's part before START PASS, after field 70,100 (index 100, frame 1,040). -/
def beforePass : State :=
  let x (start : Int) (n : Nat) (g : Fin 16) : Scene := { scene start n 0 .cut false with group := g }
  { running with
    store := [x 1150 20 1, x 1205 21 2, x 1207 22 3, x 1300 23 1]
    routes := ((Vector.replicate 16 Route.invalid).set 1 ⟨⟨true, true, false⟩, .all, false, true⟩).set 2
      ⟨⟨true, true, false⟩, .any, false, true⟩
    links := ⟨{ LinkRec.reset with state := .idle, owner := .order }, LinkRec.reset, LinkRec.reset⟩
    journal := { running.journal with setting := some ⟨4096, 16, 16⟩ }
    follower := { follower 4160 (.locked 1040 0) with
      fields := 70100, record := ⟨70100, 1040, .first, .locked 0 100, false, false, false⟩ } }

/-- START PASS's parameters: in, out, P, and the timecodes of A, B and C. -/
def passBytes (inFrame outFrame p a b c : Nat) : List Nat :=
  le 4 inFrame ++ le 4 outFrame ++ le 2 p ++ le 3 a ++ le 3 b ++ le 3 c

/-- The example's START PASS. -/
def started : State := take .startPass 80 (passBytes 1200 1209 30 108000 54000 0) beforePass

theorem test_start_pass :
    result started = some (.ok, 3)
      ∧ (started.pass.map fun p => (p.inIndex, p.rollIndex, p.endIndex)) = some (500, 440, 525)
      ∧ (started.pass.map fun p => [p.groups[1], p.groups[2], p.groups[3], p.groups[4]])
        = some [.awaited, .awaited, .spilled, .unused]
      ∧ started.links.a.state = .idle ∧ started.links.b.state = .waking
      ∧ (started.journal.queue.map fun e => (e.kind, e.frame, e.value1, e.value2)) = [(.passStart, 1200, 1209, 3)] := by
  decide +kernel

/-- R142: a START PASS that comes before an auto-down is decided keeps the link IDLE, with its count at 0. -/
theorem test_start_pass_withdraws_auto_down :
    let s := take .startPass 80 (passBytes 1200 1209 30 108000 54000 0) { beforePass with
      links := { beforePass.links with a := { beforePass.links.a with owner := .pass, silence := 1800, downDue := true } } }
    s.links.a.silence = 0 ∧ (after (.autoDown .a) s).links.a.state = .idle ∧ s.links.a.held = true := by decide +kernel

/-- A field of the pass: its number, frame and index, with the links as given. -/
def passField (n : Nat) (frame : Int) (c : Nat) (links : PerLink LinkRec) (s : State) : State :=
  runAct .pass { s with
    links := links
    follower := { s.follower with
      record := ⟨BitVec.ofNat 32 (70000 + n), frame, indexParity n, .locked c n, false, false, false⟩ } }

/-- A held link in a state. -/
def heldIn (st : LinkState) : LinkRec := { LinkRec.reset with state := st, held := true, owner := .pass, lockedMark := true }

theorem test_pass_cues :
    let s := passField 111 1044 1 ⟨heldIn .idle, heldIn .idle, LinkRec.reset⟩ started
    s.links.a.queue = [.cue 107970] ∧ s.links.b.queue = [.cue 53970] ∧ s.links.b.state = .cueing := by decide +kernel

/-- The pass as it stands from the roll on, resolved at field 70,301. -/
def rolledPass : State :=
  passField 440 1176 0 ⟨heldIn .armed, heldIn .armed, LinkRec.reset⟩
    (passField 301 1120 1 ⟨heldIn .armed, heldIn .armed, LinkRec.reset⟩
      (passField 111 1044 1 ⟨heldIn .idle, heldIn .idle, LinkRec.reset⟩ started))

theorem test_pass_resolves_and_rolls :
    (rolledPass.pass.map fun p => (p.state, p.groups[1], p.groups[2]))
        = some (.rolling, .resolved ⟨true, true, false⟩ .all false, .resolved ⟨true, false, false⟩ .any false)
      ∧ rolledPass.links.a.queue = [.roll] ∧ rolledPass.links.b.state = .rolling := by decide +kernel

/-- The in-point, field 70,500. -/
def recordedPass : State := passField 500 1200 0 ⟨heldIn .rolling, heldIn .rolling, LinkRec.reset⟩ rolledPass

theorem test_pass_in_point :
    (recordedPass.pass.map fun p => (p.state, p.recording)) = some (.recording, ⟨true, true, false⟩)
      ∧ recordedPass.links.a.expectedTc = 108000 ∧ recordedPass.links.b.expectedTc = 54000
      ∧ (recordedPass.journal.queue.drop 1).map (fun e => (e.kind, e.link, e.timecode))
        = [(.scene, none, none), (.editIn, some .a, some 108000), (.editIn, some .b, some 54000)] := by decide +kernel

/-- Fields 70,512 (group 2) and 70,518 (group 3 spilled). -/
theorem test_pass_edits :
    let s := passField 512 1205 0 recordedPass.links recordedPass
    let t := passField 518 1207 1 s.links { s with journal := { s.journal with queue := [] } }
    (s.pass.map fun p => p.recording) = some ⟨true, false, false⟩ ∧ s.links.b.state = .rolling
      ∧ (s.journal.queue.drop 4).map (fun e => (e.kind, e.scene, e.timecode)) = [(.scene, 21, none), (.editOut, 20, some 54006)]
      ∧ t.journal.queue.map (fun e => (e.kind, e.scene, e.timecode, e.value2))
        = [(.scene, 22, none, 3), (.spill, 22, none, 3), (.editOut, 21, some 108009, 2)] := by decide +kernel

theorem test_pass_out_point_and_end :
    let s := passField 526 1210 1 recordedPass.links recordedPass
    let t := passField 600 1240 0 ⟨heldIn .idle, heldIn .idle, LinkRec.reset⟩ s
    (s.pass.map fun p => (p.state, p.cause)) = some (.closing, none) ∧ s.links.a.state = .closing ∧ t.pass = none
      ∧ (t.journal.queue.getLast?.map fun e => (e.kind, e.value1, e.value2)) = some (.passEnd, 0, 0)
      ∧ isPending .pass t = true := by decide +kernel

/-- Losing link B after field 70,507. -/
theorem test_trouble_aborts_the_pass :
    let s := passField 507 1203 0 recordedPass.links recordedPass
    let t := after (.trouble .b 17) { s with
      links := { s.links with b := { s.links.b with framer := .assembling 70507 [165] } }
      journal := { s.journal with queue := [] } }
    t.links.b.cause = some .trouble ∧ t.links.b.recorderCode = 17
      ∧ (t.pass.map fun p => (p.state, p.cause)) = some (.closing, some .linkFault) ∧ t.links.a.state = .closing
      ∧ t.journal.queue.map (fun e => (e.kind, e.link, e.timecode, e.value1))
        = [(.linkFault, some .b, none, 7), (.editOut, some .a, some 108003, 507)] := by decide +kernel

theorem test_abort_pass :
    result (take .abortPass 81 [] running) = some (.noPass, 0)
      ∧ result (take .abortPass 81 [] started) = some (.ok, 1)
      ∧ ((take .abortPass 81 [] started).pass.map fun p => p.cause) = some (some .order) := by decide +kernel

theorem test_set_route :
    let s := take .setRoute 64 [15, 3, 1, 0, 1] running
    result s = some (.ok, 2) ∧ s.routes[15] = ⟨⟨true, true, false⟩, .any, false, true⟩
      ∧ result (take .setRoute 64 [15, 3, 1, 1, 1] running) = some (.range, 0) := by decide +kernel

/-! ### The exchange area: A walk after a soft reset -/

/-- A block as read: link, code, flags, state. -/
def blockBits (link code flags state : Nat) : BitVec 256 :=
  BitVec.ofNat 256 (link + code * 2 ^ 32 + flags * 2 ^ 40 + state * 2 ^ 48)

/-- Complete the access under way of a kind with a command. -/
def completing (k : AccessKind) (c : Instr) (s : State) : State :=
  after c { s with port := { s.port with access := some ⟨k, 0, [], .live⟩ } }

/-- The walk up to the TAKEN write of the MARK. -/
def walked : State :=
  let s0 := { running with port := { running.port with firstOrder := 4096 } }
  let s1 := completing .headerWrite .headerWriteComplete s0
  let s2 := completing .blockRead (.blockReadComplete (blockBits 4128 98 0 3)) s1
  let s3 := completing .blockRead (.blockReadComplete (blockBits 4160 6 0 2)) s2
  let s4 := completing .abortedWrite .abortedWriteComplete s3
  completing .takenWrite .takenWriteComplete (completing .blockRead (.blockReadComplete (blockBits 0 98 1 1)) s4)

theorem test_walk :
    walked.port.followPoint = 4128 ∧ walked.port.finished = 1 ∧ walked.port.walker = .flight ⟨4160, 0, 98, true, 0⟩ .handed := by
  decide +kernel

theorem test_mark_finishes :
    let s := completing .finalWrite .finalWriteComplete (after .mark walked)
    s.port.followPoint = 4160 ∧ s.port.finished = 2 ∧ isPending .order s = true ∧ s.port.walker = .idle := by decide +kernel

/-- R174: a broken link raises CHAIN once. -/
theorem test_broken_link :
    let s := completing .linkRead (.linkReadComplete 4100) running
    let t := completing .linkRead (.linkReadComplete 4100) { s with port := { s.port with attention := 0 } }
    isPending .chain s = true ∧ s.port.walker = .idle ∧ isPending .chain t = false := by decide +kernel

theorem test_header_read :
    let s := completing .headerRead (.headerReadComplete 0x0000123400001000) running
    s.port.firstOrder = 4096 ∧ s.journal.taken = 0x1234 ∧ s.port.poll = .headerWrite := by decide +kernel

theorem test_result_index_before_final :
    result (completing .resultIndex .resultIndexWriteComplete
      (setWalker (.flight (block 6 []) (.resultIndex 0 ⟨.partially, 3⟩)) running)) = some (.partially, 3) := by decide +kernel

/-- The final write: state, outcome and detail count in bytes 6 to 11 of the block. -/
theorem test_final_write_bytes :
    let s := { setWalker (.flight (block 6 []) (.finishing ⟨.partially, 3⟩)) running with
      port := { (setWalker (.flight (block 6 []) (.finishing ⟨.partially, 3⟩)) running).port with base := 2 } }
    (formAccess .order s 0).cells.map (fun c => (c.1, c.2.toNat))
      = [(135174, 3), (135175, 0), (135176, 2), (135177, 0), (135178, 3), (135179, 0)] := by decide +kernel

/-- R178: the high class first; within a class the one granted less recently. -/
theorem test_access_grant :
    let s := { setWalker (.reading 4096 0) running with
      port := { (setWalker (.reading 4096 0) running).port with poll := .headerRead }
      journal := { running.journal with setting := some ⟨4096, 16, 16⟩, queue := [entryNow .wear running] } }
    chosen s = some .journal ∧ chosen { s with port := { s.port with lastHigh := .journal } } = some .poll
      ∧ chosen { s with port := { s.port with poll := .idle }, journal := running.journal } = some .order := by decide +kernel

theorem test_journal_write :
    let s0 := { running with
      journal := { running.journal with setting := some ⟨4096, 16, 1⟩, queue := [entryNow .wear running] } }
    let s := completing (.journal true true) .journalWriteComplete s0
    s.journal.fill = 1 ∧ s.journal.queue = [] ∧ isPending .journal s = true := by decide +kernel

/-- A journal entry's bytes (Layouts, Journal entry): WEAR 12 with its values at bytes 20 and 24. -/
theorem test_journal_entry_bytes :
    let w := encodeEntry { entryNow .wear running with value1 := 7, value2 := -1, scene := 9 } 5 0
    w % 2 ^ 32 = 12 ∧ w / 2 ^ 128 = 9 + 5 * 2 ^ 16 + 7 * 2 ^ 32 + (2 ^ 32 - 1) * 2 ^ 64 := by decide +kernel

theorem test_report_write :
    (completing (.report 3) .reportWriteComplete running).reports.lastSlot = 3 := by decide +kernel

/-- The field report of the worked case at frame 1,001: bytes 8 to 19 (Layouts, Field report). -/
theorem test_field_report :
    let s0 := { worked 1001 with reports := ⟨some ⟨4096, 5⟩, 65535, none⟩ }
    let s := after (.fieldEvent .second []) { s0 with follower := { s0.follower with fields := 6 } }
    (s.reports.waiting.map fun r => (r.slot, r.offset, r.bytes.toNat))
      = some (2, 4160, 7 + 1001 * 2 ^ 32 + 2 ^ 56 + 12 * 2 ^ 64
          + (1137 + 1137 * 2 ^ 12 + 1137 * 2 ^ 24 + 10 * 2 ^ 36 + 539 * 2 ^ 46 + 1000 * 2 ^ 56 + 4415 * 2 ^ 67) * 2 ^ 80) := by
  decide +kernel

theorem test_set_journal :
    let s := take .setJournal 96 (le 4 4096 ++ le 2 4096 ++ le 2 4096) running
    result s = some (.ok, 0) ∧ s.journal.setting = some ⟨4096, 4096, 4096⟩
      ∧ result (take .setJournal 96 (le 4 32 ++ le 2 16 ++ le 2 1) running) = some (.range, 0) := by decide +kernel

theorem test_set_reports :
    let s := take .setReports 97 (le 4 64 ++ [64, 1]) running
    result s = some (.ok, 0) ∧ s.reports.setting = some ⟨64, 64⟩
      ∧ result (take .setReports 97 (le 4 64 ++ [1, 1]) running) = some (.range, 0) := by decide +kernel

theorem test_bus_error_on_a_fetch :
    result (after .busError (during .sceneFetch (.flight (block 1 []) (.fetchScene 8192)) running)) = some (.busFault, 0) := by
  decide +kernel

theorem test_bus_error_halts :
    let s := after .busError (during .headerRead .idle { running with port := { running.port with poll := .headerRead } })
    s.port.running = false ∧ s.port.haltCause = .bus ∧ isPending .bus s = true := by decide +kernel

theorem test_attention :
    let s := { running with port := { running.port with attention := 0x1FF, mask := 1 } }
    let t := after (.attentionWrite 0x1FE) s
    noticeLine s = true ∧ t.port.attention = 1 ∧ noticeLine t = false := by decide +kernel

/-- R183: a poll that had begun before the write to ATTENTION does not end the holdoff; the next one does. -/
theorem test_holdoff_waits_for_a_later_poll :
    let polling (s : State) : State := runAct .poll { s with port := { s.port with access := none } }
    let done (s : State) : State :=
      completing .linkRead (.linkReadComplete 0) { s with port := { s.port with poll := .linkRead } }
    let s := done (after (.attentionWrite 0) (polling { running with port := { running.port with attention := 1, mask := 1 } }))
    noticeLine s = false ∧ noticeLine (polling s) = false ∧ noticeLine (done (polling s)) = true := by decide +kernel

/-- R169: what a write to CONTROL is, by bits 1 and 0; IDENT takes none. -/
theorem test_control_write :
    [0, 1, 2, 3].map (fun v => writeCommand 8 v) = [some .runWritten0, some .runWritten1, some .softReset, some .softReset]
      ∧ writeCommand 0 1 = none ∧ (sendWrite 12 7 State.reset).pending = [.attentionWrite 7]
      ∧ readRegister 4 { running with port := { running.port with base := 0xABCD } } = some 0xABCD0000
      ∧ readRegister 20 running = none := by decide +kernel

theorem test_registers :
    (after (.baseWrite 0xABCD1234) State.reset).port.base = 0xABCD ∧ (after (.baseWrite 0xABCD1234) running).port.base = 0
      ∧ (after (.noticeMaskWrite 0xFFFFFFFF) running).port.mask = 0x1FF := by decide +kernel

/-- R171: RUN 0 puts a link that records DOWN with OUT and STANDBY, and an order in flight is to be written ABORTED. -/
theorem test_run_0 :
    let s := after .runWritten0 (handed (block 6 []) recordedPass)
    s.port.running = false ∧ s.port.haltCause = .order ∧ s.pass = none ∧ s.links.a.state = .down
      ∧ s.links.a.queue.drop 1 = [.out, .standby] ∧ s.port.walker = .aborting (block 6 []) := by decide +kernel

theorem test_soft_reset :
    let s := after .softReset { fourScenes true with port := { running.port with base := 7 } }
    starts s = [100, 140, 200, 260] ∧ s.port.base = 7 ∧ s.port.resetKind = .soft ∧ (lookAt s.table 5).locks = 1 := by decide +kernel

theorem test_board_reset :
    let s := after .boardReset { fourScenes true with light := { running.light with wear := 99 } }
    s.store = [] ∧ (lookAt s.table 5).locks = 0 ∧ (lookAt s.table 5).level = 2 ∧ s.light.wear = 99
      ∧ s.port.resetKind = .board := by decide +kernel

theorem test_power_on_reset : after .powerOnReset { fourScenes true with freeIndex := 0 } = State.reset := by decide +kernel

/-- An empty queue idles; a waiting command is taken from its front. -/
theorem test_step :
    step State.reset = .next State.reset
      ∧ step { State.reset with pending := [.runWritten1, .mark] } = .next { running with pending := [.mark] } :=
  ⟨rfl, rfl⟩

/-! ### Witnesses: the hypotheses of the statements can be met -/

/-- An order with these parameter bytes is handed to its owner in `s`, and `P` holds of its block and of the state. -/
abbrev can (code : BitVec 8) (bytes : List Nat) (s : State) (P : OrderBlock → State → Prop) : Prop :=
  Handed (handed (block code bytes) s) (block code bytes) code ∧ P (block code bytes) (handed (block code bytes) s)

/-- A live access of kind `k` is under way in `s` for a walker at `w`, and `P` holds of the state. -/
abbrev meets (k : AccessKind) (w : Walker) (s : State) (P : State → Prop) : Prop :=
  Live (during k w s) ⟨k, 0, [], .live⟩ k ∧ (during k w s).port.walker = w ∧ P (during k w s)

theorem all_links {P : Link → Prop} (h : P .a ∧ P .b ∧ P .c) : ∀ l, P l := by
  intro l
  cases l
  · exact h.1
  · exact h.2.1
  · exact h.2.2

theorem witness_StepRunsFrontCommand :
    { State.reset with pending := [Instr.mark] }.pending = Instr.mark :: [] ∧ State.reset.pending = [] := by decide +kernel

theorem witness_SceneOrdersRequestTheirFetches_put :
    can 1 (le 4 1048512) started (fun _ s => s.pass ≠ none)
      ∧ can 1 (le 4 1048544) running (fun b s => s.pass = none ∧ ¬ OffsetOk (param b 12 4) 64)
      ∧ can 1 (le 4 1048512) running (fun b s => s.pass = none ∧ OffsetOk (param b 12 4) 64) := by decide +kernel

theorem witness_SceneOrdersRequestTheirFetches_load :
    let ok (b : OrderBlock) := (1 ≤ param b 16 2 ∧ param b 16 2 ≤ 2048) ∧ OffsetOk (param b 12 4) (64 * param b 16 2)
    can 6 (le 4 0 ++ le 2 1) started (fun _ s => s.pass ≠ none)
      ∧ can 6 (le 4 917504 ++ le 2 2048 ++ [2]) running (fun b s => s.pass = none ∧ ¬ (ok b ∧ param b 18 1 ≤ 1))
      ∧ can 6 (le 4 917504 ++ le 2 2048 ++ [0]) running (fun b s => s.pass = none ∧ ok b ∧ param b 18 1 = 0)
      ∧ can 6 (le 4 917504 ++ le 2 2048 ++ [1]) running (fun b s => s.pass = none ∧ ok b ∧ param b 18 1 = 1) := by
  decide +kernel

/-- Where PUT SCENE stands when its record has been fetched. -/
abbrev putWalker : Walker := .flight (block 1 []) (.fetchScene 8192)

/-- A transition within its range. -/
def transitionFits : Transition → Bool
  | .cut => true
  | .dissolve n => decide (1 ≤ n ∧ n ≤ 255)

/-- A record within its ranges, as one test. -/
def sceneFits (x : Scene) : Bool :=
  decide (FrameOk x.start ∧ 1 ≤ x.number ∧ x.number ≤ 65535 ∧ x.keys.length ≤ 4 ∧ keysRise 0 x.keys = true
    ∧ (∀ k ∈ x.keys, k.offset ≤ 65535)) && transitionFits x.transition

theorem sceneOk_of_fits {x : Scene} (h : sceneFits x = true) : SceneOk x := by
  obtain ⟨h, t⟩ := Bool.and_eq_true_iff.mp h
  obtain ⟨a, b, c, d, e, f⟩ := of_decide_eq_true h
  refine ⟨a, b, c, d, e, f, ?_⟩
  cases hx : x.transition with
  | cut => trivial
  | dissolve n =>
    rw [hx] at t
    exact of_decide_eq_true t

theorem storeOk_of_fits {store : List Scene} (h : store.length ≤ 2048) (p : store.Pairwise fun x y => x.start < y.start)
    (f : ∀ x ∈ store, sceneFits x = true) : StoreOk store :=
  ⟨h, p, fun x hx => sceneOk_of_fits (f x hx)⟩

/-- A full store. -/
def fullStore : State := { running with store := (List.range 2048).map fun i => scene (2 * i) 1 0 .cut false }

theorem witness_FetchedSceneIsPut :
    meets .sceneFetch putWalker (fourScenes true) (fun _ => RecordFaulty (decodeScene (sceneBits 300 9 64 1024)))
      ∧ meets .sceneFetch putWalker (fourScenes true) (fun s =>
        ¬ RecordFaulty (decodeScene (sceneBits 199 9 63 1024)) ∧ putProtected s.store 199 = true)
      ∧ meets .sceneFetch putWalker fullStore (fun s =>
        ¬ RecordFaulty (decodeScene (sceneBits 4095 9 0 1024)) ∧ putProtected s.store 4095 = false
          ∧ (∀ y ∈ s.store, y.start ≠ 4095) ∧ 2048 ≤ s.store.length)
      ∧ meets .sceneFetch putWalker fullStore (fun s => putProtected s.store 4094 = false ∧ ∃ y ∈ s.store, y.start = 4094)
      ∧ meets .sceneFetch putWalker (fourScenes true) (fun s =>
        putProtected s.store 999999 = false ∧ s.store.length < 2048) :=
  ⟨by decide +kernel, by decide +kernel, by decide +kernel, by decide +kernel, by decide +kernel⟩

theorem witness_RemovalsObeyProtection :
    can 2 (le 4 200) started (fun _ s => s.pass ≠ none)
      ∧ can 2 (le 4 141) (fourScenes true) (fun b s => s.pass = none ∧ ∀ x ∈ s.store, x.start ≠ paramFrame b 12)
      ∧ can 2 (le 4 100) (fourScenes true) (fun b s =>
        s.pass = none ∧ (∃ x ∈ s.store, x.start = paramFrame b 12) ∧ removeProtected s.store (paramFrame b 12) = true)
      ∧ can 2 (le 4 260) (fourScenes true) (fun b s =>
        s.pass = none ∧ (∃ x ∈ s.store, x.start = paramFrame b 12) ∧ removeProtected s.store (paramFrame b 12) = false)
      ∧ can 3 [] started (fun _ s => s.pass ≠ none)
      ∧ can 3 [] withEighty (fun _ s => s.pass = none ∧ s.store[0]? = some (scene 80 8 0 .cut false)) := by
  decide +kernel

theorem witness_StoreOk : StoreOk (fourScenes true).store ∧ StoreOk withEighty.store :=
  ⟨storeOk_of_fits (by decide +kernel) (by decide +kernel) (by decide +kernel),
    storeOk_of_fits (by decide +kernel) (by decide +kernel) (by decide +kernel)⟩

theorem witness_LockOrdersMoveFlagsAndCounts :
    can 4 (le 4 140 ++ le 4 140) (fourScenes false) (fun _ s => s.pass = none) ∧ can 4 [] started (fun _ s => s.pass ≠ none)
      ∧ can 5 (le 4 140 ++ le 4 140) (fourScenes true) (fun _ s => s.pass = none)
      ∧ can 5 [] started (fun _ s => s.pass ≠ none) := by decide +kernel

theorem witness_LoadRecordIsDealtWithAsPut :
    meets .loadFetch (.flight (block 6 []) (.fetchLoad ⟨8192, 5, 4, 3, some 0, true⟩)) (fourScenes true) (fun s =>
      meets .sceneFetch putWalker (fourScenes true) (fun p => p.store = s.store)) := by decide +kernel

theorem witness_ReadOrdersWalkTheirTables_scenes :
    let ok (b : OrderBlock) := (1 ≤ param b 20 2 ∧ param b 20 2 ≤ 2048) ∧ OffsetOk (param b 16 4) (64 * param b 20 2)
    can 7 (le 4 0 ++ le 4 917504 ++ le 2 2049) (fourScenes true) (fun b _ => ¬ ok b)
      ∧ can 7 (le 4 260 ++ le 4 917504 ++ le 2 2048) (fourScenes true) (fun b s =>
        ok b ∧ ∃ x ∈ s.store, paramFrame b 12 ≤ x.start)
      ∧ can 7 (le 4 261 ++ le 4 917504 ++ le 2 2048) (fourScenes true) (fun b s =>
        ok b ∧ ∀ x ∈ s.store, x.start < paramFrame b 12)
      ∧ meets .sceneSlot (.flight (block 7 []) (.slotScene ⟨200, 9, 8192, 1⟩)) (fourScenes true) (fun _ => True)
      ∧ meets .sceneSlot (.flight (block 7 []) (.slotScene ⟨200, 9, 8192, 0⟩)) (fourScenes true) (fun s =>
        0 + 1 < 9 ∧ 0 + 1 < s.store.countP fun x => decide (200 ≤ x.start)) := by decide +kernel

theorem witness_ReadOrdersWalkTheirTables_looks :
    let ok (b : OrderBlock) := param b 12 1 ≤ 63 ∧ (1 ≤ param b 13 1 ∧ param b 13 1 ≤ 64) ∧ param b 12 1 + param b 13 1 ≤ 64
      ∧ OffsetOk (param b 16 4) (32 * param b 13 1)
    can 17 ([63, 2, 0, 0] ++ le 4 64) running (fun b _ => ¬ ok b)
      ∧ can 17 ([0, 64, 0, 0] ++ le 4 1046528) running (fun b _ => ok b)
      ∧ can 17 ([63, 1, 0, 0] ++ le 4 1048544) running (fun b _ => ok b)
      ∧ meets .lookSlot (.flight (block 17 []) (.slotLook ⟨0, 64, 0, 62⟩)) running (fun _ => 62 + 1 < 64)
      ∧ meets .lookSlot (.flight (block 17 []) (.slotLook ⟨0, 64, 0, 63⟩)) running (fun _ => ¬ 63 + 1 < 64) := by decide +kernel

/-- A record at the ends of its ranges, with statistics. -/
def extremeScene : Scene :=
  { start := -10000, number := 65535, own := ⟨⟨-512, 511, 0⟩, ⟨0, 4095, 1⟩, ⟨128, 896, 512⟩, 2047⟩, look := 63
    transition := .dissolve 255, keys := [⟨1, ⟨-1024, 1023, 0⟩⟩, ⟨2, ⟨0, 0, 0⟩⟩, ⟨65534, ⟨0, 0, 0⟩⟩, ⟨65535, ⟨1, 2, 3⟩⟩]
    group := 15, negative := true, locked := true
    stats := some ⟨-10000 + 1048575, 4294967295, ⟨0, 1023, 1⟩, ⟨1023, 1023, 1⟩, ⟨1, 2, 1023⟩, true⟩ }

/-- Every trim of a record in its range. -/
abbrev TrimsOk (x : Scene) : Prop :=
  ∀ k ∈ x.keys, (-1024 ≤ k.trim.r ∧ k.trim.r ≤ 1023) ∧ (-1024 ≤ k.trim.g ∧ k.trim.g ≤ 1023)
    ∧ (-1024 ≤ k.trim.b ∧ k.trim.b ≤ 1023)

theorem witness_SceneRecordReadsBack :
    (SceneOk extremeScene ∧ GradeOk extremeScene.own ∧ TrimsOk extremeScene ∧ extremeScene.stats ≠ none)
      ∧ SceneOk (scene 999999 1 0 .cut false) ∧ GradeOk (scene 999999 1 0 .cut false).own
      ∧ TrimsOk (scene 999999 1 0 .cut false) ∧ (scene 999999 1 0 .cut false).stats = none :=
  ⟨⟨sceneOk_of_fits (by decide +kernel), by decide +kernel⟩, sceneOk_of_fits (by decide +kernel), by decide +kernel⟩

theorem witness_PutLookChecksInOrder :
    let bytes (i offset : Nat) : List Nat := [i, 0, 0, 0] ++ le 4 offset
    can 16 (bytes 1 64) started (fun _ s => s.pass ≠ none)
      ∧ can 16 (bytes 0 64) running (fun b s => s.pass = none ∧ param b 12 1 = 0)
      ∧ can 16 (bytes 64 64) running (fun b s => s.pass = none ∧ 63 < param b 12 1)
      ∧ can 16 (bytes 1 1048560) running (fun b s => s.pass = none ∧ ¬ OffsetOk (param b 16 4) 32)
      ∧ can 16 (bytes 56 1048544) houseTable (fun b s =>
        (56 : Fin 64).val = param b 12 1 ∧ s.pass = none ∧ OffsetOk (param b 16 4) 32 ∧ 0 < s.table.house
          ∧ 64 - s.table.house ≤ (56 : Fin 64).val)
      ∧ can 16 (bytes 5 1048544) (fourScenes true) (fun b s =>
        (5 : Fin 64).val = param b 12 1 ∧ s.pass = none ∧ OffsetOk (param b 16 4) 32 ∧ s.table.house = 0
          ∧ (lookAt s.table 5).locks ≠ 0)
      ∧ can 16 (bytes 55 1048544) houseTable (fun b s =>
        (55 : Fin 64).val = param b 12 1 ∧ s.pass = none ∧ OffsetOk (param b 16 4) 32
          ∧ ¬ (0 < s.table.house ∧ 64 - s.table.house ≤ (55 : Fin 64).val) ∧ (lookAt s.table 55).locks = 0) := by
  decide +kernel

theorem witness_FetchedLookIsPut :
    let at5 : Walker := .flight (block 16 []) (.fetchLook 5 8192)
    meets .lookFetch at5 houseTable (fun _ => 63 < bitsOf (lookBits 64 1024).toNat 0 8)
      ∧ meets .lookFetch at5 houseTable (fun s => (5 : Fin 64).val = bitsOf (lookBits 5 1024).toNat 0 8 ∧ s.pass = none)
      ∧ meets .lookFetch at5 houseTable (fun s =>
        (60 : Fin 64) ≠ (lookAt s.table 5).parent ∧ 0 < (lookAt s.table 5).children)
      ∧ meets .lookFetch (.flight (block 16 []) (.fetchLook 7 8192)) houseTable (fun s => (lookAt s.table 6).level = 4)
      ∧ meets .lookFetch at5 houseTable (fun s =>
        (61 : Fin 64).val = bitsOf (lookBits 61 5000).toNat 0 8 ∧ (61 : Fin 64) = (lookAt s.table 5).parent
          ∧ (lookAt s.table 61).level ≠ 4) := by decide +kernel

theorem witness_LookRecordReadsBack :
    let t := setLook { LookTable.reset with house := 8 } 56 ⟨⟨⟨-512, 511, 0⟩, ⟨0, 4095, 1⟩, ⟨128, 896, 512⟩, 2047⟩, 63, 4, 63, 2048⟩
    let ok (l : Look) := GradeOk l.grade ∧ l.level ≤ 4 ∧ l.children ≤ 63 ∧ l.locks ≤ 2048
    (ok (lookAt t 56) ∧ 0 < t.house ∧ 64 - t.house ≤ (56 : Fin 64).val)
      ∧ (ok (lookAt t 55) ∧ ¬ (0 < t.house ∧ 64 - t.house ≤ (55 : Fin 64).val)) := by decide +kernel

/-- The walker waits for the record of a PUT LOOK. -/
def fetchesLook : Walker → Bool
  | .flight _ (.fetchLook _ _) => true
  | _ => false

theorem putsOpenLook_of {s : State} (h : fetchesLook s.port.walker = false) : PutsOpenLook s := by
  intro b i o e
  rw [e] at h
  cases h

/-- The protected table with no order in flight. -/
def protectedTable : State := { running with table := withNine.table }

theorem witness_HouseLooksStayProtected_orders :
    PutsOpenLook protectedTable ∧ Instr.setHouseArea ≠ .clearHouseLooks ∧ Instr.setHouseArea ≠ .powerOnReset
      ∧ exec .setHouseArea protectedTable = .next protectedTable ∧ isHouse protectedTable.table 56 = true :=
  ⟨putsOpenLook_of (by decide +kernel), by decide, by decide, rfl, by decide +kernel⟩

/-- Two tables that differ in the grade of a house look alone. -/
def otherHouse : State := { protectedTable with
  table := setLook withNine.table 60 { lookAt withNine.table 60 with grade := grade 1 2 300 4 } }

theorem witness_HouseLooksStayProtected_readback :
    let w : Walker := .flight (block 17 []) (.slotLook ⟨56, 8, 64, 4⟩)
    let s := setWalker w protectedTable
    let s' := setWalker w otherHouse
    s.port.walker = .flight (block 17 []) (.slotLook ⟨56, 8, 64, 4⟩) ∧ s'.port = s.port ∧ s'.table.house = s.table.house
      ∧ s.table ≠ s'.table ∧ (∀ i : Fin 64, isHouse s.table i = false → lookAt s'.table i = lookAt s.table i)
      ∧ ∀ i : Fin 64, isHouse s.table i = true →
          (lookAt s'.table i).children = (lookAt s.table i).children ∧ (lookAt s'.table i).locks = (lookAt s.table i).locks := by
  decide +kernel

theorem witness_HouseAreaOrdersSetAndErase_set :
    can 18 [4] started (fun _ s => s.pass ≠ none) ∧ can 18 [4] houseTable (fun _ s => s.pass = none ∧ 0 < s.table.house)
      ∧ can 18 [33] running (fun b s => s.pass = none ∧ s.table.house = 0 ∧ param b 12 1 = 33)
      ∧ can 18 [32] running (fun b s => s.pass = none ∧ s.table.house = 0 ∧ param b 12 1 = 32)
      ∧ can 18 [4] running (fun b s => s.pass = none ∧ s.table.house = 0 ∧ param b 12 1 = 4) := by decide +kernel

theorem witness_HouseAreaOrdersSetAndErase_erase :
    let locked : State := { running with table := setLook withNine.table 56 { Look.fresh with locks := 1 } }
    can 19 [] started (fun _ s => s.pass ≠ none)
      ∧ can 19 [] locked (fun _ s => s.pass = none ∧ 0 < s.table.house ∧ 64 - s.table.house ≤ (56 : Fin 64).val
        ∧ 0 < (lookAt s.table 56).locks)
      ∧ can 19 [] withNine (fun _ s => s.pass = none ∧ 0 < s.table.house
        ∧ (∀ i : Fin 64, 0 < s.table.house ∧ 64 - s.table.house ≤ i.val → (lookAt s.table i).locks = 0)) := by decide +kernel

theorem witness_HouseAreaOrdersSetAndErase_table : LooksOk withNine.table := by decide +kernel

/-- The part RUNNING with a follow mode and perf counter. -/
def following (perf : Int) (mode : Follow) : State := { running with follower := follower perf mode }

theorem witness_TransportOrdersCheckInOrder_standard :
    can 32 [60, 4] started (fun _ s => s.pass ≠ none)
      ∧ can 32 [60, 4] (following 0 .seeking) (fun _ s => s.pass = none ∧ s.follower.mode ≠ .free)
      ∧ can 32 [50, 5] (following 0 .free) (fun b s => s.pass = none ∧ s.follower.mode = .free ∧ 4 < param b 13 1)
      ∧ can 32 [55, 1] (following 0 .free) (fun b s => s.pass = none ∧ s.follower.mode = .free
        ∧ ¬ (param b 12 1 = 50 ∨ param b 12 1 = 60))
      ∧ can 32 [50, 1] (following (-40000) .free) (fun b s => s.pass = none ∧ s.follower.mode = .free
        ∧ (param b 12 1 = 50 ∨ param b 12 1 = 60) ∧ 1 ≤ param b 13 1 ∧ param b 13 1 ≤ 4)
      ∧ can 32 [60, 4] (following 3999999 .free) (fun b s => s.pass = none ∧ s.follower.mode = .free
        ∧ (param b 12 1 = 50 ∨ param b 12 1 = 60) ∧ 1 ≤ param b 13 1 ∧ param b 13 1 ≤ 4) := by decide +kernel

theorem witness_TransportOrdersCheckInOrder_position :
    can 33 (le 4 0) started (fun _ s => s.pass ≠ none)
      ∧ can 33 (le 4 0) (following 0 .seeking) (fun _ s => s.pass = none ∧ s.follower.mode ≠ .free)
      ∧ can 33 (le 4 1000000) (following 0 .free) (fun b s =>
        s.pass = none ∧ s.follower.mode = .free ∧ ¬ FrameOk (paramFrame b 12))
      ∧ can 33 (le 4 999999) (following 0 .free) (fun b s =>
        s.pass = none ∧ s.follower.mode = .free ∧ FrameOk (paramFrame b 12))
      ∧ can 33 (le 4 (2 ^ 32 - 10000)) (following 0 .free) (fun b s =>
        s.pass = none ∧ s.follower.mode = .free ∧ FrameOk (paramFrame b 12)) := by decide +kernel

theorem witness_TransportOrdersCheckInOrder_follow :
    let bytes (m div odd : Nat) : List Nat := [m, 0, 0, 0] ++ le 4 999999 ++ [div, odd]
    let ok (b : OrderBlock) := FrameOk (paramFrame b 16) ∧ (1 ≤ param b 20 1 ∧ param b 20 1 ≤ 15) ∧ param b 21 1 ≤ 1
    can 34 (bytes 0 1 0) started (fun _ s => s.pass ≠ none)
      ∧ can 34 (bytes 2 1 0) running (fun b s => s.pass = none ∧ 1 < param b 12 1)
      ∧ can 34 (bytes 0 0 0) running (fun b s => s.pass = none ∧ param b 12 1 = 0)
      ∧ can 34 (bytes 1 0 0) running (fun b s => s.pass = none ∧ param b 12 1 = 1 ∧ ¬ ok b)
      ∧ can 34 (bytes 1 1 0) running (fun b s => s.pass = none ∧ param b 12 1 = 1 ∧ ok b)
      ∧ can 34 (bytes 1 15 1) running (fun b s => s.pass = none ∧ param b 12 1 = 1 ∧ ok b) := by decide +kernel

theorem witness_TransportOrdersCheckInOrder_picture :
    can 40 [1, 1] started (fun _ s => s.pass ≠ none)
      ∧ can 40 [1, 2] running (fun b s => s.pass = none ∧ 1 < param b 13 1)
      ∧ can 40 [1, 0] running (fun b s => s.pass = none ∧ param b 12 1 ≤ 1 ∧ param b 13 1 ≤ 1) := by decide +kernel

/-- A block size. -/
abbrev sizeOk (n : Nat) : Prop := n = 1 ∨ n = 2 ∨ n = 4 ∨ n = 8 ∨ n = 16 ∨ n = 32 ∨ n = 64

/-- The parameter bytes of SET LIGHT and of SET MONITOR. -/
def lightBytes (floor n target limit load : Nat) : List Nat :=
  le 2 floor ++ [n, 0] ++ le 2 target ++ le 2 limit ++ le 5 (2 ^ 40 - 1) ++ [load] ++ le 5 (2 ^ 40 - 1)
def monitorBytes (high low m mode : Nat) : List Nat :=
  le 2 high ++ le 2 high ++ le 2 high ++ le 2 low ++ le 2 low ++ le 2 low ++ le 2 65535 ++ [mode, m, mode, mode]

theorem witness_LightAndMonitorOrdersWriteTheirSettings_light_refused :
    can 48 (lightBytes 4095 1 256 0 0) running (fun b _ => 4094 < param b 12 2)
      ∧ can 48 (lightBytes 1 3 256 0 0) running (fun b _ => ¬ sizeOk (param b 14 1))
      ∧ can 48 (lightBytes 1 1 255 0 0) running (fun b _ => param b 16 2 < 256) := by decide +kernel

theorem witness_LightAndMonitorOrdersWriteTheirSettings_light :
    can 48 (lightBytes 1 1 256 0 0) started (fun b _ => (1 ≤ param b 12 2 ∧ param b 12 2 ≤ 4094) ∧ sizeOk (param b 14 1)
        ∧ 256 ≤ param b 16 2 ∧ param b 16 2 ≤ 4095)
      ∧ can 48 (lightBytes 4094 64 4095 65535 1) running (fun b _ => (1 ≤ param b 12 2 ∧ param b 12 2 ≤ 4094)
        ∧ sizeOk (param b 14 1) ∧ 256 ≤ param b 16 2 ∧ param b 16 2 ≤ 4095) := by decide +kernel

/-- A field whose rest decision is still to be made by the old limit, and one that the old limit passes by. -/
theorem witness_LightAndMonitorOrdersWriteTheirSettings_light_enters :
    let due (count : Nat) : State := { running with light := { running.light with restCount := count, restDue := true } }
    can 48 (lightBytes 1 1 256 0 0) (due 3000) (fun _ s => s.port.running = true ∧ s.light.restDue = true ∧ s.light.rest = false
        ∧ s.light.restLimit ≠ 0 ∧ s.light.restLimit ≤ s.light.restCount ∧ s.pass = none)
      ∧ can 48 (lightBytes 1 1 256 1 0) (due 2999) (fun _ s => ¬ s.light.restLimit ≤ s.light.restCount) := by decide +kernel

theorem witness_LightAndMonitorOrdersWriteTheirSettings_monitor_refused :
    can 56 (monitorBytes 1024 0 1 0) running (fun b _ => 1023 < param b 12 2)
      ∧ can 56 (monitorBytes 5 6 1 0) running (fun b _ => param b 12 2 < param b 18 2)
      ∧ can 56 (monitorBytes 5 5 3 0) running (fun b _ => ¬ sizeOk (param b 27 1))
      ∧ can 56 (monitorBytes 5 5 1 2) running (fun b _ => 1 < param b 26 1)
      ∧ can 57 [64] running (fun b _ => 63 < param b 12 1) := by decide +kernel

theorem witness_LightAndMonitorOrdersWriteTheirSettings_monitor :
    can 56 (monitorBytes 1023 1023 64 1) started (fun b _ => param b 12 2 ≤ 1023 ∧ param b 18 2 ≤ param b 12 2
        ∧ param b 14 2 ≤ 1023 ∧ param b 20 2 ≤ param b 14 2 ∧ param b 16 2 ≤ 1023 ∧ param b 22 2 ≤ param b 16 2)
      ∧ can 56 (monitorBytes 1023 1023 64 1) started (fun b _ => sizeOk (param b 27 1) ∧ param b 26 1 ≤ 1 ∧ param b 28 1 ≤ 1
        ∧ param b 29 1 ≤ 1)
      ∧ can 57 [63] started (fun b _ => param b 12 1 ≤ 63) := by decide +kernel

theorem witness_SetRouteChecksInOrder :
    can 64 [0, 1, 0, 0, 1] started (fun _ s => s.pass ≠ none)
      ∧ can 64 [16, 1, 0, 0, 1] running (fun b s => s.pass = none ∧ 16 ≤ param b 12 1)
      ∧ can 64 [15, 1, 2, 0, 1] running (fun b s => s.pass = none ∧ 1 < param b 14 1)
      ∧ can 64 [15, 1, 1, 9, 1] running (fun b s => s.pass = none ∧ param b 14 1 = 1 ∧ param b 15 1 ≠ 0)
      ∧ can 64 [15, 8, 0, 0, 1] running (fun b s => s.pass = none ∧ param b 13 1 % 8 = 0 ∧ param b 16 1 ≠ 0)
      ∧ can 64 [15, 7, 0, 1, 255] running (fun b s => s.pass = none ∧ param b 12 1 < 16 ∧ param b 14 1 = 0
        ∧ param b 13 1 % 8 = 7 ∧ param b 16 1 ≠ 0)
      ∧ can 64 [0, 0, 0, 0, 0] running (fun b s => s.pass = none ∧ param b 14 1 = 0 ∧ param b 16 1 = 0) := by decide +kernel

/-- Link A in a state, free of any pass, with directives waiting. -/
def freeLink (st : LinkState) (queue : List Directive) : State :=
  linked 9 { LinkRec.reset with state := st, queue := queue }

theorem witness_LinkOrdersActByState_set :
    let bytes (l wake dog : Nat) : List Nat := [l, 1] ++ le 2 wake ++ le 2 65535 ++ le 2 1 ++ le 2 0 ++ [dog]
    let ok (b : OrderBlock) := param b 13 1 ≤ 1 ∧ 1 ≤ param b 14 2 ∧ 1 ≤ param b 16 2 ∧ 1 ≤ param b 18 2 ∧ 1 ≤ param b 22 1
      ∧ param b 22 1 ≤ 15
    can 65 (bytes 1 0 1) running (fun b _ => ¬ ok b) ∧ can 65 (bytes 1 1 16) running (fun b _ => ¬ ok b)
      ∧ can 65 (bytes 3 1 1) running (fun b _ => linkCode .a ≠ param b 12 1 ∧ linkCode .b ≠ param b 12 1
        ∧ linkCode .c ≠ param b 12 1)
      ∧ can 65 (bytes 1 1 1) started (fun b _ => linkCode .a = param b 12 1 ∧ ok b)
      ∧ can 65 (bytes 4 65535 15) running (fun b _ => linkCode .c = param b 12 1 ∧ ok b) := by decide +kernel

/-- An auto-down decision still to be made when SET LINK is taken, with the limit reached and not. -/
theorem witness_LinkOrdersActByState_set_due :
    let due (n : Nat) : State := linked 9 { LinkRec.reset with state := .idle, owner := .pass, silence := n, downDue := true }
    let bytes := [1, 1] ++ le 2 1 ++ le 2 1 ++ le 2 1 ++ le 2 0 ++ [1]
    can 65 bytes (due 1800) (fun b s => linkCode .a = param b 12 1 ∧ s.port.running = true ∧ (linkOf .a s).downDue = true
        ∧ (linkOf .a s).state = .idle ∧ (linkOf .a s).owner = .pass ∧ s.pass = none ∧ (linkOf .a s).silenceLimit ≠ 0
        ∧ (linkOf .a s).silenceLimit ≤ (linkOf .a s).silence ∧ Room (linkOf .a s))
      ∧ can 65 bytes (due 1799) (fun _ s => ¬ (linkOf .a s).silenceLimit ≤ (linkOf .a s).silence) := by decide +kernel

theorem witness_LinkOrdersActByState_reset_and_wake :
    can 67 [0] running (fun b _ => linkCode .a ≠ param b 12 1 ∧ linkCode .b ≠ param b 12 1 ∧ linkCode .c ≠ param b 12 1)
      ∧ can 67 [1] started (fun b s => linkCode .a = param b 12 1 ∧ (linkOf .a s).held = true)
      ∧ can 67 [1] (freeLink .down [.out, .standby]) (fun _ s => (linkOf .a s).held = false ∧ (linkOf .a s).state = .down)
      ∧ can 67 [1] (freeLink .rolling []) (fun _ s => (linkOf .a s).held = false ∧ (linkOf .a s).state = .rolling)
      ∧ can 67 [1] (freeLink .recording [.recordIn]) (fun _ s =>
        (linkOf .a s).held = false ∧ (linkOf .a s).state = .recording)
      ∧ can 67 [1] (freeLink .fault []) (fun _ s => (linkOf .a s).held = false ∧ (linkOf .a s).state = .fault)
      ∧ can 66 [1] (freeLink .fault []) (fun b s => linkCode .a = param b 12 1 ∧ (linkOf .a s).state = .fault)
      ∧ can 66 [1] (freeLink .down [.wake, .wake, .wake]) (fun b s =>
        linkCode .a = param b 12 1 ∧ (linkOf .a s).state = .down ∧ Room (linkOf .a s))
      ∧ can 66 [1] (freeLink .idle []) (fun b s => linkCode .a = param b 12 1 ∧ (linkOf .a s).state = .idle)
      ∧ can 66 [8] running (fun b _ => linkCode .a ≠ param b 12 1 ∧ linkCode .b ≠ param b 12 1
        ∧ linkCode .c ≠ param b 12 1) := by decide +kernel

/-- START PASS's range check, as one test. -/
theorem startRangeOk_of {a : PassArgs} {std : Standard}
    (h : ((-10000 ≤ a.inFrame ∧ a.inFrame ≤ 999998) ∧ (a.inFrame ≤ a.outFrame ∧ a.outFrame ≤ 999998)
      ∧ (30 ≤ a.preroll ∧ a.preroll ≤ 600))
      ∧ a.tcIn.get .a < tcRange std ∧ a.tcIn.get .b < tcRange std ∧ a.tcIn.get .c < tcRange std) : StartRangeOk a std :=
  ⟨h.1.1, h.1.2.1, h.1.2.2, all_links h.2⟩

/-- The block of a START PASS. -/
abbrev passBlock (bytes : List Nat) : OrderBlock := block 80 bytes

/-- The example's START PASS, handed over. -/
def starting : State := handed (passBlock (passBytes 1200 1209 30 108000 54000 0)) beforePass

/-- The same without a journal, without its links' auto-wake, and with a range that needs no link. -/
def unready : State := { starting with journal := running.journal }
def failing : State := { starting with links := { starting.links with b := { LinkRec.reset with autoWake := false } } }

theorem witness_StartPassChecksInOrder_refusals :
    can 80 (passBytes 1200 1209 30 0 0 0) started (fun _ s => s.pass ≠ none)
      ∧ can 80 (passBytes 1200 1209 30 0 0 0) running (fun _ s => s.pass = none ∧ s.follower.mode = .free)
      ∧ can 80 (passBytes 1200 999999 30 0 0 0) beforePass (fun b s =>
        s.pass = none ∧ s.follower.mode ≠ .free ∧ 999998 < (passArgs b).outFrame)
      ∧ can 80 (passBytes 1200 1209 30 2592000 0 0) beforePass (fun b s =>
        s.pass = none ∧ s.follower.mode ≠ .free ∧ tcRange s.follower.standard ≤ (passArgs b).tcIn.get .a) := by decide +kernel

theorem witness_StartPassChecksInOrder_parity :
    let b := passBlock (passBytes 1202 999998 600 2591999 0 0)
    (beforePass.pass = none ∧ beforePass.follower.mode ≠ .free ∧ StartRangeOk (passArgs b) beforePass.follower.standard)
      ∧ startParity beforePass.follower (passArgs b).inFrame = .second :=
  ⟨⟨by decide +kernel, by decide +kernel, startRangeOk_of (by decide +kernel)⟩, by decide +kernel⟩

theorem starting_ready :
    StartRangeOk (passArgs (passBlock (passBytes 1200 1209 30 108000 54000 0))) starting.follower.standard :=
  startRangeOk_of (by decide +kernel)

theorem witness_StartPassChecksInOrder_not_ready :
    let a := passArgs (passBlock (passBytes 1200 1209 30 108000 54000 0))
    let empty := passArgs (passBlock (passBytes 1208 1209 30 0 0 0))
    startParity starting.follower a.inFrame = .first
      ∧ (unready.pass = none ∧ unready.follower.mode ≠ .free ∧ unready.journal.setting = none)
      ∧ (failing.pass = none ∧ failing.follower.standIn = false ∧ failing.journal.setting ≠ none
        ∧ failingLinks failing (needOf a failing) ≠ noLinks)
      ∧ (startParity starting.follower empty.inFrame = .first ∧ needOf empty starting = noLinks)
      ∧ a.inFrame ≤ a.outFrame := by decide +kernel

theorem witness_StartPassIsAccepted :
    let b := passBlock (passBytes 1200 1209 30 108000 54000 0)
    Handed starting b 80 ∧ StartAccepted (passArgs b) starting
      ∧ (∀ l, (needOf (passArgs b) starting).get l = true → (linkOf l starting).state = .down → Room (linkOf l starting))
      ∧ StoreOk starting.store :=
  ⟨by decide +kernel,
    ⟨by decide +kernel, by decide +kernel, starting_ready, by decide +kernel, by decide +kernel, by decide +kernel,
      by decide +kernel, by decide +kernel⟩,
    all_links (by decide +kernel), storeOk_of_fits (by decide +kernel) (by decide +kernel) (by decide +kernel)⟩

theorem witness_AbortClosesThePass :
    can 81 [] running (fun _ s => s.pass = none)
      ∧ can 81 [] started (fun _ s => s.pass = started.pass ∧ s.pass ≠ none)
      ∧ can 81 [] recordedPass (fun _ s => s.pass.map Pass.state = some .recording ∧ (linkOf .a s).held = true)
      ∧ can 81 [] { recordedPass with pass := recordedPass.pass.map fun p => { p with state := .closing } } (fun _ s =>
        s.pass.map Pass.state = some .closing) := by decide +kernel

theorem witness_AbortClosesThePass_room :
    ∃ p, recordedPass.pass = some p ∧ p.state ≠ .closing
      ∧ ∀ l, (linkOf l recordedPass).held = true → Room (linkOf l recordedPass) :=
  ⟨(recordedPass.pass).get (by decide +kernel), by decide +kernel, by decide +kernel, all_links (by decide +kernel)⟩

theorem witness_JournalReportsAndMark :
    let j (offset capacity threshold : Nat) : List Nat := le 4 offset ++ le 2 capacity ++ le 2 threshold
    let r (offset slots on : Nat) : List Nat := le 4 offset ++ [slots, on]
    can 96 (j 64 16 1) started (fun _ s => s.pass ≠ none)
      ∧ can 96 (j 64 8 1) running (fun b s => s.pass = none ∧ param b 16 2 = 8)
      ∧ can 96 (j 64 16 17) running (fun b s => s.pass = none ∧ param b 16 2 < param b 18 2)
      ∧ can 96 (j 32 16 1) running (fun b s => s.pass = none ∧ param b 12 4 < 64)
      ∧ can 96 (j 917504 4096 4096) running (fun b s => s.pass = none ∧ (param b 16 2 = 2 ^ 12)
        ∧ (1 ≤ param b 18 2 ∧ param b 18 2 ≤ param b 16 2) ∧ 64 ≤ param b 12 4
        ∧ OffsetOk (param b 12 4) (32 * param b 16 2) ∧ s.port.access = none)
      ∧ can 96 (j 64 16 16) { running with port := { running.port with access := some ⟨.journal true true, 0, [], .live⟩ } }
        (fun b s => s.pass = none ∧ (param b 16 2 = 2 ^ 4) ∧ OffsetOk (param b 12 4) (32 * param b 16 2)
          ∧ s.port.access = some ⟨.journal true true, 0, [], .live⟩)
      ∧ can 97 (r 64 2 2) running (fun b _ => 1 < param b 17 1)
      ∧ can 97 (r 64 65 1) running (fun b _ => param b 17 1 = 1 ∧ 64 < param b 16 1)
      ∧ can 97 (r 1046528 64 1) started (fun b s => param b 17 1 = 1 ∧ (2 ≤ param b 16 1 ∧ param b 16 1 ≤ 64)
        ∧ 64 ≤ param b 12 4 ∧ OffsetOk (param b 12 4) (32 * param b 16 1) ∧ s.port.access = none)
      ∧ can 97 (r 0 0 0) { running with port := { running.port with access := some ⟨.report 1, 0, [], .live⟩ } }
        (fun b s => param b 17 1 = 0 ∧ s.port.access = some ⟨.report 1, 0, [], .live⟩) := by decide +kernel

theorem witness_JournalReportsAndMark_mark :
    let b := block 98 []
    can 98 [] running (fun _ _ => True)
      ∧ meets .finalWrite (finish b .ok 0 running).port.walker running (fun _ => b.notify = true) := by decide +kernel

/-- The staging queue without a journal, with room for one more, and full. -/
theorem witness_JournalReportsAndMark_offer :
    let holding (n : Nat) : State := { running with
      journal := { running.journal with setting := some ⟨4096, 16, 16⟩, queue := List.replicate n (entryNow .wear running) } }
    running.journal.setting = none ∧ (holding 7).journal.setting ≠ none ∧ (holding 7).journal.queue.length < 8
      ∧ (holding 8).journal.setting ≠ none ∧ 8 ≤ (holding 8).journal.queue.length := by decide +kernel

/-- A halt finds the walker and the access in each of their situations. -/
theorem witness_RunWritesStartAndHalt :
    let b := block 6 []
    running.port.running = true ∧ State.reset.port.running = false
      ∧ meets .blockRead (.reading 4096 15) running (fun s => s.port.running = true)
      ∧ meets .takenWrite (.taking b false) running (fun s => s.port.running = true)
      ∧ meets .abortedWrite (.closing b 16 false) running (fun s => s.port.running = true)
      ∧ meets .finalWrite (.flight b (.finishing ⟨.ok, 0⟩)) running (fun s => s.port.running = true)
      ∧ meets (.journal true true) (.flight b .handed) running (fun s => s.port.running = true)
      ∧ meets .abortedWrite (.aborting b) running (fun s => s.port.running = true)
      ∧ meets (.report 3) .idle running (fun s => s.port.running = true) := by decide +kernel

theorem witness_RegisterWritesTakeEffect_by_offset :
    [0#32, 1, 2, 3].map (fun v => (v.toNat / 2 % 2, v.toNat % 2)) = [(0, 0), (0, 1), (1, 0), (1, 1)]
      ∧ writeCommand 16 5 = some (.noticeMaskWrite 5) ∧ (20 : Nat) ≠ 4 ∧ (20 : Nat) ≠ 8 ∧ (20 : Nat) ≠ 12 ∧ (20 : Nat) ≠ 16
      ∧ [Holdoff.clear, .nextPoll, .thisPoll, .nextField].map
          (fun h => { running with port := { running.port with holdoff := h } }.port.holdoff)
        = [.clear, .nextPoll, .thisPoll, .nextField] := by decide +kernel

theorem witness_RegisterWritesTakeEffect :
    running.port.running = true
      ∧ (State.reset.port.running = false ∧ State.reset.port.access = none ∧ State.reset.port.poll = .idle
        ∧ State.reset.port.walker = .idle ∧ State.reset.reports.waiting = none)
      ∧ (setWalker (.aborting (block 6 [])) State.reset).port.walker = .aborting (block 6 []) := by decide +kernel

theorem witness_RegistersAndHeaderShowTheState :
    { running with port := { running.port with poll := .headerWrite } }.port.poll = .headerWrite ∧ running.light.wear < 2 ^ 40 := by
  decide +kernel

/-! ### Witnesses: the scanner's events -/

/-- The part in stand-in after a FIRST field. -/
def standing : State := { worked 1001 with follower := { (worked 1001).follower with standIn := true, lastParity := some .first } }

theorem witness_field_commands :
    FieldCommand (worked 1001) (.fieldEvent .second []) .second false
      ∧ FieldCommand (worked 1001) (.referenceWatchExpiry []) .first true
      ∧ FieldCommand standing (.standInField []) .second true :=
  ⟨⟨[], .inl ⟨rfl, rfl⟩⟩, ⟨[], .inr (.inl ⟨rfl, by decide +kernel, by decide +kernel, rfl⟩)⟩,
    ⟨[], .inr (.inr ⟨rfl, by decide +kernel, by decide +kernel, rfl⟩)⟩⟩

/-- A pass whose next field slips, with the reference gone. -/
def slipping : State := { beforePass with
  pass := started.pass, follower := { beforePass.follower with perf := 4400, standIn := true, lastParity := some .first } }

theorem witness_FieldCommandRunsEveryShare :
    (slipping.follower.standIn = true ∧ Parity.second = standInParity slipping.follower)
      ∧ (beforePass.follower.standIn = false ∧ Parity.first = standInParity beforePass.follower)
      ∧ ([FieldAct.restCount, .restEntry, .poll, .report] : List FieldAct).Nodup
      ∧ slipping.follower.mode = .locked 1040 0 ∧ (∀ e n, (following 0 .free).follower.mode ≠ .locked e n)
      ∧ (publish .second true slipping).follower.record.slip = true ∧ slipping.pass ≠ none
      ∧ (publish .second true beforePass).follower.record.slip = false :=
  ⟨by decide +kernel, by decide +kernel, by decide +kernel, by decide +kernel, fun _ _ h => (by cases h), by decide +kernel,
    by decide +kernel, by decide +kernel⟩

theorem witness_FollowingAtAFieldEvent :
    (following 0 .free).follower.mode = .free ∧ (following 4010 .seeking).follower.mode = .seeking
      ∧ (following 4012 (.locked 1002 0)).follower.mode = .locked 1002 0
      ∧ (following 3999999 (.locked 999999 2)).follower.mode = .locked 999999 2 := by decide +kernel

theorem witness_CadenceMapTilesTheIndices :
    (1 ≤ (follower 0 .free).div ∧ (follower 0 .free).odd ≤ 1)
      ∧ 1 ≤ { follower 0 .free with div := 1, odd := 0 }.div ∧ { follower 0 .free with div := 1, odd := 0 }.odd ≤ 1 := by
  decide +kernel

theorem witness_FieldGradeIsMadeForTheFrame :
    StoreOk (worked 1001).store ∧ (worked 1001).port.running = true ∧ State.reset.port.running = false
      ∧ FieldCommand State.reset (.fieldEvent .first []) .first false ∧ StoreOk State.reset.store
      ∧ (∀ x ∈ (worked 899).store, (after (.fieldEvent .first []) (worked 899)).follower.record.frame < x.start)
      ∧ (worked 999999).store[1]? = some { scene 1000 12 0 (.dissolve 3) false with own := grade 30 1200 560 900 }
      ∧ (after (.fieldEvent .first []) (worked 999999)).follower.record.frame = 999999 :=
  ⟨storeOk_of_fits (by decide +kernel) (by decide +kernel) (by decide +kernel), by decide +kernel, by decide +kernel,
    ⟨[], .inl ⟨rfl, rfl⟩⟩, storeOk_of_fits (by decide +kernel) (by decide +kernel) (by decide +kernel),
    by decide +kernel, by decide +kernel, by decide +kernel⟩

theorem witness_FrameGradeInterpolates :
    (lookChain withNine.table 9)[2]? = some 60 ∧ LooksOk withNine.table ∧ keysRise 0 [⟨10, ⟨100, 0, 0⟩⟩, ⟨31, ⟨-60, 0, 0⟩⟩] = true
      ∧ (scene 1000 12 0 (.dissolve 3) false).transition = .dissolve 3 ∧ (scene 900 11 0 .cut false).transition = .cut
      ∧ (0 : Int) ≤ 254 ∧ (254 : Int) < (255 : Nat) :=
  ⟨by decide +kernel, witness_HouseAreaOrdersSetAndErase_table, by decide +kernel⟩

/-- A measurement open for the field of the grade in force. -/
def measuring : State :=
  { running with
    picture := { running.picture with haltPassage := false }
    level := { running.level with openMeas := some { openMeasurement running with field := running.grade.field } } }

theorem witness_SampleTripleIsGraded :
    (State.reset.picture.haltPassage = true ∧ State.reset.picture.legalInForce = false
        ∧ State.reset.grade = haltGrade State.reset.grade.field)
      ∧ measuring.picture.haltPassage = false
      ∧ measuring.level.openMeas = some { openMeasurement running with field := measuring.grade.field }
      ∧ running.level.openMeas = none := by decide +kernel

/-- The light monitor with its service threshold in reach, a partial block of 15 of 16, and a low run. -/
def lit (run : Nat) (reported : Bool) : State :=
  { running with light := { running.light with
      blockCount := 15, blockSum := 30000, lowRun := run, lowReported := reported, service := 70000, wear := 69000 } }

theorem witness_LightSampleIsJudged :
    State.reset.port.running = false ∧ (4095#12).toNat = 4095
      ∧ ((lit 15 false).port.running = true ∧ (lit 15 false).light.rest = false ∧ (399#12).toNat < (lit 15 false).light.floor)
      ∧ (min 65535 ((lit 15 false).light.lowRun + 1) = 16 ∧ (lit 15 true).light.lowReported = true)
      ∧ (lit 0 false).light.floor ≤ (400#12).toNat
      ∧ (lit 0 false).light.service ≤ min 1099511627775 ((lit 0 false).light.wear + (4094#12).toNat)
      ∧ (min 1099511627775 ((lit 0 false).light.wear + (999#12).toNat) < (lit 0 false).light.service) := by decide +kernel

/-- The part whose rest count has reached its limit, and an idle link whose silence has. -/
def resting : State := { running with light := { running.light with restCount := 3000, restDue := true } }
def silent (n : Nat) : State :=
  linked 5005 { LinkRec.reset with state := .idle, owner := .pass, silence := n, downDue := true, queue := [.wake, .wake, .wake] }

theorem witness_RestAndAutoDownDecide :
    (resting.port.running = true ∧ resting.light.restDue = true ∧ resting.light.rest = false
        ∧ resting.light.restLimit ≠ 0 ∧ resting.light.restLimit ≤ resting.light.restCount ∧ resting.pass = none)
      ∧ running.light.restDue = false
      ∧ (let r := linkOf .a (silent 1800)
        (silent 1800).port.running = true ∧ r.downDue = true ∧ r.state = .idle ∧ r.owner = .pass ∧ (silent 1800).pass = none
          ∧ r.silenceLimit ≠ 0 ∧ r.silenceLimit ≤ r.silence ∧ Room r)
      ∧ (linkOf .a (silent 1799)).silence < (linkOf .a (silent 1799)).silenceLimit := by decide +kernel

/-! ### Witnesses: the links' events -/

/-- Link A in a state, its framer in a frame. -/
def inFrame (st : LinkState) : State :=
  linked 5005 { recorder st 5003 with requestedTc := 107700 }

theorem witness_LineEventsMoveTheLink :
    (∀ st, (linkOf .a (inFrame st)).framer = .assembling 5005 [165] ∧ (linkOf .a (inFrame st)).state = st)
      ∧ ([165, 17, 1, 0] : List Byte).length < 5
      ∧ ((0#8) ≠ 165 ∧ (0xFFFFFF#24).toNat % 256 ≠ 165 ∧ (0xFFFFFF#24).toNat / 256 % 256 ≠ 165
        ∧ (0xFFFFFF#24).toNat / 65536 ≠ 165)
      ∧ (1#24).toNat = 1
      ∧ ((107700#24).toNat < 2592000 ∧ (107700#24).toNat = (linkOf .a (inFrame .cueing)).requestedTc)
      ∧ ((108002#24).toNat < 2592000 ∧ (108002#24).toNat = (linkOf .a (inFrame .recording)).expectedTc)
      ∧ (2591999#24).toNat < 2592000 ∧ (linkOf .a running).framer = .hunting
      ∧ ((0#8) ≠ 165 + 18 + BitVec.ofNat 8 0 + BitVec.ofNat 8 0 + BitVec.ofNat 8 0 ∧ (23#8).toNat > 22 ∧ (2#24).toNat > 1
        ∧ 2592000 ≤ (2592000#24).toNat ∧ 65535 < (65536#24).toNat)
      ∧ (∀ t, (linkOf .a (linked 5006 (recorder .recording 5003))).timer = some t →
          ((linked 5006 (recorder .recording 5003)).follower.record.field - t.start).toNat < t.limit) := by
  refine ⟨fun st => ⟨rfl, rfl⟩, by decide, by decide, by decide, by decide, by decide, by decide, by decide, by decide,
    fun t h => ?_⟩
  cases h
  decide

theorem witness_LinkFaultsAreReported_reports :
    (inFrame .idle).pass = none
      ∧ ((65535#24).toNat ≤ 65535 ∧ (linkOf .a (inFrame .idle)).state ≠ .down ∧ (linkOf .a (inFrame .idle)).state ≠ .fault)
      ∧ ((0#24).toNat = 0 ∧ (linkOf .a (inFrame .waking)).state = .waking)
      ∧ ((0#24).toNat < 2592000 ∧ (linkOf .a (inFrame .cueing)).state = .cueing
        ∧ (0#24).toNat ≠ (linkOf .a (inFrame .cueing)).requestedTc)
      ∧ ((linkOf .a (inFrame .recording)).state = .recording ∧ (2591999#24).toNat < 2592000
        ∧ (2591999#24).toNat ≠ (linkOf .a (inFrame .recording)).expectedTc) := by decide +kernel

/-- Link A with a timer at its limit, across the wrap of the field number. -/
def timed (st : LinkState) (k : TimerKind) (limit : Nat) : State :=
  linked 4 { LinkRec.reset with state := st, timer := some ⟨k, 4294967291, limit⟩ }

theorem witness_LinkFaultsAreReported_timers :
    (timed .waking .wake 9).port.running = true ∧ 9 ≤ ((timed .waking .wake 9).follower.record.field - 4294967291).toNat
      ∧ ((timed .waking .wake 9).links.a.timer = some ⟨.wake, 4294967291, 9⟩ ∧ (timed .waking .wake 9).links.a.state = .waking)
      ∧ ((timed .cueing .cue 9).links.a.timer = some ⟨.cue, 4294967291, 9⟩ ∧ (timed .cueing .cue 9).links.a.state = .cueing)
      ∧ (timed .recording .watchdog 9).links.a.timer = some ⟨.watchdog, 4294967291, 9⟩
      ∧ (timed .closing .close 9).links.a.timer = some ⟨.close, 4294967291, 9⟩
      ∧ (timed .closing .close 9).links.a.held = false := by decide +kernel

/-- Link A of a pass in a state, its framer in a frame and a timer of a kind at its limit. -/
def heldFault (st : LinkState) (k : TimerKind) (p : Pass) : State :=
  { timed st k 9 with
    pass := some p
    links := ⟨{ heldIn st with framer := .assembling 4 [165], timer := some ⟨k, 4294967291, 9⟩ }, heldIn .recording, LinkRec.reset⟩ }

/-- A pass in a state, its one resolved group with or without SAFETY. -/
def passIn (st : PassState) (safety : Bool) : Pass :=
  { recordingPass with state := st, groups := (Vector.replicate 16 .unused).set 1 (.resolved ⟨true, true, false⟩ .all safety) }

/-- A held link that faults: the pass PREPARING or CLOSING; RECORDING and going on with B; RECORDING and lost. -/
theorem witness_LinkFaultsAreReported_held :
    ((heldFault .cueing .cue (passIn .preparing false)).pass = some (passIn .preparing false)
        ∧ (linkOf .a (heldFault .cueing .cue (passIn .preparing false))).state = .cueing)
      ∧ ((heldFault .closing .close (passIn .closing false)).pass = some (passIn .closing false)
        ∧ (linkOf .a (heldFault .closing .close (passIn .closing false))).timer = some ⟨.close, 4294967291, 9⟩)
      ∧ (let s := heldFault .recording .watchdog (passIn .recording true)
        (linkOf .a s).held = true ∧ (linkOf .a s).state = .recording ∧ (passIn .recording true).state = .recording
          ∧ (passIn .recording true).groups[1] = .resolved ⟨true, true, false⟩ .all true ∧ (linkOf .b s).state ≠ .fault
          ∧ (linkOf .a s).framer = .assembling 4 [165] ∧ (77#24).toNat ≠ (linkOf .a s).expectedTc)
      ∧ (passIn .recording false).groups[1] = .resolved ⟨true, true, false⟩ .all false
      ∧ ((linkOf .b (heldFault .recording .watchdog (passIn .recording false))).held = true
        ∧ Room (linkOf .b (heldFault .recording .watchdog (passIn .recording false))))
      ∧ (heldFault .recording .watchdog (passIn .recording false)).port.running = true := by decide +kernel

/-! ### Witnesses: a field's shares -/

/-- Monitors with a whole, a blanked, an averaged and a last averaged field open. -/
def watched : State := monitored AlertFlags.clear ⟨some 1000, 12, 0, AlertFlags.clear, 801, 1008⟩
  (measured 802 1008 1000 12 (chanOf 64 900 150 0) (chanOf 64 800 0 0))
def averaged (fields : Nat) : State := { watched with level := { watched.level with
  set := { watched.level.set with judge := .averaged, m := 4 }, block := { watched.level.block with fields := fields } } }

theorem witness_LevelMonitorJudgesTheField :
    (running.port.running = true ∧ running.level.openMeas = none ∧ StoreOk running.store)
      ∧ (watched.port.running = true ∧ StoreOk watched.store ∧ watched.level.openMeas ≠ none)
      ∧ (∃ p, watched.pass = some p ∧ p.state = .recording)
      ∧ (∃ m, watched.level.openMeas = some m ∧ m.rest = false ∧ m.recorded = true ∧ m.chans.r.count = m.expected
        ∧ m.chans.g.count = m.expected ∧ m.chans.b.count = m.expected ∧ m.start = some 1000)
      ∧ (watched.level.set.on = true ∧ watched.level.set.judge = .field)
      ∧ ((averaged 2).level.set.judge = .averaged ∧ ¬ (averaged 2).level.set.m ≤ (averaged 2).level.block.fields + 1)
      ∧ (averaged 3).level.set.m ≤ (averaged 3).level.block.fields + 1 :=
  ⟨⟨by decide +kernel, by decide +kernel, storeOk_of_fits (by decide +kernel) (by decide +kernel) (by decide +kernel)⟩,
    ⟨by decide +kernel, storeOk_of_fits (by decide +kernel) (by decide +kernel) (by decide +kernel), by decide +kernel⟩,
    ⟨recordingPass, rfl, rfl⟩, ⟨_, rfl, rfl, rfl, rfl, rfl, rfl, rfl⟩, by decide +kernel, by decide +kernel,
    by decide +kernel⟩

theorem witness_FieldCountsReportsAndPolls :
    (GradeOk (worked 1001).grade.grade ∧ FactorOk (worked 1001).grade.k ∧ (worked 1001).grade.scene ≤ 65535)
      ∧ (watched.level.last = none ∧ { watched with level := { watched.level with last := watched.level.openMeas } }.level.last ≠ none)
      ∧ (linkOf .a (inFrame .idle)).framer = .assembling 5005 [165]
      ∧ ((linkOf .a (inFrame .recording)).timer = some ⟨.watchdog, 5003, 4⟩ ∧ (linkOf .a running).timer = none)
      ∧ running.port.running = true ∧ State.reset.port.running = false ∧ running.reports.setting = none
      ∧ { running with reports := ⟨some ⟨64, 2⟩, 65535, none⟩ }.reports.setting = some ⟨64, 2⟩ := by decide +kernel

/-- The example's pass WAITING, before a field of an index. -/
def waiting (x : Int) (unlocked slip : Bool) : State :=
  { passField 301 1120 1 ⟨heldIn .armed, heldIn .armed, LinkRec.reset⟩
      (passField 111 1044 1 ⟨heldIn .idle, heldIn .idle, LinkRec.reset⟩ started) with
    follower := { started.follower with record := ⟨70440, 1176, .first, .locked 0 x, false, slip, unlocked⟩ } }

theorem witness_PassRollsClosesAndEnds_waiting :
    (∃ p, (waiting 440 false false).pass = some p ∧ p.state = .waiting ∧ p.rollIndex = 440)
      ∧ (waiting 440 true false).follower.record.unlocked = true ∧ (waiting 440 false true).follower.record.slip = true
      ∧ (waiting 439 false false).follower.record.mode = .locked 0 439
      ∧ (waiting 441 false false).follower.record.mode = .locked 0 441
      ∧ ∀ l, (linkOf l (waiting 440 false false)).held = true → (linkOf l (waiting 440 false false)).state = .armed →
          Room (linkOf l (waiting 440 false false)) :=
  ⟨⟨(waiting 440 false false).pass.get (by decide +kernel), by decide +kernel, by decide +kernel, by decide +kernel⟩,
    by decide +kernel, by decide +kernel, by decide +kernel, by decide +kernel, all_links (by decide +kernel)⟩

/-- The aborts that a field calls, one of each. -/
theorem witness_FieldAbortsThePass_waiting :
    (∃ p, (waiting 441 false false).pass = some p ∧ p.state = .waiting ∧ p.state ≠ .closing ∧ p.rollIndex < 441)
      ∧ (waiting 441 false false).port.running = true ∧ (waiting 441 false false).follower.record.mode = .locked 0 441
      ∧ (waiting 441 false false).follower.record.unlocked = false ∧ (waiting 441 false false).follower.record.slip = false
      ∧ ∀ l, (linkOf l (waiting 441 false false)).held = true → Room (linkOf l (waiting 441 false false)) :=
  ⟨⟨(waiting 441 false false).pass.get (by decide +kernel), by decide +kernel, by decide +kernel, by decide +kernel,
      by decide +kernel⟩,
    by decide +kernel, by decide +kernel, by decide +kernel, by decide +kernel, all_links (by decide +kernel)⟩

/-- A state whose field record calls for an abort: UNLOCKED with its slip, or a slip alone, seeking. -/
def calling (unlocked : Bool) (s : State) : State :=
  { s with follower := { s.follower with record := ⟨70507, 1203, .second, .seeking, false, true, unlocked⟩ } }

theorem witness_FieldAbortsThePass_states :
    [started, rolledPass, recordedPass].map (fun s => s.pass.map Pass.state)
        = [some .preparing, some .rolling, some .recording]
      ∧ [started, rolledPass, recordedPass].map (fun s => (calling true s).follower.record.unlocked) = [true, true, true]
      ∧ (∀ u : Bool, (calling u recordedPass).follower.record.unlocked = u ∧ (calling u recordedPass).follower.record.slip = true)
      ∧ (calling false recordedPass).pass = recordedPass.pass ∧ (calling false recordedPass).port.running = true
      ∧ ∀ l, (linkOf l (calling false recordedPass)).held = true → Room (linkOf l (calling false recordedPass)) :=
  ⟨by decide +kernel, by decide +kernel, fun _ => ⟨rfl, rfl⟩, by decide +kernel, by decide +kernel,
    all_links (by decide +kernel)⟩

/-- The example's pass RECORDING, before a field of an index. -/
def recordingAt (x : Int) (frame : Int) (p : Parity) : State :=
  { recordedPass with
    follower := { recordedPass.follower with record := ⟨70525, frame, p, .locked 0 x, false, false, false⟩ } }

/-- A pass that closes, with a link still closing or idle. -/
def closingWith (st : LinkState) : State :=
  { running with pass := some { recordingPass with state := .closing }, links := ⟨heldIn st, LinkRec.reset, LinkRec.reset⟩ }

theorem witness_PassRollsClosesAndEnds_out_point :
    (∃ p, (recordingAt 525 1210 .first).pass = some p ∧ p.state = .recording ∧ p.endIndex = 525)
      ∧ (recordingAt 525 1210 .first).follower.record.mode = .locked 0 525
      ∧ (recordingAt 525 1210 .first).follower.record.unlocked = false
      ∧ ∀ l, (linkOf l (recordingAt 525 1210 .first)).held = true → Room (linkOf l (recordingAt 525 1210 .first)) :=
  ⟨⟨recordedPass.pass.get (by decide +kernel), by decide +kernel, by decide +kernel, by decide +kernel⟩,
    by decide +kernel, by decide +kernel, all_links (by decide +kernel)⟩

/-- ROLLING below the in index; a SECOND field of a recording; a field that is not LOCKED. -/
theorem witness_PassRollsClosesAndEnds_notes :
    (∃ p, rolledPass.pass = some p ∧ p.state = .rolling ∧ (440 : Int) < p.inIndex)
      ∧ rolledPass.follower.record.mode = .locked 0 440 ∧ rolledPass.follower.record.unlocked = false
      ∧ (recordingAt 527 1210 .second).follower.record.parity = .second
      ∧ (recordingAt 527 1210 .second).follower.record.mode = .locked 0 527
      ∧ ∀ m y, { (waiting 440 false false).follower.record with mode := .seeking }.mode ≠ .locked m y :=
  ⟨⟨rolledPass.pass.get (by decide +kernel), by decide +kernel, by decide +kernel, by decide +kernel⟩, by decide +kernel,
    by decide +kernel, by decide +kernel, by decide +kernel, fun _ _ h => (by cases h)⟩

theorem witness_PassRollsClosesAndEnds_end :
    (closingWith .idle).port.running = true
      ∧ (closingWith .idle).pass = some { recordingPass with state := .closing }
      ∧ ((∀ l, (linkOf l (closingWith .idle)).held = true →
          (linkOf l (closingWith .idle)).state = .idle ∨ (linkOf l (closingWith .idle)).state = .fault)
        ∧ (closingWith .idle).level.tally = none)
      ∧ (linkOf .a (closingWith .closing)).held = true ∧ (linkOf .a (closingWith .closing)).state = .closing :=
  ⟨by decide +kernel, by decide +kernel, ⟨all_links (by decide +kernel), by decide +kernel⟩, by decide +kernel⟩

/-- Field 70,512: the set becomes A alone; and a field at which link B goes in again. -/
def edited : State := passField 512 1205 0 recordedPass.links recordedPass

theorem witness_RecordingSetFollowsTheScene_leaving :
    (∃ p, (recordingAt 512 1205 .first).pass = some p ∧ p.state = .recording ∧ p.recording = ⟨true, true, false⟩
        ∧ p.groups[2] = .resolved ⟨true, false, false⟩ .any false ∧ (512 : Int) < p.endIndex)
      ∧ (recSceneAt 1205 (recordingAt 512 1205 .first).store).group = 2
      ∧ (linkOf .b (recordingAt 512 1205 .first)).state = .recording ∧ Room (linkOf .b (recordingAt 512 1205 .first)) :=
  ⟨⟨recordedPass.pass.get (by decide +kernel), by decide +kernel, by decide +kernel, by decide +kernel, by decide +kernel,
    by decide +kernel⟩, by decide +kernel⟩

theorem witness_RecordingSetFollowsTheScene_entering :
    let s := { edited with follower := { edited.follower with
      record := ⟨70514, 1204, .first, .locked 0 514, false, false, false⟩ }, links := { edited.links with b := heldIn .rolling } }
    (∃ p, s.pass = some p ∧ p.state = .recording ∧ p.recording = ⟨true, false, false⟩
        ∧ p.groups[1] = .resolved ⟨true, true, false⟩ .all false ∧ (514 : Int) < p.endIndex)
      ∧ (recSceneAt 1204 s.store).group = 1 ∧ (linkOf .a s).state = .recording
      ∧ (linkOf .b s).state = .rolling ∧ (linkOf .b s).lockedMark = true ∧ Room (linkOf .b s) :=
  ⟨⟨edited.pass.get (by decide +kernel), by decide +kernel, by decide +kernel, by decide +kernel, by decide +kernel,
    by decide +kernel⟩, by decide +kernel⟩

/-- The in-point of the example, with the links A and B as given. -/
def inPoint (a b : LinkRec) : State :=
  { rolledPass with
    links := ⟨a, b, LinkRec.reset⟩
    follower := { rolledPass.follower with record := ⟨70500, 1200, .first, .locked 0 500, false, false, false⟩ } }

/-- The set that every in-point of the example works: both links of the scene's group, none of them leaving. -/
theorem witness_RecordingSetFollowsTheScene_in_point :
    (∃ p, (inPoint (heldIn .rolling) (heldIn .rolling)).pass = some p ∧ p.state = .rolling ∧ (500 : Int) = p.inIndex
        ∧ p.recording = ⟨false, false, false⟩ ∧ p.groups[1] = .resolved ⟨true, true, false⟩ .all false
        ∧ p.groups[3] = .spilled ∧ p.lastScene = none)
      ∧ (inPoint (heldIn .rolling) (heldIn .rolling)).port.running = true
      ∧ (recSceneAt 1200 (inPoint (heldIn .rolling) (heldIn .rolling)).store).group = 1
      ∧ ∀ l, (⟨true, true, false⟩ : LinkSet).get l = true →
          (linkOf l (inPoint (heldIn .rolling) (heldIn .rolling))).held = true
            ∧ (linkOf l (inPoint (heldIn .rolling) (heldIn .rolling))).state = .rolling :=
  ⟨⟨rolledPass.pass.get (by decide +kernel), by decide +kernel, by decide +kernel, by decide +kernel, by decide +kernel,
      by decide +kernel, by decide +kernel, by decide +kernel⟩,
    by decide +kernel, by decide +kernel, all_links (by decide +kernel)⟩

/-- A link that is not locked, and one whose queue is full, at the in-point of a pass with and without SAFETY. -/
theorem witness_RecordingSetFollowsTheScene_faults :
    let s := inPoint { heldIn .rolling with lockedMark := false } { heldIn .rolling with queue := [.wake, .wake, .wake, .wake] }
    let t : State := { s with
      links := { s.links with b := heldIn .rolling }
      pass := s.pass.map fun p =>
        { p with groups := (p.groups.set 1 (.resolved ⟨true, true, false⟩ .all true)).set 2 .unused } }
    ((linkOf .a s).lockedMark = false ∧ 4 ≤ (linkOf .b s).queue.length)
      ∧ (∃ p, s.pass = some p ∧ p.groups[1] = .resolved ⟨true, true, false⟩ .all false)
      ∧ (∃ p, t.pass = some p ∧ p.groups[1] = .resolved ⟨true, true, false⟩ .all true ∧ p.groups[2] = .unused)
      ∧ (linkOf .b t).state ≠ .fault ∧ (linkOf .b t).lockedMark = true ∧ Room (linkOf .b t) :=
  ⟨by decide +kernel, ⟨_, rfl, by decide +kernel⟩, ⟨_, rfl, by decide +kernel, by decide +kernel⟩, by decide +kernel⟩

/-- Link A with a full send queue. -/
def crowded (st : LinkState) (mark : Bool) : State :=
  linked 5005 { LinkRec.reset with
    state := st, lockedMark := mark, owner := .pass, silence := 1800, downDue := true, queue := [.standby, .wake, .wake, .wake] }

theorem witness_FullQueueAndUnlockedLinkFault :
    (∀ st mark, (linkOf .a (crowded st mark)).state = st ∧ (linkOf .a (crowded st mark)).lockedMark = mark
        ∧ ¬ Room (linkOf .a (crowded st mark)))
      ∧ (let s := crowded .idle false
        s.pass = none ∧ s.port.running = true ∧ (linkOf .a s).downDue = true ∧ (linkOf .a s).owner = .pass
          ∧ (linkOf .a s).silenceLimit ≠ 0 ∧ (linkOf .a s).silenceLimit ≤ (linkOf .a s).silence)
      ∧ can 65 ([1, 1] ++ le 2 1 ++ le 2 1 ++ le 2 1 ++ le 2 0 ++ [1]) (crowded .idle false) (fun b s =>
        param b 12 1 = linkCode .a ∧ (param b 13 1 ≤ 1 ∧ 1 ≤ param b 14 2 ∧ 1 ≤ param b 16 2 ∧ 1 ≤ param b 18 2
          ∧ 1 ≤ param b 22 1 ∧ param b 22 1 ≤ 15) ∧ s.pass = none ∧ (linkOf .a s).downDue = true)
      ∧ can 66 [1] (crowded .down false) (fun b s =>
        param b 12 1 = linkCode .a ∧ s.pass = none ∧ (linkOf .a s).state = .down) :=
  ⟨fun st mark => ⟨rfl, rfl, (by decide +kernel : ¬ ([.standby, .wake, .wake, .wake] : List Directive).length < 4)⟩,
    by decide +kernel, by decide +kernel, by decide +kernel⟩

/-- The example's pass PREPARING with its links as given, before and after its cues. -/
def preparing (cued : Bool) (a b : LinkState) : State :=
  { started with pass := started.pass.map fun p => { p with cuesIssued := cued }, links := ⟨heldIn a, heldIn b, LinkRec.reset⟩ }

theorem witness_PassPreparesResolvesAndLoses_preparing :
    (∃ p, (preparing false .idle .waking).pass = some p ∧ p.state = .preparing ∧ p.cuesIssued = false
        ∧ p.needed = ⟨true, true, false⟩)
      ∧ (preparing false .idle .waking).follower.record.unlocked = false
      ∧ (∀ l, (⟨true, true, false⟩ : LinkSet).get l = true → Room (linkOf l (preparing false .idle .waking)))
      ∧ (linkOf .b (preparing false .idle .waking)).state = .waking
      ∧ (linkOf .a (preparing false .idle .fault)).state = .idle
      ∧ (∃ p, (preparing true .armed .cueing).pass = some p ∧ p.cuesIssued = true)
      ∧ (linkOf .b (preparing true .armed .cueing)).state = .cueing :=
  ⟨⟨(preparing false .idle .waking).pass.get (by decide +kernel), by decide +kernel, by decide +kernel, by decide +kernel,
      by decide +kernel⟩,
    by decide +kernel, all_links (by decide +kernel), by decide +kernel, by decide +kernel,
    ⟨(preparing true .armed .cueing).pass.get (by decide +kernel), by decide +kernel, by decide +kernel⟩, by decide +kernel⟩

/-- Settled: both ARMED resolves; with B in FAULT the group ALL without SAFETY has no recorder. -/
theorem witness_PassPreparesResolvesAndLoses_settled :
    (∀ l, (⟨true, true, false⟩ : LinkSet).get l = true → (linkOf l (preparing true .armed .armed)).state = .armed
        ∨ (linkOf l (preparing true .armed .armed)).state = .fault)
      ∧ ((routeOf (preparing true .armed .fault) 1).mode = .all ∧ (routeOf (preparing true .armed .fault) 1).safety = false
        ∧ (routeOf (preparing true .armed .fault) 1).dest.get .b = true
        ∧ (linkOf .b (preparing true .armed .fault)).state = .fault)
      ∧ ∃ p, (preparing true .armed .fault).pass = some p ∧ p.groups[1] = .awaited :=
  ⟨all_links (by decide +kernel), by decide +kernel,
    ⟨(preparing true .armed .fault).pass.get (by decide +kernel), by decide +kernel, by decide +kernel⟩⟩

/-- The example's pass RECORDING with link B about to report TROUBLE. -/
def losing : State :=
  { recordedPass with links := { recordedPass.links with b := { recordedPass.links.b with framer := .assembling 70507 [165] } } }

theorem witness_PassPreparesResolvesAndLoses_losing :
    (∃ p, losing.pass = some p ∧ p.state = .recording ∧ p.groups[1] = .resolved ⟨true, true, false⟩ .all false)
      ∧ (linkOf .b losing).held = true ∧ (linkOf .b losing).framer = .assembling 70507 [165] ∧ (65535#24).toNat ≤ 65535
      ∧ (linkOf .b losing).state ≠ .down ∧ (linkOf .b losing).state ≠ .fault
      ∧ (⟨true, true, false⟩ : LinkSet).get .b = true :=
  ⟨⟨losing.pass.get (by decide +kernel), by decide +kernel, by decide +kernel, by decide +kernel⟩, by decide +kernel⟩

/-! ### Witnesses: the exchange port -/

theorem witness_PassPreparesResolvesAndLoses_safety :
    let s := { losing with pass := losing.pass.map fun p =>
      { p with groups := (p.groups.set 1 (.resolved ⟨true, true, false⟩ .all true)).set 2 .unused } }
    (∃ p, s.pass = some p ∧ p.state = .recording ∧ p.groups[1] = .resolved ⟨true, true, false⟩ .all true)
      ∧ (linkOf .a s).state ≠ .fault :=
  ⟨⟨_, rfl, by decide +kernel, by decide +kernel⟩, by decide +kernel⟩

theorem witness_PortPollsAndWalks_poll :
    meets .headerRead .idle running (fun _ => True)
      ∧ meets .headerWrite (.flight (block 98 []) .handed) running (fun s => s.port.walker ≠ .idle)
      ∧ meets .headerWrite .idle { running with port := { running.port with followPoint := 4096 } } (fun s => s.port.followPoint ≠ 0)
      ∧ meets .headerWrite .idle running (fun s => s.port.followPoint = 0) ∧ meets .linkRead .idle running (fun _ => True) := by
  decide +kernel

/-- The links that the walker judges: none, broken at either end, whole at either end. -/
theorem witness_Judged :
    Broken 32 ∧ Broken 65 ∧ Broken 1048576 ∧ ¬ Broken 64 ∧ ¬ Broken 1048544 ∧ (0#32) = 0 ∧ (15 : Nat) < 16 ∧ 16 ≤ 16
      ∧ running.port.brokenNote ≠ some 65 ∧ { running.port with brokenNote := some 65 }.brokenNote = some 65 := by decide +kernel

theorem witness_PortPollsAndWalks_blocks :
    let state (b : BitVec 256) := b.toNat / 2 ^ 48 % 65536
    meets .blockRead (.reading 4096 15) running (fun _ => True)
      ∧ [0, 1, 2, 3, 4, 5, 6, 65535].map (fun n => state (blockBits 4128 98 1 n)) = [0, 1, 2, 3, 4, 5, 6, 65535] := by decide +kernel

theorem witness_OrderBlocksPassToTheirEnd :
    let b := block 98 []
    meets .takenWrite (.taking b false) running (fun _ => b.code.toNat = 98 ∧ b.notify = true)
      ∧ meets .takenWrite (.taking (block 99 []) false) running (fun _ => (block 99 []).code.toNat = 99)
      ∧ meets .takenWrite (.taking b true) State.reset (fun _ => True)
      ∧ meets .resultIndex (.flight b (.resultIndex 5 ⟨.ok, 0⟩)) running (fun _ => True)
      ∧ meets .finalWrite (.flight b (.finishing ⟨.ok, 0⟩)) running (fun _ => True)
      ∧ meets .abortedWrite (.aborting b) State.reset (fun _ => True)
      ∧ meets .abortedWrite (.closing b 16 true) State.reset (fun _ => True)
      ∧ meets .abortedWrite (.closing b 16 false) running (fun _ => True) := by decide +kernel

/-- The four requesters as they may wait together. -/
def asking (poll : PollPhase) (w : Walker) (queue : List Entry) (report : Option FieldReport) (high low : Requester) : State :=
  { running with
    port := { running.port with poll := poll, walker := w, lastHigh := high, lastLow := low }
    journal := { running.journal with setting := some ⟨4096, 16, 16⟩, queue := queue }
    reports := { running.reports with waiting := report } }

theorem witness_GrantsFollowTheClasses :
    let e := entryNow .wear running
    let wants (s : State) : Bool × Bool × Bool × Bool :=
      (decide (s.port.poll ≠ .idle),
        s.port.running && s.journal.queue != [] && decide ((s.journal.fill - s.journal.taken).toNat < 16),
        decide (s.port.walker ≠ .idle), decide (s.reports.waiting ≠ none))
    wants running = (false, false, false, false)
      ∧ (asking .headerRead (.reading 4096 0) [e] (some ⟨1, 64, 0⟩) .poll .order).port.access = none
      ∧ wants (asking .headerRead (.reading 4096 0) [e] (some ⟨1, 64, 0⟩) .poll .order) = (true, true, true, true)
      ∧ wants (asking .headerRead .idle [] none .poll .order) = (true, false, false, false)
      ∧ wants (asking .idle .idle [e] none .journal .order) = (false, true, false, false)
      ∧ wants (asking .idle (.reading 4096 0) [] (some ⟨1, 64, 0⟩) .journal .report) = (false, false, true, true)
      ∧ wants (asking .idle (.reading 4096 0) [] none .journal .report) = (false, false, true, false)
      ∧ wants (asking .idle .idle [] (some ⟨1, 64, 0⟩) .journal .report) = (false, false, false, true)
      ∧ (during .headerRead .idle running).port.access ≠ none := by decide +kernel

theorem witness_AccessesStoreTheirBytes :
    let e := { entryNow .wear running with scene := 65535 }
    ((asking .idle .idle [e] none .poll .order).journal.setting = some ⟨4096, 16, 16⟩
        ∧ (asking .idle .idle [e] none .poll .order).journal.queue = [e] ∧ e.scene ≤ 65535)
      ∧ (setWalker (.taking (block 1 []) false) running).port.walker = .taking (block 1 []) false
      ∧ (setWalker (.flight (block 1 []) (.finishing ⟨.partially, 65535⟩)) running).port.walker
        = .flight (block 1 []) (.finishing ⟨.partially, 65535⟩)
      ∧ (setWalker (.aborting (block 1 [])) running).port.walker = .aborting (block 1 [])
      ∧ (setWalker (.closing (block 1 []) 16 true) State.reset).port.walker = .closing (block 1 []) 16 true
      ∧ (setWalker (.reading 1048544 15) running).port.walker = .reading 1048544 15
      ∧ (asking .idle .idle [] (some ⟨1, 64, 0⟩) .poll .order).reports.waiting = some ⟨1, 64, 0⟩ := by decide +kernel

/-- With room by the taken mark and without it, nothing else waiting in the high class. -/
theorem witness_AccessesStoreTheirBytes_journal :
    let s := asking .idle .idle [entryNow .wear running] none .poll .order
    let full : State := { s with journal := { s.journal with fill := 15, taken := 65535 } }
    (s.port.running = true ∧ s.port.access = none ∧ s.port.poll = .idle ∧ (s.journal.fill - s.journal.taken).toNat < 16)
      ∧ full.journal.setting = some ⟨4096, 16, 16⟩ ∧ ¬ (full.journal.fill - full.journal.taken).toNat < 16
      ∧ (asking .headerRead .idle [] none .poll .order).port.poll = .headerRead
      ∧ (asking .linkRead .idle [] none .poll .order).port.poll = .linkRead := by decide +kernel

/-- The accesses of the orders, each at its last record, slot or look. -/
theorem witness_AccessesStoreTheirBytes_orders :
    let b := block 7 []
    let at_ (p : Progress) (s : State) : State := setWalker (.flight b p) s
    (at_ (.resultIndex 65535 ⟨.ok, 0⟩) running).port.walker = .flight b (.resultIndex 65535 ⟨.ok, 0⟩)
      ∧ (at_ (.fetchLoad ⟨64, 2048, 2047, 0, none, false⟩) running).port.walker
        = .flight b (.fetchLoad ⟨64, 2048, 2047, 0, none, false⟩)
      ∧ ((at_ (.slotScene ⟨140, 3, 64, 2⟩) (fourScenes true)).port.walker = .flight b (.slotScene ⟨140, 3, 64, 2⟩)
        ∧ ((fourScenes true).store.filter fun y => decide ((140 : Int) ≤ y.start))[2]? = some (scene 260 4 0 .cut false))
      ∧ (at_ (.slotLook ⟨0, 64, 64, 63⟩) running).port.walker = .flight b (.slotLook ⟨0, 64, 64, 63⟩)
      ∧ (63 : Fin 64).val = 0 + 63 := by decide +kernel

theorem witness_BusErrorActsByAccess_data :
    let b := block 1 []
    meets .sceneFetch (.flight b (.fetchScene 64)) running (fun s => s.port.running = true)
      ∧ meets .loadFetch (.flight b (.fetchLoad ⟨64, 5, 4, 4, some 0, true⟩)) running (fun s => s.port.running = true)
      ∧ meets .sceneSlot (.flight b (.slotScene ⟨0, 2, 64, 1⟩)) running (fun s => s.port.running = true)
      ∧ meets .lookFetch (.flight b (.fetchLook 63 64)) running (fun s => s.port.running = true)
      ∧ meets .lookSlot (.flight b (.slotLook ⟨0, 2, 64, 1⟩)) running (fun s => s.port.running = true) := by decide +kernel

theorem witness_BusErrorActsByAccess_port :
    let b := block 1 []
    meets .resultIndex (.flight b (.resultIndex 0 ⟨.ok, 0⟩)) running (fun s => s.port.running = true)
      ∧ meets .headerRead .idle running (fun s => s.port.running = true)
      ∧ meets (.journal true false) .idle running (fun s => s.port.running = true)
      ∧ meets (.report 63) .idle running (fun s => s.port.running = true)
      ∧ meets .abortedWrite (.aborting b) State.reset (fun s => s.port.running = false)
      ∧ meets (.journal false true) .idle State.reset (fun s => s.port.running = false)
      ∧ meets (.report 0) .idle State.reset (fun s => s.port.running = false) := by decide +kernel

/-- A given-up and a forgotten access, of the port and of an order. -/
theorem witness_BusErrorActsByAccess_given_up :
    let unwanted (k : AccessKind) (st : AccessStatus) (s : State) : State :=
      { s with port := { s.port with access := some ⟨k, 0, [], st⟩ } }
    [unwanted .headerRead .stale running, unwanted .lookSlot .stale running, unwanted .lookSlot .stale State.reset,
        unwanted .linkRead .forgotten State.reset].map (fun s => (s.port.running, s.port.access.map Access.status))
      = [(true, some .stale), (true, some .stale), (false, some .stale), (false, some .forgotten)] := by decide +kernel

theorem witness_WritesMoveTheirMarks :
    let s0 := { running with
      journal := { running.journal with setting := some ⟨4096, 16, 1⟩, fill := 65535, taken := 65535, queue := [entryNow .wear running] } }
    meets (.journal true true) .idle s0 (fun s => (s.journal.fill + 1 - s.journal.taken).toNat = 1)
      ∧ meets (.journal true true) .idle { s0 with journal := { s0.journal with taken := 65534 } } (fun s =>
        (s.journal.fill + 1 - s.journal.taken).toNat ≠ 1)
      ∧ meets (.journal false false) .idle State.reset (fun _ => True) ∧ meets (.report 63) .idle running (fun _ => True)
      ∧ [AccessKind.headerRead, .headerWrite, .blockRead, .sceneFetch, .report 3].map
          (fun k => (during k .idle running).port.access.map fun a => a.giveUp)
        = [some ⟨.headerRead, 0, [], .stale⟩, some ⟨.headerWrite, 0, [], .stale⟩, some ⟨.blockRead, 0, [], .stale⟩,
          some ⟨.sceneFetch, 0, [], .stale⟩, some ⟨.report 3, 0, [], .stale⟩]
      ∧ [AccessKind.finalWrite, .loadFetch, .sceneSlot, .lookSlot, .resultIndex].map
          (fun k => (during k .idle running).port.access.map fun a => { a with status := .forgotten })
        = [some ⟨.finalWrite, 0, [], .forgotten⟩, some ⟨.loadFetch, 0, [], .forgotten⟩, some ⟨.sceneSlot, 0, [], .forgotten⟩,
          some ⟨.lookSlot, 0, [], .forgotten⟩, some ⟨.resultIndex, 0, [], .forgotten⟩] := by decide +kernel

/-! ### Witnesses: the laws -/

/-- The recording part with a command waiting. -/
def lawful : State := { edited with pending := [.mark] }

theorem witness_step : step lawful = .next { edited with pending := [] } := by
  unfold step lawful
  rfl

theorem framerOk_of_hunting {f : Framer} (h : f = .hunting) : FramerOk f := by
  subst h
  trivial

theorem witness_MemoryAndBuffersKeepTheirForm :
    AreaOk lawful ∧ AreaOk { lawful with area := [(4102, 3), (4103, 0)] } ∧ BuffersOk lawful ∧ lawful.journal.queue ≠ []
      ∧ FramerOk (.assembling 70507 [165, 0, 0, 0, 0]) :=
  have line (l : Link) : LineOk (linkOf l lawful) :=
    ⟨all_links (P := fun l => (linkOf l lawful).queue.length ≤ 4) (by decide +kernel) l,
      framerOk_of_hunting (all_links (P := fun l => (linkOf l lawful).framer = .hunting) (by decide +kernel) l)⟩
  ⟨by decide +kernel, by decide +kernel,
    ⟨by decide +kernel, by decide +kernel, by decide +kernel, line .a, line .b, line .c⟩, by decide +kernel, by decide, rfl⟩

theorem witness_FollowerAndOutputStayInRange_follower :
    FollowerOk (follower (-40000) (.locked (-10000) 1)) ∧ FollowerOk (follower 3999999 (.locked 999999 2)) :=
  ⟨⟨by decide +kernel, by decide +kernel, by decide +kernel, by decide +kernel, by decide +kernel, by decide +kernel,
      by decide +kernel, by decide +kernel, ⟨by decide +kernel, by decide +kernel⟩, by decide +kernel⟩,
    ⟨by decide +kernel, by decide +kernel, by decide +kernel, by decide +kernel, by decide +kernel, by decide +kernel,
      by decide +kernel, by decide +kernel, ⟨by decide +kernel, by decide +kernel⟩, by decide +kernel⟩⟩

theorem witness_GradesAndLightStayInRange :
    GradesOk lawful ∧ LightOk lawful.light ∧ lawful.light.wear ≤ 1099511627775 ∧ Instr.mark ≠ .setLight
      ∧ Instr.mark ≠ .powerOnReset :=
  ⟨⟨by decide +kernel, by decide +kernel, by decide +kernel, by decide +kernel, by decide +kernel⟩, by decide +kernel⟩

theorem witness_FollowerAndOutputStayInRange_output :
    OutputOk lawful ∧ OutputOk { lawful with picture := { lawful.picture with output := ⟨940, 64, 500⟩, legalInForce := true } } := by
  decide +kernel

theorem witness_StoreAndLookLawsHold :
    StoreOk lawful.store ∧ LooksOk lawful.table ∧ LocksOk lawful ∧ PutsOpenLook lawful :=
  ⟨storeOk_of_fits (by decide +kernel) (by decide +kernel) (by decide +kernel), by decide +kernel, by decide +kernel,
    putsOpenLook_of (by decide +kernel)⟩

theorem witness_HaltedPartRests : HaltedOk { State.reset with pending := [.mark] } :=
  fun _ => ⟨all_links (by decide +kernel), by decide +kernel, by decide +kernel, by decide +kernel, by decide +kernel,
    by decide +kernel, by decide +kernel, by decide +kernel, .inl rfl, trivial, fun _ h => by cases h⟩

/-- The example's four scenes, scene 2 locked, with a PUT SCENE's record just fetched. -/
def fetching : State := during .sceneFetch putWalker (fourScenes true)

theorem witness_LockedSceneKeepsItsGrade :
    StoreOk fetching.store ∧ LooksOk fetching.table ∧ LocksOk fetching ∧ PutsOpenLook fetching
      ∧ exec (.sceneFetchComplete (sceneBits 200 9 0 1024)) fetching = .next (put (sceneBits 200 9 0 1024) (fourScenes true))
      ∧ lookup 150 fetching.store = some (scene 140 2 5 (.dissolve 4) true, some (scene 100 1 0 .cut false)) :=
  ⟨storeOk_of_fits (by decide +kernel) (by decide +kernel) (by decide +kernel), by decide +kernel, by decide +kernel,
    putsOpenLook_of (by decide +kernel), rfl, by decide +kernel⟩

/-- The part recording on link A, for the law of passes and links. -/
def oneLink : State :=
  { running with
    pending := [.mark]
    pass := some { recordingPass with
      recording := ⟨true, false, false⟩, groups := (Vector.replicate 16 .unused).set 1 (.resolved ⟨true, false, false⟩ .all false) }
    links := ⟨heldIn .recording, LinkRec.reset, LinkRec.reset⟩ }

theorem witness_PassAndLinksAgree : PassOk oneLink := by
  refine ⟨fun h => ?_, fun p h => ?_, ?_⟩
  · cases h
  · cases h
    refine ⟨fun h => (by cases h), fun g => ?_⟩
    by_cases hg : g = 1
    · subst hg
      exact fun _ => all_links (by decide +kernel)
    · have : groupOf { recordingPass with
          recording := ⟨true, false, false⟩
          groups := (Vector.replicate 16 .unused).set 1 (.resolved ⟨true, false, false⟩ .all false) } g = .unused := by
        revert hg g
        decide +kernel
      unfold GroupOk
      rw [this]
      trivial
  · intro l h
    cases l
    · exact ⟨rfl, _, rfl, rfl, rfl⟩
    · cases h
    · cases h

end
end Sys2Proof.Tests
end

section
/-!
PROOF. Orders: what taking an order and completing an access come to, for every order.
-/
namespace Sys2Proof.Machine

/-- The order that `handedOrder` finds is the one handed over under the code (R176). -/
theorem handedOrder_eq_some {code : BitVec 8} {s : State} {b : OrderBlock} :
    handedOrder code s = some b ↔ Handed s b code := by
  unfold handedOrder Handed
  cases s.port.walker with
  | flight c p =>
    cases p with
    | handed =>
      simp only [Option.ite_none_right_eq_some, Option.some.injEq, Walker.flight.injEq, and_true]
      constructor
      · rintro ⟨hc, rfl⟩; exact ⟨rfl, hc⟩
      · rintro ⟨rfl, hc⟩; exact ⟨hc, rfl⟩
    | _ => simp
  | _ => simp

theorem withOrder_handed {code : BitVec 8} {s : State} {b : OrderBlock} (h : Handed s b code) (take : OrderBlock → State) :
    withOrder code s take = take b := by
  simp [withOrder, handedOrder_eq_some.mpr h]

/-- All that an order command can do: nothing, when no order is handed over under its code, or what taking the order does. -/
theorem withOrder_cases (code : BitVec 8) (s : State) (take : OrderBlock → State) :
    withOrder code s take = s ∨ ∃ b, Handed s b code ∧ withOrder code s take = take b := by
  cases h : handedOrder code s with
  | none => exact .inl (withOrder_none code s take h)
  | some b => exact .inr ⟨b, handedOrder_eq_some.mp h, withOrder_handed (handedOrder_eq_some.mp h) take⟩

/-- The completion of a live access of the kind that its command names. -/
theorem complete_of_live {s : State} {a : Access} {k : AccessKind} (h : Live s a k) (live stale : Access → State → State) :
    complete (· == k) s live stale = live a (endAccess a s) := by
  obtain ⟨ha, hk, hs⟩ := h
  exact complete_live _ s live stale a ha (by simp [hk]) hs

theorem withProgress_cases (s : State) (take : OrderBlock → Progress → State) :
    withProgress s take = s ∨ ∃ b p, s.port.walker = .flight b p ∧ withProgress s take = take b p := by
  cases h : s.port.walker with
  | flight b p => exact .inr ⟨b, p, rfl, withProgress_flight s b p take h⟩
  | _ => exact .inl (by simp [withProgress, h])

/-- The checks of an offset against the window are the manual's. -/
theorem inWindow_iff (offset len : Nat) : inWindow offset len = true ↔ OffsetOk offset len := by
  simp only [inWindow, Bool.and_eq_true, beq_iff_eq, decide_eq_true_eq]
  rfl

theorem isFrame_iff (f : Int) : isFrame f = true ↔ FrameOk f := by
  simp only [isFrame, Bool.and_eq_true, decide_eq_true_eq]
  rfl

theorem loadInRange_iff (offset count : Nat) :
    loadInRange offset count = true ↔ (1 ≤ count ∧ count ≤ 2048) ∧ OffsetOk offset (64 * count) := by
  simp only [loadInRange, Bool.and_eq_true, decide_eq_true_eq, inWindow_iff]
  rfl

end Sys2Proof.Machine
end

section
/-!
PROOF. Store: the scene store read by index, and what a put, a removal, a clear and a change of flags make of it.
-/
namespace Sys2Proof.Machine

/-! ### Neighbours by index -/

/-- The predecessor of the record at an index, below a record `p`. -/
def predFrom (p : Option Scene) (store : List Scene) : Nat → Option Scene
  | 0 => p
  | j + 1 => store[j]?

theorem placedFrom_getElem? (p : Option Scene) (store : List Scene) (i : Nat) :
    (placedFrom p store)[i]? = store[i]?.map fun x => ⟨predFrom p store i, x, store[i + 1]?⟩ := by
  induction store generalizing p i with
  | nil => simp [placedFrom]
  | cons s rest ih =>
    cases i with
    | zero => simp [placedFrom, predFrom, List.head?_eq_getElem?]
    | succ j =>
      simp only [placedFrom, List.getElem?_cons_succ, ih]
      cases j <;> rfl

/-- A record with its neighbours stands in the store at some index. -/
theorem mem_placed {store : List Scene} {x : Placed} :
    x ∈ placed store ↔
      ∃ i, store[i]? = some x.scene ∧ x.pred = predFrom none store i ∧ x.succ = store[i + 1]? := by
  simp only [placed, List.mem_iff_getElem?, placedFrom_getElem?, Option.map_eq_some_iff]
  constructor
  · rintro ⟨i, y, hy, rfl⟩
    exact ⟨i, hy, rfl, rfl⟩
  · rintro ⟨i, hi, hp, hs⟩
    refine ⟨i, x.scene, hi, ?_⟩
    rw [← hp, ← hs]

/-- A statement about some placed record, read off the store by index. -/
theorem exists_placed {store : List Scene} {q : Placed → Prop} :
    (∃ x ∈ placed store, q x) ↔ ∃ i x, store[i]? = some x ∧ q ⟨predFrom none store i, x, store[i + 1]?⟩ := by
  simp only [mem_placed]
  constructor
  · rintro ⟨⟨p, x, n⟩, ⟨i, hi, rfl, rfl⟩, hq⟩
    exact ⟨i, x, hi, hq⟩
  · rintro ⟨i, x, hi, hq⟩
    exact ⟨_, ⟨i, hi, rfl, rfl⟩, hq⟩

theorem forall_predFrom {store : List Scene} {i : Nat} {q : Scene → Prop} :
    (∀ p, predFrom none store i = some p → q p) ↔ ∀ j p, j + 1 = i → store[j]? = some p → q p := by
  cases i with
  | zero => simp [predFrom]
  | succ k => exact ⟨fun h j p hj => by cases hj; exact h p, fun h p => h k p rfl⟩

theorem exists_predFrom {store : List Scene} {i : Nat} {q : Scene → Prop} :
    (∃ p, predFrom none store i = some p ∧ q p) ↔ ∃ j, j + 1 = i ∧ ∃ p, store[j]? = some p ∧ q p := by
  cases i <;> simp [predFrom]

/-! ### Span protection (R9) -/

theorem covers_iff {x : Placed} {f : Int} :
    x.covers f = true ↔ x.scene.start ≤ f ∧ ∀ n, x.succ = some n → f < n.start := by
  cases h : x.succ <;> simp [Placed.covers, h]

theorem guardsPred_iff {x : Placed} {f : Int} :
    x.guardsPred f = true ↔
      x.scene.transition.dissolves = true ∧ f < x.scene.start ∧ ∀ p, x.pred = some p → p.start ≤ f := by
  cases h : x.pred <;> simp [Placed.guardsPred, h, and_assoc]

theorem startsAt_iff {f : Int} {o : Option Scene} : startsAt f o = true ↔ ∃ s, o = some s ∧ s.start = f := by
  cases o <;> simp [startsAt]

/-- Settles O4: the neighbours of a placed record are those at the indices beside its own. -/
theorem spanProtectionReadsTheNeighbours : Obligations.SpanProtectionReadsTheNeighbours := by
  unfold Obligations.SpanProtectionReadsTheNeighbours
  intro store f
  constructor
  · simp [putProtected, exists_placed, covers_iff, guardsPred_iff, forall_predFrom]
  · simp [removeProtected, exists_placed, startsAt_iff, exists_predFrom, or_assoc]

end Sys2Proof.Machine
end

section
/-!
PROOF. Puts: a record put into the store (R2, R5 to R7, R12), by PUT SCENE and by LOAD SCENES.
-/
namespace Sys2Proof.Machine

/-! ### Insertion in start-frame order -/

/-- The store stands in strictly increasing start frame (R2). -/
abbrev StartsRise (store : List Scene) : Prop := store.Pairwise fun x y => x.start < y.start

/-- A put record is in the store, and so is every other record but one at the same start frame (R12). -/
theorem mem_insertScene {x y : Scene} {store : List Scene} (h : StartsRise store) :
    y ∈ insertScene x store ↔ y = x ∨ (y ∈ store ∧ y.start ≠ x.start) := by
  induction store with
  | nil => simp [insertScene]
  | cons s rest ih =>
    obtain ⟨hs, hrest⟩ := List.pairwise_cons.mp h
    have above (z : Scene) (hz : z ∈ rest) (hle : x.start ≤ s.start) : z.start ≠ x.start := by
      have := hs z hz; omega
    simp only [insertScene]
    split
    · have : s.start ≠ x.start := by omega
      have : ∀ z ∈ rest, z.start ≠ x.start := fun z hz => above z hz (by omega)
      simp only [List.mem_cons]
      aesop
    · split
      · have : ∀ z ∈ rest, z.start ≠ x.start := fun z hz => above z hz (by omega)
        simp only [List.mem_cons]
        aesop
      · have : s.start ≠ x.start := by omega
        simp only [List.mem_cons, ih hrest]
        aesop

theorem startsRise_insertScene {x : Scene} {store : List Scene} (h : StartsRise store) :
    StartsRise (insertScene x store) := by
  induction store with
  | nil => simp [insertScene]
  | cons s rest ih =>
    obtain ⟨hs, hrest⟩ := List.pairwise_cons.mp h
    simp only [insertScene]
    split
    · rename_i hlt
      refine List.pairwise_cons.mpr ⟨fun y hy => ?_, h⟩
      rcases List.mem_cons.mp hy with rfl | hy
      · exact hlt
      · exact Int.lt_trans hlt (hs y hy)
    · split
      · rename_i heq
        exact List.pairwise_cons.mpr ⟨fun y hy => heq ▸ hs y hy, hrest⟩
      · refine List.pairwise_cons.mpr ⟨fun y hy => ?_, ih hrest⟩
        rcases (mem_insertScene hrest).mp hy with rfl | ⟨hy, -⟩
        · omega
        · exact hs y hy

theorem hasStart_iff {store : List Scene} {f : Int} : hasStart store f = true ↔ ∃ y ∈ store, y.start = f := by
  simp [hasStart]

/-- A put makes the store longer by one record at most, and not at all when it replaces one. -/
theorem length_insertScene {x : Scene} {store : List Scene} (h : StartsRise store) :
    (insertScene x store).length = if hasStart store x.start then store.length else store.length + 1 := by
  induction store with
  | nil => simp [insertScene, hasStart]
  | cons s rest ih =>
    obtain ⟨hs, hrest⟩ := List.pairwise_cons.mp h
    simp only [insertScene]
    split
    · rename_i hlt
      have hno : hasStart (s :: rest) x.start = false := by
        rw [Bool.eq_false_iff, Ne, hasStart_iff]
        rintro ⟨y, hy, hf⟩
        rcases List.mem_cons.mp hy with rfl | hy
        · omega
        · have := hs y hy; omega
      simp [hno]
    · split
      · rename_i heq
        simp [hasStart, heq]
      · rename_i hne
        have hcons : hasStart (s :: rest) x.start = hasStart rest x.start := by
          simp [hasStart, Ne.symm hne]
        rw [List.length_cons, ih hrest, hcons]
        split <;> rfl

/-! ### The checks of R5 and R12 -/

/-- The offsets of the keys are above `o` and rise strictly. -/
theorem keysRise_iff (o : Nat) (keys : List TrimKey) :
    keysRise o keys = true ↔ (∀ k ∈ keys, o < k.offset) ∧ keys.Pairwise fun x y => x.offset < y.offset := by
  induction keys generalizing o with
  | nil => simp [keysRise]
  | cons k ks ih =>
    simp only [keysRise, Bool.and_eq_true, decide_eq_true_eq, ih, List.forall_mem_cons, List.pairwise_cons]
    constructor
    · rintro ⟨ho, hk, hks⟩
      exact ⟨⟨ho, fun y hy => Nat.lt_trans ho (hk y hy)⟩, hk, hks⟩
    · rintro ⟨⟨ho, -⟩, hk, hks⟩
      exact ⟨ho, hk, hks⟩

/-- The counted keys' offsets fail R5 when one is 0 or they do not rise. -/
theorem not_keysRise_zero (keys : List TrimKey) :
    ¬ keysRise 0 keys = true ↔ (∃ k ∈ keys, k.offset = 0) ∨ ¬ keys.Pairwise fun x y => x.offset < y.offset := by
  rw [keysRise_iff, not_and_or]
  simp

/-- The structural checks of the model are those of R5. -/
theorem malformed_iff (r : RawScene) : r.malformed = true ↔ RecordFaulty r := by
  simp only [RawScene.malformed, RawScene.counted, Bool.or_eq_true, Bool.not_eq_true', Bool.and_eq_true,
    decide_eq_true_eq, beq_iff_eq, ← Bool.not_eq_true, isFrame_iff, not_keysRise_zero, or_assoc]

theorem putVerdict_malformed {store : List Scene} {r : RawScene} (h : RecordFaulty r) :
    putVerdict store r = .refused .range := by
  simp [putVerdict, (malformed_iff r).mpr h]

theorem putVerdict_protected {store : List Scene} {r : RawScene} (h : ¬ RecordFaulty r)
    (hp : putProtected store r.start = true) : putVerdict store r = .refused .locked := by
  simp [putVerdict, (malformed_iff r).not.mpr h, hp]

theorem putVerdict_full {store : List Scene} {r : RawScene} (h : ¬ RecordFaulty r)
    (hp : putProtected store r.start = false) (hs : hasStart store r.start = false) (hl : 2048 ≤ store.length) :
    putVerdict store r = .refused .full := by
  have : Config.storeCapacity ≤ store.length := hl
  simp [putVerdict, (malformed_iff r).not.mpr h, hp, hs, this]

theorem putVerdict_stored {store : List Scene} {r : RawScene} (h : ¬ RecordFaulty r)
    (hp : putProtected store r.start = false) (hs : hasStart store r.start = true ∨ store.length < 2048) :
    putVerdict store r = .stored r.clamps (hasStart store r.start) := by
  have : ¬ (!hasStart store r.start && decide (Config.storeCapacity ≤ store.length)) = true := by
    rcases hs with hs | hs
    · simp [hs]
    · have : ¬ Config.storeCapacity ≤ store.length := Nat.not_le.mpr hs
      simp [this]
  simp only [putVerdict, (malformed_iff r).not.mpr h, hp, if_neg this, Bool.false_eq_true, if_false]

/-- All that a fetched record can meet (R12): a refusal, or a place in the store once every check is passed. -/
theorem putVerdict_cases (store : List Scene) (r : RawScene) :
    (∃ o, putVerdict store r = .refused o ∧ (o = .range ∨ o = .locked ∨ o = .full))
      ∨ (putVerdict store r = .stored r.clamps (hasStart store r.start) ∧ ¬ RecordFaulty r
          ∧ putProtected store r.start = false ∧ (hasStart store r.start = true ∨ store.length < 2048)) := by
  by_cases hf : RecordFaulty r
  · exact .inl ⟨_, putVerdict_malformed hf, .inl rfl⟩
  cases hp : putProtected store r.start with
  | true => exact .inl ⟨_, putVerdict_protected hf hp, .inr (.inl rfl)⟩
  | false =>
    by_cases hs : hasStart store r.start = true ∨ store.length < 2048
    · exact .inr ⟨putVerdict_stored hf hp hs, hf, rfl, hs⟩
    · rw [not_or, Bool.not_eq_true, Nat.not_lt] at hs
      exact .inl ⟨_, putVerdict_full hf hp hs.1 hs.2, .inr (.inr rfl)⟩

/-! ### Clamping (R6) -/

/-- A record counts as clamped when its stored form differs from it. -/
theorem clamps_eq_false (r : RawScene) :
    r.clamps = false ↔ r.stored.own = r.own ∧ r.stored.keys = r.keys.take r.keyCount := by
  simp [RawScene.clamps, RawScene.stored, RawScene.counted]

/-- The record of the PUT SCENE in flight is in (R12). -/
theorem exec_sceneFetchComplete {s : State} {a : Access} {b : OrderBlock} {offset : Nat} (record : BitVec 512)
    (ha : Live s a .sceneFetch) (hw : s.port.walker = .flight b (.fetchScene offset)) :
    exec (.sceneFetchComplete record) s = .next (putFetched b (decodeScene record) (endAccess a s)) :=
  congrArg Host.Outcome.next ((complete_of_live ha _ _).trans (withProgress_flight (endAccess a s) b _ _ hw))

theorem putFetched_refused {b : OrderBlock} {r : RawScene} {s : State} {o : OutcomeCode}
    (h : putVerdict s.store r = .refused o) : putFetched b r s = finish b o 0 s := by
  simp only [putFetched, h]

theorem putFetched_stored {b : OrderBlock} {r : RawScene} {s : State} {c d : Bool}
    (h : putVerdict s.store r = .stored c d) :
    putFetched b r s = finish b (storedOutcome c) (bit d) { s with store := insertScene r.stored s.store } := by
  simp only [putFetched, h]

/-- Settles O5: each verdict of R12 by the check that gives it, and the stored record read off its definition. -/
theorem fetchedSceneIsPut : Obligations.FetchedSceneIsPut := by
  unfold Obligations.FetchedSceneIsPut
  intro s a b offset record ha hw r u stored
  have hstored : hasStart s.store r.start = true ↔ stored := hasStart_iff
  have hexec : exec (.sceneFetchComplete record) s = .next (putFetched b r u) := exec_sceneFetchComplete record ha hw
  have hrefused (o : OutcomeCode) (hv : putVerdict s.store r = .refused o) :
      exec (.sceneFetchComplete record) s = .next (finish b o 0 u) :=
    hexec.trans (congrArg _ (putFetched_refused hv))
  refine ⟨fun h => hrefused _ (putVerdict_malformed h), fun h hp => hrefused _ (putVerdict_protected h hp),
    fun h hp hno hl => hrefused _ (putVerdict_full h hp ?_ hl), fun h hp hroom => ?_⟩
  · rwa [Bool.eq_false_iff, Ne, hstored]
  rw [← hstored] at hroom
  have hlook : r.look ≤ 63 := by
    by_contra hc; exact h (.inr (.inr (.inl (by omega))))
  have hgroup : r.group ≤ 15 := by
    by_contra hc; exact h (by simp only [RecordFaulty]; omega)
  refine ⟨r.stored, insertScene r.stored s.store, storedOutcome r.clamps, bit (hasStart s.store r.start), ?_, ?_, ?_,
    rfl, rfl, Nat.mod_eq_of_lt (by omega), Nat.mod_eq_of_lt (by omega), rfl, rfl, rfl, rfl, rfl, rfl, ?_⟩
  · exact hexec.trans (congrArg _ (putFetched_stored (putVerdict_stored h hp hroom)))
  · rw [← hstored]
    cases hasStart s.store r.start <;> simp [bit]
  · cases hc : r.clamps with
    | false =>
      obtain ⟨hown, hkeys⟩ := (clamps_eq_false r).mp hc
      exact .inl ⟨hown, hkeys, rfl⟩
    | true => exact .inr ⟨fun hsame => by simp [(clamps_eq_false r).mpr hsame] at hc, rfl⟩
  · rintro ⟨-, hrise, -⟩
    exact ⟨startsRise_insertScene hrise, fun y => mem_insertScene hrise⟩

/-! ### LOAD SCENES -/

/-- The outcome with which PUT SCENE answers a verdict (R6, R12). -/
def PutVerdict.outcome : PutVerdict → OutcomeCode
  | .refused o => o
  | .stored clamped _ => storedOutcome clamped

/-- The detail count with which PUT SCENE answers a verdict (R12). -/
def PutVerdict.detail : PutVerdict → Nat
  | .refused _ => 0
  | .stored _ replaced => bit replaced

/-- PUT SCENE stores what `putRecord` says, and answers by its verdict. -/
theorem putFetched_eq (b : OrderBlock) (r : RawScene) (s : State) :
    putFetched b r s
      = finish b (putVerdict s.store r).outcome (putVerdict s.store r).detail { s with store := putRecord s.store r } := by
  cases h : putVerdict s.store r with
  | refused o => rw [putFetched_refused h, putRecord, h]; rfl
  | stored c d => rw [putFetched_stored h, putRecord, h]; rfl

/-- A load counts a record by the outcome that PUT SCENE would answer with (R18). -/
theorem afterPut_eq (run : LoadRun) (store : List Scene) (r : RawScene) :
    run.afterPut (putVerdict store r)
      = if (putVerdict store r).outcome = .ok then { run with index := run.index + 1 }
        else if (putVerdict store r).outcome = .clamped then { run with index := run.index + 1, clamped := true }
        else
          { run with
            index := run.index + 1
            refused := run.refused + 1
            firstRefused := some (run.firstRefused.getD run.index) } := by
  obtain ⟨o, hv, ho⟩ | ⟨hv, -⟩ := putVerdict_cases store r
  · have hfirst : (run.firstRefused <|> some run.index) = some (run.firstRefused.getD run.index) := by
      cases run.firstRefused <;> rfl
    rw [hv, LoadRun.afterPut, hfirst]
    rcases ho with rfl | rfl | rfl <;> rfl
  · rw [hv]
    cases r.clamps <;> simp [LoadRun.afterPut, PutVerdict.outcome, storedOutcome]

theorem LoadRun.result_eq (run : LoadRun) :
    run.result = if 0 < run.refused then ⟨.partially, run.refused⟩
      else if run.clamped = true then ⟨.clamped, 0⟩ else ⟨.ok, 0⟩ := by
  unfold LoadRun.result storedOutcome
  cases run.clamped <;> rfl

theorem LoadRun.afterPut_index (run : LoadRun) (v : PutVerdict) : (run.afterPut v).index = run.index + 1 := by
  cases v <;> rfl

theorem LoadRun.afterPut_count (run : LoadRun) (v : PutVerdict) : (run.afterPut v).count = run.count := by
  cases v <;> rfl

/-- The load goes on or ends by one step of its order (R18, R19). -/
theorem nextLoad_eq (b : OrderBlock) (run : LoadRun) (s : State) :
    nextLoad b run s = proceed b
      (if run.index < run.count then .fetchLoad run else .resultIndex (run.firstRefused.getD run.count) run.result) s := by
  unfold nextLoad
  split <;> rfl

/-- A record of the LOAD SCENES in flight is in (R18). -/
theorem exec_loadRecordFetchComplete {s : State} {a : Access} {b : OrderBlock} {run : LoadRun} (record : BitVec 512)
    (ha : Live s a .loadFetch) (hw : s.port.walker = .flight b (.fetchLoad run)) :
    exec (.loadRecordFetchComplete record) s
      = .next (nextLoad b (run.afterPut (putVerdict s.store (decodeScene record)))
          { endAccess a s with store := putRecord s.store (decodeScene record) }) :=
  congrArg Host.Outcome.next ((complete_of_live ha _ _).trans (withProgress_flight (endAccess a s) b _ _ hw))

/-- Settles O8: both orders put the record by `putRecord` and answer or count it by the same verdict. -/
theorem loadRecordIsDealtWithAsPut : Obligations.LoadRecordIsDealtWithAsPut := by
  unfold Obligations.LoadRecordIsDealtWithAsPut
  intro s a b run record ha hw
  refine ⟨putRecord s.store (decodeScene record), (putVerdict s.store (decodeScene record)).outcome,
    run.afterPut (putVerdict s.store (decodeScene record)), ?_, afterPut_eq run s.store _, ?_⟩
  · intro p a' b' offset ha' hw' hstore
    refine ⟨(putVerdict s.store (decodeScene record)).detail, ?_⟩
    rw [exec_sceneFetchComplete record ha' hw', putFetched_eq, endAccess_store, hstore]
  · rw [exec_loadRecordFetchComplete record ha hw, nextLoad_eq, LoadRun.afterPut_index, LoadRun.afterPut_count,
      LoadRun.result_eq]

end Sys2Proof.Machine
end

section
/-!
PROOF. SceneOrders: the scene orders as they are taken: PUT SCENE, LOAD SCENES, REMOVE SCENE and CLEAR SCENES, and the walks of
READ SCENES and READ LOOKS.
-/
namespace Sys2Proof.Machine

/-- `exec` takes the order that is handed over under its command's code (R176). -/
theorem next_withOrder {code : BitVec 8} {s : State} {b : OrderBlock} (h : Handed s b code) (take : OrderBlock → State) :
    (.next (withOrder code s take) : Host.Outcome State Fault Refusal) = .next (take b) :=
  congrArg _ (withOrder_handed h take)

theorem passExists_iff (s : State) : passExists s = true ↔ s.pass ≠ none := by
  simp [Option.isSome_iff_ne_none]

/-! ### PUT SCENE and LOAD SCENES (R11, R12, R17) -/

theorem exec_putScene {s : State} {b : OrderBlock} (h : Handed s b 1) : exec .putScene s = .next (takePutScene b s) :=
  next_withOrder h _

theorem exec_loadScenes {s : State} {b : OrderBlock} (h : Handed s b 6) :
    exec .loadScenes s = .next (takeLoadScenes b s) := next_withOrder h _

/-- A mode byte names a mode when it is 0 or 1. -/
theorem flagCode_eq_none {v : Nat} : flagCode v = none ↔ ¬ v ≤ 1 := by
  unfold flagCode
  split <;> [skip; split] <;> simp <;> omega

/-- A refused LOAD SCENES takes some 16-bit result index with it (R17, R176). -/
theorem refuseLoad_eq (b : OrderBlock) (o : OutcomeCode) (s : State) :
    ∃ i, i < 65536 ∧ refuseLoad b o s = proceed b (.resultIndex i ⟨o, 0⟩) { s with freeIndex := s.freeIndex + 1 } :=
  ⟨_, Nat.mod_lt _ (by decide), rfl⟩

/-- LOAD SCENES refused, whatever its result index. -/
theorem exec_loadScenes_refused {s : State} {b : OrderBlock} {o : OutcomeCode} (hb : Handed s b 6)
    (h : takeLoadScenes b s = refuseLoad b o s) :
    ∃ i, i < 65536
      ∧ exec .loadScenes s = .next (proceed b (.resultIndex i ⟨o, 0⟩) { s with freeIndex := s.freeIndex + 1 }) := by
  obtain ⟨i, hi, hr⟩ := refuseLoad_eq b o s
  exact ⟨i, hi, by rw [exec_loadScenes hb, h, hr]⟩

/-- A LOAD SCENES outside R17's ranges is refused. -/
theorem takeLoadScenes_range {b : OrderBlock} {s : State} (hp : s.pass = none)
    (h : ¬ (loadInRange (param b 12 4) (param b 16 2) = true ∧ param b 18 1 ≤ 1)) :
    takeLoadScenes b s = refuseLoad b .range s := by
  cases hr : loadInRange (param b 12 4) (param b 16 2) with
  | false => simp [takeLoadScenes, hp, hr]
  | true =>
    have hmode : flagCode (param b 18 1) = none := flagCode_eq_none.mpr fun hle => h ⟨hr, hle⟩
    simp [takeLoadScenes, hp, hr, hmode]

/-- A LOAD SCENES within R17's ranges requests its first record, in mode REPLACE after a clear. -/
theorem takeLoadScenes_accepted {b : OrderBlock} {s : State} {replace : Bool} (hp : s.pass = none)
    (hr : loadInRange (param b 12 4) (param b 16 2) = true) (hm : flagCode (param b 18 1) = some replace) :
    takeLoadScenes b s = proceed b (.fetchLoad ⟨param b 12 4, param b 16 2, 0, 0, none, false⟩)
      { s with store := if replace then clearStore s.store else s.store } := by
  simp [takeLoadScenes, hp, hr, hm]

/-- Settles O3: the checks of each order in turn, and the fetch as the walker's access. -/
theorem sceneOrdersRequestTheirFetches : Obligations.SceneOrdersRequestTheirFetches := by
  unfold Obligations.SceneOrdersRequestTheirFetches
  constructor
  · intro s b hb
    rw [exec_putScene hb]
    refine ⟨fun hp => ?_, fun hp hw => ?_, fun hp hw => ⟨?_, fun free => rfl⟩⟩
    · exact congrArg _ (if_pos ((passExists_iff s).mpr hp))
    · rw [← inWindow_iff, Bool.not_eq_true] at hw
      simp [takePutScene, hp, hw]
    · rw [← inWindow_iff] at hw
      simp [takePutScene, hp, hw]
  · intro s b hb
    simp only [← loadInRange_iff]
    refine ⟨fun hp => exec_loadScenes_refused hb ?_, fun hp h => exec_loadScenes_refused hb (takeLoadScenes_range hp h),
      fun hp hr hm => ?_, fun hp hr hm => ?_⟩
    · exact if_pos ((passExists_iff s).mpr hp)
    · rw [exec_loadScenes hb, takeLoadScenes_accepted (replace := false) hp hr (by simp [flagCode, hm])]
      rfl
    · rw [exec_loadScenes hb, takeLoadScenes_accepted (replace := true) hp hr (by simp [flagCode, hm])]
      rfl

/-! ### REMOVE SCENE and CLEAR SCENES (R13, R14) -/

theorem map_scene_placedFrom (p : Option Scene) (store : List Scene) :
    (placedFrom p store).map Placed.scene = store := by
  induction store generalizing p with
  | nil => rfl
  | cons s rest ih => simp [placedFrom, ih]

theorem kept_iff {x : Placed} :
    x.kept = true ↔ x.scene.locked = true ∨ (∃ p, x.pred = some p ∧ p.locked = true)
      ∨ ∃ n, x.succ = some n ∧ n.locked = true ∧ n.transition.dissolves = true := by
  cases hp : x.pred <;> cases hs : x.succ <;> simp [Placed.kept, hp, hs, or_assoc]

/-- A clear takes records away and keeps the order of the others (R14). -/
theorem clearStore_sublist (store : List Scene) : (clearStore store).Sublist store := by
  have h := (List.filter_sublist (p := Placed.kept) (l := placed store)).map Placed.scene
  rwa [placed, map_scene_placedFrom] at h

/-- No record stands twice in a store in strictly increasing start frame. -/
theorem index_unique {store : List Scene} (h : StartsRise store) {i j : Nat} {x : Scene} (hi : store[i]? = some x)
    (hj : store[j]? = some x) : i = j := by
  have hn : store.Nodup := h.imp fun hlt heq => by rw [heq] at hlt; exact Int.lt_irrefl _ hlt
  obtain ⟨hil, -⟩ := List.getElem?_eq_some_iff.mp hi
  exact (List.getElem?_inj hil hn).mp (hi.trans hj.symm)

theorem mem_clearStore {store : List Scene} {x : Scene} :
    x ∈ clearStore store ↔
      ∃ i, store[i]? = some x ∧ Placed.kept ⟨predFrom none store i, x, store[i + 1]?⟩ = true := by
  simp only [clearStore, List.mem_map, List.mem_filter, and_assoc]
  rw [exists_placed]
  constructor
  · rintro ⟨i, y, hi, hk, rfl⟩
    exact ⟨i, hi, hk⟩
  · rintro ⟨i, hi, hk⟩
    exact ⟨i, x, hi, hk, rfl⟩

/-- The record at an index stays in a clear by its own lock and those of its neighbours (R14). -/
theorem mem_clearStore_of_index {store : List Scene} (h : StartsRise store) {i : Nat} {x : Scene}
    (hi : store[i]? = some x) :
    x ∈ clearStore store ↔ Placed.kept ⟨predFrom none store i, x, store[i + 1]?⟩ = true := by
  rw [mem_clearStore]
  constructor
  · rintro ⟨j, hj, hk⟩
    rwa [index_unique h hi hj]
  · exact fun hk => ⟨i, hi, hk⟩

theorem mem_removeAt {store : List Scene} {f : Int} {x : Scene} : x ∈ removeAt store f ↔ x ∈ store ∧ x.start ≠ f := by
  simp [removeAt]

/-- Settles O6: the checks of the two orders in turn, and what a removal and a clear leave in the store. -/
theorem removalsObeyProtection : Obligations.RemovalsObeyProtection := by
  unfold Obligations.RemovalsObeyProtection
  constructor
  · intro s b hb f
    have hexec : exec .removeScene s = .next (takeRemoveScene b s) := next_withOrder hb _
    rw [hexec]
    have hstart : (∃ x ∈ s.store, x.start = f) → hasStart s.store f = true := hasStart_iff.mpr
    refine ⟨fun hp => ?_, fun hp hno => ?_, fun hp hx hprot => ?_, fun hp hx hprot => ?_⟩
    · exact congrArg _ (if_pos ((passExists_iff s).mpr hp))
    · have : hasStart s.store f = false := by
        rw [Bool.eq_false_iff, Ne, hasStart_iff]
        exact fun ⟨x, hx, hf⟩ => hno x hx hf
      simp [takeRemoveScene, hp, f, this]
    · simp [takeRemoveScene, hp, f, hstart hx, hprot]
    · exact ⟨removeAt s.store f, by simp [takeRemoveScene, hp, f, hstart hx, hprot], List.filter_sublist,
        fun x => mem_removeAt⟩
  · intro s b hb
    have hexec : exec .clearScenes s = .next (takeClearScenes b s) := next_withOrder hb _
    rw [hexec]
    refine ⟨fun hp => ?_, fun hp => ⟨?_, clearStore_sublist _, ?_⟩⟩
    · exact congrArg _ (if_pos ((passExists_iff s).mpr hp))
    · simp [takeClearScenes, hp]
    · rintro ⟨-, hrise, -⟩ i x hi
      rw [mem_clearStore_of_index hrise hi, kept_iff, exists_predFrom]
      simp only [exists_and_left]

/-! ### READ SCENES and READ LOOKS (R20, R38) -/

/-- A record is left to read while the count is not reached and the store holds another at or above the first frame (R20). -/
theorem nextRecord_isSome (run : SceneRead) (s : State) :
    (nextRecord run s).isSome = true
      ↔ run.written < run.count ∧ run.written < s.store.countP fun x => decide (run.first ≤ x.start) := by
  unfold nextRecord
  split
  · rename_i h
    simp [h, readable, List.countP_eq_length_filter]
  · rename_i h
    simp [h]

theorem nextRead_eq (b : OrderBlock) (run : SceneRead) (s : State) :
    nextRead b run s
      = if run.written < run.count ∧ run.written < s.store.countP fun x => decide (run.first ≤ x.start) then
          proceed b (.slotScene run) s
        else finish b .ok run.written s := by
  simp only [nextRead, nextRecord_isSome]

/-- Settles O9: the parameter checks, and a walk's next slot by what is left to write. -/
theorem readOrdersWalkTheirTables : Obligations.ReadOrdersWalkTheirTables := by
  unfold Obligations.ReadOrdersWalkTheirTables
  refine ⟨⟨?_, ?_⟩, ?_, ?_⟩
  · intro s b hb first offset count ok
    have hexec : exec .readScenes s = .next (takeReadScenes b s) := next_withOrder hb _
    have hok : loadInRange offset count = true ↔ ok := loadInRange_iff offset count
    have htaken (h : ok) : takeReadScenes b s = nextRead b ⟨first, count, offset, 0⟩ s := by
      simp [takeReadScenes, offset, count, first, hok.mpr h]
    refine ⟨fun h => ?_, fun h ⟨x, hx, hf⟩ => ?_, fun h hno => ?_⟩
    · have : loadInRange offset count = false := by rwa [Bool.eq_false_iff, Ne, hok]
      simp [hexec, takeReadScenes, offset, count, this]
    · have hleft : 0 < s.store.countP fun x => decide (first ≤ x.start) :=
        List.countP_pos_iff.mpr ⟨x, hx, by simpa using hf⟩
      obtain ⟨⟨hcount, -⟩, -⟩ := id h
      rw [hexec, htaken h, nextRead_eq, if_pos ⟨hcount, hleft⟩]
    · have hleft : (s.store.countP fun x => decide (first ≤ x.start)) = 0 :=
        List.countP_eq_zero.mpr fun x hx => by have := hno x hx; simp; omega
      rw [hexec, htaken h, nextRead_eq, if_neg (by simp [hleft])]
  · intro s a b run ha hw left
    have hexec : exec .readScenesSlotWritten s
        = .next (nextRead b { run with written := run.written + 1 } (endAccess a s)) :=
      congrArg Host.Outcome.next ((complete_of_live ha _ _).trans (withProgress_flight (endAccess a s) b _ _ hw))
    rw [hexec, nextRead_eq]
    rfl
  · intro s b hb first count offset ok
    have hexec : exec .readLooks s = .next (takeReadLooks b s) := next_withOrder hb _
    have hok : (first ≤ 63 ∧ 1 ≤ count ∧ count ≤ 64 ∧ first + count ≤ 64 ∧ inWindow offset (32 * count) = true) ↔ ok := by
      simp only [ok, inWindow_iff, and_assoc]
    rw [hexec]
    exact ⟨fun h => congrArg _ (if_neg (hok.not.mpr h)), fun h => congrArg _ (if_pos (hok.mpr h))⟩
  · intro s a b run ha hw
    have hexec : exec .readLooksSlotWritten s
        = .next (nextLook b { run with written := run.written + 1 } (endAccess a s)) :=
      congrArg Host.Outcome.next ((complete_of_live ha _ _).trans (withProgress_flight (endAccess a s) b _ _ hw))
    rw [hexec, nextLook]

end Sys2Proof.Machine
end

section
/-!
PROOF. Chains: the look table's chains and lock counts (R10, R26, R29), and the orders that lock and unlock scenes (R15, R16).
-/
namespace Sys2Proof.Machine

/-! ### One look's record -/

theorem lookAt_setLook (t : LookTable) (i j : Fin 64) (l : Look) :
    lookAt (setLook t i l) j = if j = i then l else lookAt t j := by
  simp only [lookAt, setLook, Vector.getElem_set, Fin.ext_iff, eq_comm]

@[simp] theorem lookAt_setLook_same (t : LookTable) (i : Fin 64) (l : Look) : lookAt (setLook t i l) i = l := by
  simp [lookAt_setLook]

theorem lookAt_setLook_other {t : LookTable} {i j : Fin 64} (l : Look) (h : j ≠ i) :
    lookAt (setLook t i l) j = lookAt t j := by
  simp [lookAt_setLook, h]

@[simp] theorem setLook_house (t : LookTable) (i : Fin 64) (l : Look) : (setLook t i l).house = t.house := rfl

/-! ### Chains (R26) -/

/-- A chain stays as it is when the looks on it keep their parents. -/
theorem chain_congr {t u : LookTable} (n : Nat) (i : Fin 64)
    (h : ∀ j ∈ chain t n i, (lookAt u j).parent = (lookAt t j).parent) : chain u n i = chain t n i := by
  induction n generalizing i with
  | zero => rfl
  | succ n ih =>
    by_cases hi : i = 0
    · simp [chain, hi]
    · simp only [chain, hi, if_false, List.forall_mem_cons] at h ⊢
      rw [h.1, ih _ h.2]

theorem lookChain_congr {t u : LookTable} (i : Fin 64)
    (h : ∀ j ∈ lookChain t i, (lookAt u j).parent = (lookAt t j).parent) : lookChain u i = lookChain t i :=
  chain_congr 63 i h

/-! ### The looks a scene depends on (R10) -/

/-- A scene depends on its own look's chain and, when it dissolves, on that of its predecessor's look. -/
theorem mem_dependsOn {t : LookTable} {x : Placed} {j : Fin 64} :
    j ∈ dependsOn t x ↔ j ∈ lookChain t x.scene.look
      ∨ (x.scene.transition.dissolves = true ∧ ∃ p, x.pred = some p ∧ j ∈ lookChain t p.look) := by
  cases hp : x.pred <;> cases hd : x.scene.transition.dissolves <;>
    simp [dependsOn, hp, hd, List.mem_eraseDups]

/-- What a scene depends on stays as it is when those looks keep their parents. -/
theorem dependsOn_congr {t u : LookTable} (x : Placed)
    (h : ∀ j ∈ dependsOn t x, (lookAt u j).parent = (lookAt t j).parent) : dependsOn u x = dependsOn t x := by
  have hown : lookChain u x.scene.look = lookChain t x.scene.look :=
    lookChain_congr _ fun j hj => h j (mem_dependsOn.mpr (.inl hj))
  have hout (p : Scene) (hp : x.pred = some p) (hd : x.scene.transition.dissolves = true) :
      lookChain u p.look = lookChain t p.look :=
    lookChain_congr _ fun j hj => h j (mem_dependsOn.mpr (.inr ⟨hd, p, hp, hj⟩))
  unfold dependsOn
  rw [hown]
  cases hd : x.scene.transition.dissolves with
  | false => rfl
  | true =>
    cases hp : x.pred with
    | none => rfl
    | some p => simp only [hout p hp hd]

/-- What a scene depends on is read off its look, its transition and its predecessor's look alone. -/
theorem dependsOn_scene_congr (t : LookTable) {x y : Placed} (hl : y.scene.look = x.scene.look)
    (hd : y.scene.transition.dissolves = x.scene.transition.dissolves)
    (hp : x.scene.transition.dissolves = true → y.pred.map Scene.look = x.pred.map Scene.look) :
    dependsOn t y = dependsOn t x := by
  unfold dependsOn
  rw [hl, hd]
  cases h : x.scene.transition.dissolves with
  | false => rfl
  | true =>
    have hp := hp h
    cases hx : x.pred <;> cases hy : y.pred <;> simp_all

theorem nodup_eraseDups {α : Type} [BEq α] [LawfulBEq α] (l : List α) : l.eraseDups.Nodup := by
  induction hn : l.length using Nat.strong_induction_on generalizing l with
  | _ n ih =>
    cases l with
    | nil => simp
    | cons a as =>
      rw [List.eraseDups_cons, List.nodup_cons]
      have hlen : (as.filter fun b => !b == a).length < n := by
        rw [← hn, List.length_cons]
        exact Nat.lt_succ_of_le (List.length_filter_le ..)
      exact ⟨by simp [List.mem_eraseDups], ih _ hlen _ rfl⟩

theorem nodup_dependsOn (t : LookTable) (x : Placed) : (dependsOn t x).Nodup := nodup_eraseDups _

/-! ### Lock counts (R29) -/

theorem changeLocks_house (f : Nat → Nat) (ids : List (Fin 64)) (t : LookTable) :
    (changeLocks f ids t).house = t.house := by
  unfold changeLocks
  induction ids generalizing t with
  | nil => rfl
  | cons i ids ih => exact ih _

/-- Each look of a list without repeats has its lock count changed once, and nothing else changes. -/
theorem lookAt_changeLocks (f : Nat → Nat) {ids : List (Fin 64)} (hn : ids.Nodup) (t : LookTable) (j : Fin 64) :
    lookAt (changeLocks f ids t) j
      = { lookAt t j with locks := if ids.contains j then f (lookAt t j).locks else (lookAt t j).locks } := by
  induction ids generalizing t with
  | nil => rfl
  | cons i ids ih =>
    obtain ⟨hi, hids⟩ := List.nodup_cons.mp hn
    have step : changeLocks f (i :: ids) t
        = changeLocks f ids (setLook t i { lookAt t i with locks := f (lookAt t i).locks }) := rfl
    rw [step, ih hids]
    by_cases hj : j = i
    · subst hj
      simp [hi]
    · simp [lookAt_setLook_other _ hj, hj]

theorem countLocks_house (f : Nat → Nat) (scenes : List Placed) (t : LookTable) :
    (countLocks f scenes t).house = t.house := by
  unfold countLocks
  induction scenes generalizing t with
  | nil => rfl
  | cons x scenes ih => exact (ih _).trans (changeLocks_house ..)

/-- A look's lock count is changed once for each of the scenes that depends on it, and nothing else changes. -/
theorem lookAt_countLocks (f : Nat → Nat) (scenes : List Placed) (t : LookTable) (j : Fin 64) :
    lookAt (countLocks f scenes t) j
      = { lookAt t j with
          locks := f^[scenes.countP fun x => (dependsOn t x).contains j] (lookAt t j).locks } := by
  induction scenes generalizing t with
  | nil => rfl
  | cons x scenes ih =>
    have step : countLocks f (x :: scenes) t = countLocks f scenes (changeLocks f (dependsOn t x) t) := rfl
    have hlook := lookAt_changeLocks f (nodup_dependsOn t x) t
    have hdep (y : Placed) : dependsOn (changeLocks f (dependsOn t x) t) y = dependsOn t y :=
      dependsOn_congr y fun i _ => by rw [hlook]
    rw [step, ih, hlook]
    simp only [hdep, List.countP_cons, Function.iterate_add_apply]
    cases (dependsOn t x).contains j <;> rfl

theorem lookAt_countLocks_succ (scenes : List Placed) (t : LookTable) (j : Fin 64) :
    lookAt (countLocks (· + 1) scenes t) j
      = { lookAt t j with
          locks := (lookAt t j).locks + scenes.countP fun x => (dependsOn t x).contains j } := by
  rw [lookAt_countLocks, ← Nat.succ_iterate]

theorem lookAt_countLocks_pred (scenes : List Placed) (t : LookTable) (j : Fin 64) :
    lookAt (countLocks (· - 1) scenes t) j
      = { lookAt t j with
          locks := (lookAt t j).locks - scenes.countP fun x => (dependsOn t x).contains j } := by
  rw [lookAt_countLocks, ← Nat.pred_iterate]
  rfl

/-! ### LOCK SCENES and UNLOCK SCENES (R15, R16) -/

/-- The scenes that a lock order changes, with its range read as one check. -/
theorem inRangeScenes_eq (first last : Int) (flag : Bool) (store : List Scene) :
    inRangeScenes first last flag store = (placed store).filter fun x =>
      decide (first ≤ x.scene.start ∧ x.scene.start ≤ last) && x.scene.locked == flag := by
  simp only [inRangeScenes, Bool.decide_and]

theorem flagRange_eq (first last : Int) (flag : Bool) (store : List Scene) :
    flagRange first last flag store
      = store.map fun x => if first ≤ x.start ∧ x.start ≤ last then { x with locked := flag } else x := by
  simp only [flagRange, Bool.and_eq_true, decide_eq_true_eq]

theorem lockRange_passActive (flag : Bool) (change : Nat → Nat) {b : OrderBlock} {s : State} (hp : s.pass ≠ none) :
    lockRange flag change b s = finish b .passActive 0 s := if_pos ((passExists_iff s).mpr hp)

theorem lockRange_accepted (flag : Bool) (change : Nat → Nat) {b : OrderBlock} {s : State} (hp : s.pass = none) :
    lockRange flag change b s
      = finish b .ok (inRangeScenes (paramFrame b 12) (paramFrame b 16) (!flag) s.store).length
          { s with
            store := flagRange (paramFrame b 12) (paramFrame b 16) flag s.store
            table := countLocks change (inRangeScenes (paramFrame b 12) (paramFrame b 16) (!flag) s.store) s.table } :=
  if_neg (by simp [hp])

/-- Settles O7: both orders are `lockRange`, and its lock counts are those of `countLocks`. -/
theorem lockOrdersMoveFlagsAndCounts : Obligations.LockOrdersMoveFlagsAndCounts := by
  unfold Obligations.LockOrdersMoveFlagsAndCounts
  intro s b inRange changed uses
  have hchanged (flag : Bool) : inRangeScenes (paramFrame b 12) (paramFrame b 16) flag s.store = changed flag :=
    inRangeScenes_eq ..
  have hlock (h : Handed s b 4) : exec .lockScenes s = .next (lockRange true (· + 1) b s) := next_withOrder h _
  have hunlock (h : Handed s b 5) : exec .unlockScenes s = .next (lockRange false (· - 1) b s) := next_withOrder h _
  refine ⟨fun h hp => ?_, fun h hp => ?_, fun h hp => ⟨countLocks (· + 1) (changed false) s.table, ?_,
    countLocks_house .., lookAt_countLocks_succ _ _⟩, fun h hp => ⟨countLocks (· - 1) (changed true) s.table, ?_,
    countLocks_house .., lookAt_countLocks_pred _ _⟩⟩
  · rw [hlock h, lockRange_passActive _ _ hp]
  · rw [hunlock h, lockRange_passActive _ _ hp]
  · rw [hlock h, lockRange_accepted _ _ hp, flagRange_eq, Bool.not_true, hchanged]
  · rw [hunlock h, lockRange_accepted _ _ hp, flagRange_eq, Bool.not_false, hchanged]

end Sys2Proof.Machine
end

section
/-!
PROOF. SceneChange: all that a command can do to the scene store, the look table and the fetch of a look record, said once. Every
invariant of the store and of the looks is then a case analysis over these changes.
-/
namespace Sys2Proof.Machine

/-! ### Commands that keep scenes and looks -/

/-- A stored record without its statistics part. -/
def Scene.bare (x : Scene) : Scene := { x with stats := none }

/-- The order in flight waits for the record of a PUT LOOK of look `i` (R31). -/
abbrev FetchesLook (s : State) (i : Fin 64) : Prop := ∃ b o, s.port.walker = .flight b (.fetchLook i o)

/-- Between `s` and `t` no scene has changed but in its statistics part, no look has changed, and no PUT LOOK has begun its
fetch. -/
structure ScenesKept (s t : State) : Prop where
  store : t.store.map Scene.bare = s.store.map Scene.bare
  table : t.table = s.table
  fetch : ∀ i, FetchesLook t i → FetchesLook s i

theorem ScenesKept.refl (s : State) : ScenesKept s s := ⟨rfl, rfl, fun _ h => h⟩

theorem ScenesKept.trans {s t u : State} (h : ScenesKept s t) (k : ScenesKept t u) : ScenesKept s u :=
  ⟨k.store.trans h.store, k.table.trans h.table, fun i hi => h.fetch i (k.fetch i hi)⟩

theorem ScenesKept.same {s t : State} (hs : t.store = s.store) (ht : t.table = s.table)
    (hw : t.port.walker = s.port.walker) : ScenesKept s t :=
  ⟨by rw [hs], ht, fun i hi => by rwa [FetchesLook, hw] at hi⟩

theorem ScenesKept.closed {s t : State} (hs : t.store = s.store) (ht : t.table = s.table) (hw : ∀ i, ¬ FetchesLook t i) :
    ScenesKept s t := ⟨by rw [hs], ht, fun i hi => absurd hi (hw i)⟩

theorem SideFrame.scenes {s t : State} (h : SideFrame s t) : ScenesKept s t :=
  .same h.store h.table (by rw [h.port])

theorem not_fetchesLook_proceed {p : Progress} (hp : ∀ i o, p ≠ .fetchLook i o) (b : OrderBlock) (s : State)
    (i : Fin 64) : ¬ FetchesLook (proceed b p s) i := by
  rintro ⟨c, o, h⟩
  cases h
  exact hp i o rfl

theorem not_fetchesLook_finish (b : OrderBlock) (o : OutcomeCode) (d : Nat) (s : State) (i : Fin 64) :
    ¬ FetchesLook (finish b o d s) i := not_fetchesLook_proceed (by simp) b s i

/-- An order that finishes without a change of scenes and looks. -/
theorem ScenesKept.finish {s t : State} (h : SideFrame s t) (b : OrderBlock) (o : OutcomeCode) (d : Nat) :
    ScenesKept s (finish b o d t) :=
  .closed h.store h.table (not_fetchesLook_finish b o d t)

theorem kept_withOrder {code : BitVec 8} {s : State} {take : OrderBlock → State} (h : ∀ b, ScenesKept s (take b)) :
    ScenesKept s (withOrder code s take) := by
  obtain he | ⟨b, -, he⟩ := withOrder_cases code s take <;> rw [he]
  · exact .refl s
  · exact h b

theorem endAccess_kept (a : Access) (s : State) : ScenesKept s (endAccess a s) := .same rfl rfl rfl

theorem kept_complete {isKind : AccessKind → Bool} {s : State} {live stale : Access → State → State}
    (hl : ∀ a t, ScenesKept t (live a t)) (hs : ∀ a t, ScenesKept t (stale a t)) :
    ScenesKept s (complete isKind s live stale) := by
  obtain he | ⟨a, -, -, ⟨-, he⟩ | ⟨-, he⟩ | ⟨-, he⟩⟩ := complete_cases isKind s live stale <;> rw [he]
  · exact .refl s
  · exact (endAccess_kept a s).trans (hl a _)
  · exact (endAccess_kept a s).trans (hs a _)
  · exact endAccess_kept a s

theorem unused_kept (a : Access) (s : State) : ScenesKept s (unused a s) := .refl s

/-! ### A field event -/

theorem Scene.bare_writeStats (start : Int) (x : Stats) (store : List Scene) :
    (writeStats start x store).map Scene.bare = store.map Scene.bare := by
  rw [writeStats, List.map_map]
  refine List.map_congr_left fun y _ => ?_
  simp only [Function.comp_apply]
  split <;> rfl

theorem takeJudgement_kept (j : Option AlertFlags) (s : State) : ScenesKept s (takeJudgement j s) := by
  unfold takeJudgement
  split
  · exact .refl s
  · simp only; split <;> exact .same rfl rfl rfl

theorem statsField_kept (m : Measurement) (e : Bool) (s : State) : ScenesKept s (statsField m e s) := by
  unfold statsField
  split
  · exact .refl s
  · exact ⟨Scene.bare_writeStats .., rfl, fun _ h => h⟩

theorem setLevel_kept (s : State) (l : Level) : ScenesKept s { s with level := l } := .same rfl rfl rfl

theorem setLight_kept (s : State) (l : Light) : ScenesKept s { s with light := l } := .same rfl rfl rfl

theorem setJournal_kept (s : State) (j : Journal) : ScenesKept s { s with journal := j } := .same rfl rfl rfl

theorem setReports_kept (s : State) (r : Reports) : ScenesKept s { s with reports := r } := .same rfl rfl rfl

theorem closeTally_kept (s : State) : ScenesKept s (closeTally s) := by
  unfold closeTally
  split
  · exact .refl s
  · simp only; split
    · exact (setLevel_kept s _).trans (offer_frame ..).scenes
    · exact setLevel_kept s _

theorem tallyField_kept (m : Measurement) (j : Option AlertFlags) (s : State) : ScenesKept s (tallyField m j s) := by
  unfold tallyField
  split
  · simp only; split
    · exact (closeTally_kept s).trans (setLevel_kept ..)
    · exact setLevel_kept ..
  · exact .refl s

theorem dealMeasurement_kept (m : Measurement) (s : State) : ScenesKept s (dealMeasurement m s) := by
  unfold dealMeasurement
  simp only
  refine ScenesKept.trans ?_ (tallyField_kept ..)
  split
  · exact (setLevel_kept ..).trans ((takeJudgement_kept ..).trans (statsField_kept ..))
  · exact (setLevel_kept ..).trans (takeJudgement_kept ..)

theorem finishOpen_kept (s : State) : ScenesKept s (finishOpen s) := by
  unfold finishOpen
  split
  · exact .refl s
  · exact (setLevel_kept ..).trans (dealMeasurement_kept ..)

theorem levelField_kept (s : State) : ScenesKept s (levelField s) := by
  have hclose (t : State) : ScenesKept t (closeIfEnded t) := by
    unfold closeIfEnded
    split
    · exact .refl t
    · exact closeTally_kept t
  unfold levelField
  split
  · exact (finishOpen_kept s).trans ((hclose _).trans (setLevel_kept ..))
  · exact .refl s

/-- One block's share of a field event keeps the scenes, but for a statistics part, and the looks. -/
theorem runAct_kept (a : FieldAct) (s : State) : ScenesKept s (runAct a s) := by
  cases a with
  | grade => simp only [runAct, gradeField]; split <;> exact .same rfl rfl rfl
  | restCount => simp only [runAct, restField]; split <;> exact .same rfl rfl rfl
  | restEntry => simp only [runAct, decideRest]; split <;> exact .same rfl rfl rfl
  | measure => exact levelField_kept s
  | framers => simp only [runAct, framersField]; split <;> exact .same rfl rfl rfl
  | silence => simp only [runAct, silenceField]; split <;> exact .same rfl rfl rfl
  | timer l => exact ((checkTimer_frame l s).trans (tellLosses_frame ..)).scenes
  | autoDown l => exact ((decideDown_frame l s).trans (tellLosses_frame ..)).scenes
  | pass => exact (passField_frame s).scenes
  | report =>
    simp only [runAct, reportField]
    split <;> [split; skip] <;> exact .same rfl rfl rfl
  | poll => simp only [runAct, pollField]; split <;> exact .same rfl rfl rfl

theorem runActs_kept (acts : List FieldAct) (s : State) : ScenesKept s (acts.foldl (fun s a => runAct a s) s) := by
  induction acts generalizing s with
  | nil => exact .refl s
  | cons a acts ih => exact (runAct_kept a s).trans (ih _)

theorem publish_kept (p : Parity) (timer : Bool) (s : State) : ScenesKept s (publish p timer s) := by
  have href (was : Bool) (u : State) : SideFrame u (noteReference was timer u) := by
    unfold noteReference
    split
    · exact .refl u
    · exact (raise_frame ..).trans (offer_frame ..)
  have hslip (slip : Option Int) (f : Int) (u : State) : SideFrame u (offerSlip slip f u) := by
    unfold offerSlip
    split
    · exact .refl u
    · split
      · exact offer_frame ..
      · exact .refl u
  have hpos : ScenesKept s (blankOutput { s with follower := followField s.follower p timer }) := .same rfl rfl rfl
  exact hpos.trans ((href ..).trans (hslip ..)).scenes

theorem fieldStep_kept (p : Parity) (timer : Bool) (order : List FieldAct) (s : State) :
    ScenesKept s (fieldStep p timer order s) :=
  (runActs_kept optionalActs s).trans ((publish_kept ..).trans (runActs_kept ..))

/-! ### Light samples, links and the pass -/

theorem takeReading_kept (reading : Nat) (s : State) : ScenesKept s (takeReading reading s) := by
  have hservice (t : State) : ScenesKept t (serviceCheck t) := by
    unfold serviceCheck
    split
    · exact (setLight_kept ..).trans ((raise_frame ..).trans (offer_frame ..)).scenes
    · exact .refl t
  have hlow : ScenesKept s (lowReading reading s) := by
    unfold lowReading
    simp only
    split
    · exact (setLight_kept ..).trans ((raise_frame ..).trans (offer_frame ..)).scenes
    · exact .same rfl rfl rfl
  unfold takeReading
  split
  · exact .refl s
  · split
    · exact .refl s
    · split
      · exact hlow
      · exact (setLight_kept ..).trans (hservice _)

/-! ### The port -/

/-- Judging a link leaves the walker idle or reading a block (R174). -/
theorem judgeLink_kept (v : BitVec 32) (n : Nat) (s : State) : ScenesKept s (judgeLink v n s) := by
  have hw (i : Fin 64) : ¬ FetchesLook (judgeLink v n s) i := by
    rintro ⟨b, o, h⟩
    unfold judgeLink at h
    simp only at h
    split at h
    · cases h
    · split at h
      · split at h <;> cases h
      · split at h <;> cases h
  exact .closed (by rw [judgeLink_port]) (by rw [judgeLink_port]) hw

theorem pollComplete_kept (s : State) : ScenesKept s (pollComplete s) := .same rfl rfl rfl

theorem follows_kept (o : BitVec 32) (s : State) : ScenesKept s (follows o s) := .same rfl rfl rfl

theorem closeBlock_kept (b : OrderBlock) (s : State) : ScenesKept s (closeBlock b s) := by
  rw [closeBlock_port]
  exact .closed rfl rfl fun _ ⟨_, _, h⟩ => nomatch h

theorem setWalker_kept {w : Walker} (hw : ∀ b i o, w ≠ .flight b (.fetchLook i o)) (s : State) :
    ScenesKept s (setWalker w s) := .closed rfl rfl fun i ⟨b, o, h⟩ => hw b i o h

theorem proceed_kept {p : Progress} (hp : ∀ i o, p ≠ .fetchLook i o) (b : OrderBlock) (s : State) :
    ScenesKept s (proceed b p s) := .closed rfl rfl (not_fetchesLook_proceed hp b s)

theorem finish_kept (b : OrderBlock) (o : OutcomeCode) (d : Nat) (s : State) : ScenesKept s (finish b o d s) :=
  proceed_kept (by simp) b s

theorem afterHeader_kept (s : State) : ScenesKept s (afterHeader s) := by
  unfold afterHeader
  split
  · split
    · exact (pollComplete_kept s).trans (judgeLink_kept ..)
    · exact .same rfl rfl rfl
  all_goals exact pollComplete_kept s

theorem afterBlock_kept (block : BitVec 256) (s : State) : ScenesKept s (afterBlock block s) := by
  unfold afterBlock
  split
  · unfold actOnBlock
    split
    · exact setWalker_kept (by simp) s
    · split
      · exact setWalker_kept (by simp) s
      · split
        · exact (follows_kept ..).trans (judgeLink_kept ..)
        · exact setWalker_kept (by simp) s
  all_goals exact .refl s

theorem afterTaken_kept (s : State) : ScenesKept s (afterTaken s) := by
  unfold afterTaken
  split
  · exact setWalker_kept (by simp) s
  · split
    · exact proceed_kept (by simp) _ s
    · exact finish_kept ..
  all_goals exact .refl s

theorem afterAborted_kept (s : State) : ScenesKept s (afterAborted s) := by
  unfold afterAborted
  split
  · split
    · exact closeBlock_kept _ s
    · exact (closeBlock_kept _ s).trans (judgeLink_kept ..)
  · exact closeBlock_kept _ s
  all_goals exact .refl s

theorem kept_withProgress {s : State} {take : OrderBlock → Progress → State} (h : ∀ b p, ScenesKept s (take b p)) :
    ScenesKept s (withProgress s take) := by
  obtain he | ⟨b, p, -, he⟩ := withProgress_cases s take <;> rw [he]
  · exact .refl s
  · exact h b p

theorem afterResultIndex_kept (s : State) : ScenesKept s (afterResultIndex s) := by
  refine kept_withProgress fun b p => ?_
  cases p with
  | resultIndex i r => exact proceed_kept (by simp) b s
  | _ => exact .refl s

theorem afterFinal_kept (s : State) : ScenesKept s (afterFinal s) := by
  refine kept_withProgress fun b p => ?_
  cases p with
  | finishing r => exact closeBlock_kept b s
  | _ => exact .refl s

theorem advanceFill_kept (s : State) : ScenesKept s (advanceFill s) := by
  unfold advanceFill
  simp only
  split <;> exact .same rfl rfl rfl

theorem afterJournal_kept (a : Access) (s : State) : ScenesKept s (afterJournal a s) := by
  unfold afterJournal
  split
  · simp only
    split <;> split
    · exact (setJournal_kept ..).trans (advanceFill_kept _)
    · exact advanceFill_kept s
    · exact setJournal_kept ..
    · exact .refl s
  all_goals exact .refl s

theorem afterReport_kept (a : Access) (s : State) : ScenesKept s (afterReport a s) := by
  unfold afterReport
  split <;> exact .same rfl rfl rfl

theorem nextRead_kept (b : OrderBlock) (run : SceneRead) (s : State) : ScenesKept s (nextRead b run s) := by
  unfold nextRead
  split
  · exact proceed_kept (by simp) b s
  · exact finish_kept ..

theorem nextLook_kept (b : OrderBlock) (run : LookRead) (s : State) : ScenesKept s (nextLook b run s) := by
  unfold nextLook
  split
  · exact proceed_kept (by simp) b s
  · exact finish_kept ..

theorem afterSceneSlot_kept (s : State) : ScenesKept s (afterSceneSlot s) := by
  refine kept_withProgress fun b p => ?_
  cases p with
  | slotScene run => exact nextRead_kept ..
  | _ => exact .refl s

theorem afterLookSlot_kept (s : State) : ScenesKept s (afterLookSlot s) := by
  refine kept_withProgress fun b p => ?_
  cases p with
  | slotLook run => exact nextLook_kept ..
  | _ => exact .refl s

theorem dataFault_kept (s : State) : ScenesKept s (dataFault s) := by
  refine kept_withProgress fun b p => ?_
  cases p with
  | fetchScene o => exact finish_kept ..
  | fetchLoad run => exact proceed_kept (by simp) b s
  | slotScene run => exact finish_kept ..
  | fetchLook i o => exact finish_kept ..
  | slotLook run => exact finish_kept ..
  | _ => exact .refl s

/-- A halt ends the fetch of a look record (R171). -/
theorem haltPart_kept (cause : HaltCause) (s : State) : ScenesKept s (haltPart cause s) := by
  refine .closed rfl rfl fun i ⟨b, o, h⟩ => ?_
  have h : haltWalker s.port = .flight b (.fetchLook i o) := h
  unfold haltWalker at h
  split at h
  all_goals first | cases h | (split at h <;> cases h)

theorem letBlockBe_kept (a : Access) (s : State) : ScenesKept s (letBlockBe a s) := by
  unfold letBlockBe
  split
  · exact setWalker_kept (by simp) s
  · exact .refl s

theorem busErrorNow_kept (s : State) : ScenesKept s (busErrorNow s) := by
  have hdrop : ScenesKept s (dropAccess s) := .same rfl rfl rfl
  have hraise (t : State) : ScenesKept t (raise .bus t) := (raise_frame ..).scenes
  unfold busErrorNow
  split
  · exact .refl s
  · rename_i a _
    refine hdrop.trans ?_
    split
    · exact .refl _
    · split
      · unfold errorRunning
        split
        · split
          · exact dataFault_kept _
          · exact .refl _
        · exact (letBlockBe_kept ..).trans ((hraise _).trans (haltPart_kept ..))
        · exact (hraise _).trans (haltPart_kept ..)
        · exact (setReports_kept ..).trans (hraise _)
      · unfold errorHalted
        split
        · exact .refl _
        · exact (letBlockBe_kept ..).trans (hraise _)
        · exact hraise _
        · exact hraise _

theorem grantAccess_kept (s : State) : ScenesKept s (grantAccess s) := by
  obtain he | ⟨r, -, -, he⟩ := grantAccess_cases s <;> rw [he]
  · exact .refl s
  · cases r <;> exact .same rfl rfl rfl

/-! ### The orders that keep scenes and looks -/

theorem takePutScene_kept (b : OrderBlock) (s : State) : ScenesKept s (takePutScene b s) := by
  unfold takePutScene
  split
  · exact finish_kept ..
  · split
    · exact finish_kept ..
    · exact proceed_kept (by simp) b s

theorem takeReadScenes_kept (b : OrderBlock) (s : State) : ScenesKept s (takeReadScenes b s) := by
  unfold takeReadScenes
  simp only
  split
  · exact finish_kept ..
  · exact nextRead_kept ..

theorem takeReadLooks_kept (b : OrderBlock) (s : State) : ScenesKept s (takeReadLooks b s) := by
  unfold takeReadLooks
  simp only
  split
  · exact proceed_kept (by simp) b s
  · exact finish_kept ..

theorem takeSetStandard_kept (b : OrderBlock) (s : State) : ScenesKept s (takeSetStandard b s) := by
  unfold takeSetStandard
  simp only
  repeat' split
  all_goals exact .closed rfl rfl (not_fetchesLook_finish _ _ _ _)

theorem takeSetPosition_kept (b : OrderBlock) (s : State) : ScenesKept s (takeSetPosition b s) := by
  unfold takeSetPosition
  simp only
  repeat' split
  all_goals exact .closed rfl rfl (not_fetchesLook_finish _ _ _ _)

theorem takeSetFollow_kept (b : OrderBlock) (s : State) : ScenesKept s (takeSetFollow b s) := by
  unfold takeSetFollow
  simp only
  repeat' split
  all_goals exact .closed rfl rfl (not_fetchesLook_finish _ _ _ _)

theorem takeSetPicture_kept (b : OrderBlock) (s : State) : ScenesKept s (takeSetPicture b s) := by
  unfold takeSetPicture
  repeat' split
  all_goals exact .closed rfl rfl (not_fetchesLook_finish _ _ _ _)

theorem takeSetLight_kept (b : OrderBlock) (s : State) : ScenesKept s (takeSetLight b s) := by
  have hlight : ScenesKept s (changeLight (lightArgs b) s) := (runAct_kept .restEntry s).trans (setLight_kept ..)
  unfold takeSetLight
  simp only
  split
  · exact hlight.trans (finish_kept ..)
  · exact finish_kept ..

theorem takeSetMonitor_kept (b : OrderBlock) (s : State) : ScenesKept s (takeSetMonitor b s) := by
  unfold takeSetMonitor
  repeat' split
  all_goals exact .closed rfl rfl (not_fetchesLook_finish _ _ _ _)

theorem takeAckMonitor_kept (b : OrderBlock) (s : State) : ScenesKept s (takeAckMonitor b s) := by
  unfold takeAckMonitor
  simp only
  split <;> exact .closed rfl rfl (not_fetchesLook_finish _ _ _ _)

theorem takeSetRoute_kept (b : OrderBlock) (s : State) : ScenesKept s (takeSetRoute b s) := by
  unfold takeSetRoute
  simp only
  repeat' split
  all_goals exact .closed rfl rfl (not_fetchesLook_finish _ _ _ _)

theorem takeSetLink_kept (b : OrderBlock) (s : State) : ScenesKept s (takeSetLink b s) := by
  unfold takeSetLink
  simp only
  split
  · split
    · exact .finish (changeLink_frame ..) ..
    · exact finish_kept ..
  all_goals exact finish_kept ..

theorem takeWakeLink_kept (b : OrderBlock) (s : State) : ScenesKept s (takeWakeLink b s) := by
  unfold takeWakeLink
  split
  · exact finish_kept ..
  · split
    · exact finish_kept ..
    · exact .finish (wakeByOrder_frame ..) ..

theorem takeResetLink_kept (b : OrderBlock) (s : State) : ScenesKept s (takeResetLink b s) := by
  unfold takeResetLink
  split
  · exact finish_kept ..
  · split
    · exact finish_kept ..
    · exact .finish (setLinkRec_frame ..) ..

theorem takeStartPass_kept (b : OrderBlock) (s : State) : ScenesKept s (takeStartPass b s) := by
  unfold takeStartPass
  simp only
  split
  · exact finish_kept ..
  · exact .finish (acceptPass_frame ..) ..

theorem takeAbortPass_kept (b : OrderBlock) (s : State) : ScenesKept s (takeAbortPass b s) := by
  unfold takeAbortPass
  split
  · exact .finish (abortPassNow_frame ..) ..
  · exact finish_kept ..

theorem takeSetJournal_kept (b : OrderBlock) (s : State) : ScenesKept s (takeSetJournal b s) := by
  unfold takeSetJournal
  simp only
  repeat' split
  all_goals exact .closed rfl rfl (not_fetchesLook_finish _ _ _ _)

theorem takeSetReports_kept (b : OrderBlock) (s : State) : ScenesKept s (takeSetReports b s) := by
  unfold takeSetReports
  simp only
  repeat' split
  all_goals exact .closed rfl rfl (not_fetchesLook_finish _ _ _ _)

/-! ### What a command can do -/

/-- All that a command can do to the scenes, the looks and the fetch of a look record (R8, R12 to R18, R23, R31 to R37, R41). -/
inductive SceneChange (s t : State) : Prop
  | kept (h : ScenesKept s t)
  /-- a fetched record is put (R12, R18) -/
  | put (record : BitVec 512) (hstore : t.store = putRecord s.store (decodeScene record)) (htable : t.table = s.table)
      (hfetch : ∀ i, ¬ FetchesLook t i)
  /-- a record that no locked scene needs is removed (R13) -/
  | removed (f : Int) (hprot : removeProtected s.store f = false) (hstore : t.store = removeAt s.store f)
      (htable : t.table = s.table) (hfetch : ∀ i, ¬ FetchesLook t i)
  /-- the store is cleared, by CLEAR SCENES or by a load in mode REPLACE (R14, R17) -/
  | cleared (hstore : t.store = clearStore s.store) (htable : t.table = s.table) (hfetch : ∀ i, ¬ FetchesLook t i)
  /-- the scenes of a range are locked (R15) -/
  | locked (first last : Int) (hstore : t.store = flagRange first last true s.store)
      (htable : t.table = countLocks (· + 1) (inRangeScenes first last false s.store) s.table)
      (hfetch : ∀ i, ¬ FetchesLook t i)
  /-- the scenes of a range are unlocked (R16) -/
  | unlocked (first last : Int) (hstore : t.store = flagRange first last false s.store)
      (htable : t.table = countLocks (· - 1) (inRangeScenes first last true s.store) s.table)
      (hfetch : ∀ i, ¬ FetchesLook t i)
  /-- a look that is open to a put has its record fetched (R31) -/
  | lookAsked (i : Fin 64) (h0 : i ≠ 0) (hhouse : isHouse s.table i = false) (hlocks : (lookAt s.table i).locks = 0)
      (hstore : t.store = s.store) (htable : t.table = s.table) (hfetch : ∀ j, FetchesLook t j → j = i)
  /-- a fetched look record is put (R32, R33) -/
  | lookPut (i : Fin 64) (g : Grade) (parent : Nat) (hasked : FetchesLook s i)
      (hparent : parentRefused s.table i parent = none) (hstore : t.store = s.store)
      (htable : t.table = writeLook i (clampGrade g) (Fin.ofNat 64 parent) s.table) (hfetch : ∀ j, ¬ FetchesLook t j)
  /-- the house area is set (R35) -/
  | houseSet (h : Nat) (hsize : houseSizes.contains h = true) (hstore : t.store = s.store)
      (htable : t.table = { s.table with house := h }) (hfetch : ∀ i, ¬ FetchesLook t i)
  /-- the house looks, none of them under an approval, are erased (R36, R37) -/
  | houseCleared (hlocked : houseLocked s.table = false) (hstore : t.store = s.store)
      (htable : t.table = clearHouse s.table) (hfetch : ∀ i, ¬ FetchesLook t i)
  /-- a power-on or a board reset (R23, R41) -/
  | erased (hstore : t.store = []) (htable : t.table = LookTable.reset ∨ t.table = unlockAll s.table)
      (hfetch : ∀ i, ¬ FetchesLook t i)

theorem change_withOrder {code : BitVec 8} {s : State} {take : OrderBlock → State}
    (h : ∀ b, Handed s b code → SceneChange s (take b)) : SceneChange s (withOrder code s take) := by
  obtain he | ⟨b, hb, he⟩ := withOrder_cases code s take <;> rw [he]
  · exact .kept (.refl s)
  · exact h b hb

/-- A fetch's completion changes what its live access's result changes. -/
theorem change_complete {isKind : AccessKind → Bool} {s : State} {live : Access → State → State}
    (h : ∀ a, SceneChange s (live a (endAccess a s))) : SceneChange s (complete isKind s live unused) := by
  obtain he | ⟨a, -, -, ⟨-, he⟩ | ⟨-, he⟩ | ⟨-, he⟩⟩ := complete_cases isKind s live unused <;> rw [he]
  · exact .kept (.refl s)
  · exact h a
  · exact .kept (endAccess_kept a s)
  · exact .kept (endAccess_kept a s)

theorem change_removeScene (b : OrderBlock) (s : State) : SceneChange s (takeRemoveScene b s) := by
  unfold takeRemoveScene
  simp only
  split
  · exact .kept (finish_kept ..)
  · split
    · exact .kept (finish_kept ..)
    · split
      · exact .kept (finish_kept ..)
      · rename_i hprot
        exact .removed (paramFrame b 12) (by simpa using hprot) rfl rfl (not_fetchesLook_finish _ _ _ _)

theorem change_clearScenes (b : OrderBlock) (s : State) : SceneChange s (takeClearScenes b s) := by
  unfold takeClearScenes
  split
  · exact .kept (finish_kept ..)
  · exact .cleared rfl rfl (not_fetchesLook_finish _ _ _ _)

theorem change_lockScenes (b : OrderBlock) (s : State) : SceneChange s (lockRange true (· + 1) b s) := by
  unfold lockRange
  simp only
  split
  · exact .kept (finish_kept ..)
  · exact .locked _ _ rfl rfl (not_fetchesLook_finish _ _ _ _)

theorem change_unlockScenes (b : OrderBlock) (s : State) : SceneChange s (lockRange false (· - 1) b s) := by
  unfold lockRange
  simp only
  split
  · exact .kept (finish_kept ..)
  · exact .unlocked _ _ rfl rfl (not_fetchesLook_finish _ _ _ _)

theorem change_loadScenes (b : OrderBlock) (s : State) : SceneChange s (takeLoadScenes b s) := by
  have hrefuse (o : OutcomeCode) : SceneChange s (refuseLoad b o s) :=
    .kept (.closed rfl rfl (not_fetchesLook_proceed (by simp) b _))
  unfold takeLoadScenes
  simp only
  split
  · exact hrefuse _
  · split
    · exact hrefuse _
    · split
      · exact hrefuse _
      · rename_i replace _
        have hfetch := not_fetchesLook_proceed (p := .fetchLoad ⟨param b 12 4, param b 16 2, 0, 0, none, false⟩) (by simp) b
        cases replace
        · exact .kept (.closed rfl rfl (hfetch _))
        · exact .cleared rfl rfl (hfetch _)

theorem change_sceneFetch (record : BitVec 512) (a : Access) (s : State) :
    SceneChange s (afterSceneFetch record (endAccess a s)) := by
  unfold afterSceneFetch
  obtain he | ⟨b, p, -, he⟩ := withProgress_cases (endAccess a s) _ <;> rw [he]
  · exact .kept (endAccess_kept a s)
  cases p with
  | fetchScene o =>
    simp only [putFetched_eq]
    exact .put record rfl rfl (not_fetchesLook_finish _ _ _ _)
  | _ => exact .kept (endAccess_kept a s)

theorem change_loadFetch (record : BitVec 512) (a : Access) (s : State) :
    SceneChange s (afterLoadFetch record (endAccess a s)) := by
  unfold afterLoadFetch
  obtain he | ⟨b, p, -, he⟩ := withProgress_cases (endAccess a s) _ <;> rw [he]
  · exact .kept (endAccess_kept a s)
  cases p with
  | fetchLoad run =>
    simp only [nextLoad_eq]
    exact .put record rfl rfl (not_fetchesLook_proceed (by intro i o; split <;> simp) b _)
  | _ => exact .kept (endAccess_kept a s)

theorem change_putLook (b : OrderBlock) (s : State) : SceneChange s (takePutLook b s) := by
  unfold takePutLook
  simp only
  split
  · exact .kept (finish_kept ..)
  · split
    · exact .kept (finish_kept ..)
    · split
      · exact .kept (finish_kept ..)
      · split
        · exact .kept (finish_kept ..)
        · split
          · exact .kept (finish_kept ..)
          · rename_i hindex _ hhouse hlocks
            have h0 : (Fin.ofNat 64 (param b 12 1) : Fin 64) ≠ 0 := by
              rw [Ne, Fin.ext_iff, Fin.val_ofNat, Fin.val_zero]
              omega
            refine .lookAsked _ h0 (by simpa using hhouse) (by simpa using hlocks) rfl rfl ?_
            rintro j ⟨c, o, h⟩
            cases h
            rfl

theorem change_lookFetch (record : BitVec 256) (a : Access) (s : State) :
    SceneChange s (afterLookFetch record (endAccess a s)) := by
  unfold afterLookFetch
  obtain he | ⟨b, p, hw, he⟩ := withProgress_cases (endAccess a s) _ <;> rw [he]
  · exact .kept (endAccess_kept a s)
  cases p with
  | fetchLook i o =>
    simp only [putLook]
    split
    · exact .kept ((endAccess_kept a s).trans (finish_kept ..))
    · rename_i hparent
      exact .lookPut i (decodeLookGrade record.toNat) (decodeLookParent record.toNat) ⟨b, o, hw⟩ hparent rfl rfl
        (not_fetchesLook_finish _ _ _ _)
  | _ => exact .kept (endAccess_kept a s)

theorem change_setHouseArea (b : OrderBlock) (s : State) : SceneChange s (takeSetHouseArea b s) := by
  unfold takeSetHouseArea
  simp only
  split
  · exact .kept (finish_kept ..)
  · split
    · exact .kept (finish_kept ..)
    · split
      · exact .kept (finish_kept ..)
      · rename_i hsize
        exact .houseSet (param b 12 1) (by simpa using hsize) rfl rfl (not_fetchesLook_finish _ _ _ _)

theorem change_clearHouseLooks (b : OrderBlock) (s : State) : SceneChange s (takeClearHouseLooks b s) := by
  unfold takeClearHouseLooks
  split
  · exact .kept (finish_kept ..)
  · split
    · exact .kept (finish_kept ..)
    · rename_i hlocked
      exact .houseCleared (by simpa using hlocked) rfl rfl (not_fetchesLook_finish _ _ _ _)

/-- Every command makes one of these changes. -/
theorem exec_sceneChange (c : Instr) (s : State) : ∃ t, exec c s = .next t ∧ SceneChange s t := by
  have order {code : BitVec 8} {take : OrderBlock → State} (h : ∀ b, ScenesKept s (take b)) :
      SceneChange s (withOrder code s take) := .kept (kept_withOrder h)
  have completion {isKind : AccessKind → Bool} {live : Access → State → State} (h : ∀ a t, ScenesKept t (live a t)) :
      SceneChange s (complete isKind s live unused) := .kept (kept_complete h unused_kept)
  have side {t : State} (h : SideFrame s t) : SceneChange s t := .kept h.scenes
  have same {t : State} (hs : t.store = s.store) (ht : t.table = s.table) (hw : t.port.walker = s.port.walker) :
      SceneChange s t := .kept (.same hs ht hw)
  cases c with
  | putScene => exact ⟨_, rfl, order fun b => takePutScene_kept b s⟩
  | sceneFetchComplete record => exact ⟨_, rfl, change_complete fun a => change_sceneFetch record a s⟩
  | removeScene => exact ⟨_, rfl, change_withOrder fun b _ => change_removeScene b s⟩
  | clearScenes => exact ⟨_, rfl, change_withOrder fun b _ => change_clearScenes b s⟩
  | lockScenes => exact ⟨_, rfl, change_withOrder fun b _ => change_lockScenes b s⟩
  | unlockScenes => exact ⟨_, rfl, change_withOrder fun b _ => change_unlockScenes b s⟩
  | loadScenes => exact ⟨_, rfl, change_withOrder fun b _ => change_loadScenes b s⟩
  | loadRecordFetchComplete record => exact ⟨_, rfl, change_complete fun a => change_loadFetch record a s⟩
  | readScenes => exact ⟨_, rfl, order fun b => takeReadScenes_kept b s⟩
  | readScenesSlotWritten => exact ⟨_, rfl, completion fun _ => afterSceneSlot_kept⟩
  | putLook => exact ⟨_, rfl, change_withOrder fun b _ => change_putLook b s⟩
  | lookFetchComplete record => exact ⟨_, rfl, change_complete fun a => change_lookFetch record a s⟩
  | readLooks => exact ⟨_, rfl, order fun b => takeReadLooks_kept b s⟩
  | readLooksSlotWritten => exact ⟨_, rfl, completion fun _ => afterLookSlot_kept⟩
  | setHouseArea => exact ⟨_, rfl, change_withOrder fun b _ => change_setHouseArea b s⟩
  | clearHouseLooks => exact ⟨_, rfl, change_withOrder fun b _ => change_clearHouseLooks b s⟩
  | setStandard => exact ⟨_, rfl, order fun b => takeSetStandard_kept b s⟩
  | setPosition => exact ⟨_, rfl, order fun b => takeSetPosition_kept b s⟩
  | setFollow => exact ⟨_, rfl, order fun b => takeSetFollow_kept b s⟩
  | setPicture => exact ⟨_, rfl, order fun b => takeSetPicture_kept b s⟩
  | setLight => exact ⟨_, rfl, order fun b => takeSetLight_kept b s⟩
  | setMonitor => exact ⟨_, rfl, order fun b => takeSetMonitor_kept b s⟩
  | ackMonitor => exact ⟨_, rfl, order fun b => takeAckMonitor_kept b s⟩
  | setRoute => exact ⟨_, rfl, order fun b => takeSetRoute_kept b s⟩
  | setLink => exact ⟨_, rfl, order fun b => takeSetLink_kept b s⟩
  | wakeLink => exact ⟨_, rfl, order fun b => takeWakeLink_kept b s⟩
  | resetLink => exact ⟨_, rfl, order fun b => takeResetLink_kept b s⟩
  | startPass => exact ⟨_, rfl, order fun b => takeStartPass_kept b s⟩
  | abortPass => exact ⟨_, rfl, order fun b => takeAbortPass_kept b s⟩
  | setJournal => exact ⟨_, rfl, order fun b => takeSetJournal_kept b s⟩
  | setReports => exact ⟨_, rfl, order fun b => takeSetReports_kept b s⟩
  | mark => exact ⟨_, rfl, order fun b => finish_kept b .ok 0 s⟩
  | runWritten1 => exact ⟨_, rfl, by split <;> exact same rfl rfl rfl⟩
  | runWritten0 =>
    refine ⟨_, rfl, .kept ?_⟩
    split
    · exact haltPart_kept .order s
    · exact .refl s
  | softReset => exact ⟨_, rfl, .kept (.closed rfl rfl fun _ ⟨_, _, h⟩ => nomatch h)⟩
  | powerOnReset => exact ⟨_, rfl, .erased rfl (.inl rfl) fun _ ⟨_, _, h⟩ => nomatch h⟩
  | boardReset => exact ⟨_, rfl, .erased rfl (.inr rfl) fun _ ⟨_, _, h⟩ => nomatch h⟩
  | baseWrite value => exact ⟨_, rfl, by split <;> exact same rfl rfl rfl⟩
  | attentionWrite value => exact ⟨_, rfl, same rfl rfl rfl⟩
  | noticeMaskWrite value => exact ⟨_, rfl, same rfl rfl rfl⟩
  | perfEvent d => exact ⟨_, rfl, same rfl rfl rfl⟩
  | fieldEvent p order => exact ⟨_, rfl, .kept (fieldStep_kept p false order s)⟩
  | referenceWatchExpiry order =>
    refine ⟨_, rfl, .kept ?_⟩
    split
    · exact .refl s
    · exact fieldStep_kept _ true order s
  | standInField order =>
    refine ⟨_, rfl, .kept ?_⟩
    split
    · exact fieldStep_kept _ true order s
    · exact .refl s
  | sampleTriple x =>
    have htap (z : Rgb Int) : ScenesKept s (tapTriple z s) := by
      unfold tapTriple
      split
      · exact .refl s
      · exact setLevel_kept ..
    exact ⟨_, rfl, .kept ((htap _).trans (.same rfl rfl rfl))⟩
  | lightSampleEvent reading =>
    have hblank : ScenesKept s (blankOutput s) := .same rfl rfl rfl
    exact ⟨_, rfl, .kept (hblank.trans (takeReading_kept ..))⟩
  | enterRest => exact ⟨_, rfl, by split <;> exact same rfl rfl rfl⟩
  | awake l v => exact ⟨_, rfl, side ((takeBytes_frame ..).trans (tellLosses_frame ..))⟩
  | cued l v => exact ⟨_, rfl, side ((takeBytes_frame ..).trans (tellLosses_frame ..))⟩
  | locked l v => exact ⟨_, rfl, side ((takeBytes_frame ..).trans (tellLosses_frame ..))⟩
  | written l v => exact ⟨_, rfl, side ((takeBytes_frame ..).trans (tellLosses_frame ..))⟩
  | done l v => exact ⟨_, rfl, side ((takeBytes_frame ..).trans (tellLosses_frame ..))⟩
  | trouble l v => exact ⟨_, rfl, side ((takeBytes_frame ..).trans (tellLosses_frame ..))⟩
  | damagedFrame l k v x => exact ⟨_, rfl, side ((takeBytes_frame ..).trans (tellLosses_frame ..))⟩
  | directiveSent l => exact ⟨_, rfl, side (setLinkRec_frame ..)⟩
  | wakeTimerExpiry l => exact ⟨_, rfl, side ((expiryOf_frame ..).trans (tellLosses_frame ..))⟩
  | cueTimerExpiry l => exact ⟨_, rfl, side ((expiryOf_frame ..).trans (tellLosses_frame ..))⟩
  | watchdogExpiry l => exact ⟨_, rfl, side ((expiryOf_frame ..).trans (tellLosses_frame ..))⟩
  | closeTimerExpiry l => exact ⟨_, rfl, side ((expiryOf_frame ..).trans (tellLosses_frame ..))⟩
  | autoDown l =>
    refine ⟨_, rfl, side ?_⟩
    split
    · exact (autoDownNow_frame ..).trans (tellLosses_frame ..)
    · exact .refl s
  | headerReadComplete bytes =>
    have hread (a : Access) (t : State) : ScenesKept t (afterHeaderRead bytes t) := .same rfl rfl rfl
    have hmark (a : Access) (t : State) : ScenesKept t (takeMark bytes t) := .same rfl rfl rfl
    exact ⟨_, rfl, .kept (kept_complete hread hmark)⟩
  | headerWriteComplete => exact ⟨_, rfl, completion fun _ => afterHeader_kept⟩
  | linkReadComplete link =>
    exact ⟨_, rfl, completion fun _ t => (pollComplete_kept t).trans (judgeLink_kept ..)⟩
  | blockReadComplete block => exact ⟨_, rfl, completion fun _ => afterBlock_kept block⟩
  | takenWriteComplete => exact ⟨_, rfl, completion fun _ => afterTaken_kept⟩
  | resultIndexWriteComplete => exact ⟨_, rfl, completion fun _ => afterResultIndex_kept⟩
  | finalWriteComplete => exact ⟨_, rfl, completion fun _ => afterFinal_kept⟩
  | abortedWriteComplete => exact ⟨_, rfl, completion fun _ => afterAborted_kept⟩
  | accessGrant => exact ⟨_, rfl, .kept (grantAccess_kept s)⟩
  | busError => exact ⟨_, rfl, .kept (busErrorNow_kept s)⟩
  | journalWriteComplete => exact ⟨_, rfl, completion afterJournal_kept⟩
  | reportWriteComplete => exact ⟨_, rfl, completion afterReport_kept⟩
  | startByte l => exact ⟨_, rfl, side ((takeByte_frame ..).trans (tellLosses_frame ..))⟩

/-- A step makes one of these changes, from its state with some queue of commands. -/
theorem step_sceneChange {s t : State} (h : step s = .next t) : ∃ q, SceneChange { s with pending := q } t := by
  unfold step at h
  split at h
  · cases h
    exact ⟨s.pending, .kept (.same rfl rfl rfl)⟩
  · rename_i c rest _
    obtain ⟨u, hu, hc⟩ := exec_sceneChange c { s with pending := rest }
    cases hu.symm.trans h
    exact ⟨rest, hc⟩

end Sys2Proof.Machine
end

section
/-!
PROOF. StoreLaws: every change keeps the scene store's laws (R1, R2, R5).
-/
namespace Sys2Proof.Machine

/-! ### The laws under maps and sublists -/

/-- Records changed one by one, none in its start frame or out of its ranges, keep the store's laws. -/
theorem StoreOk.map {store : List Scene} (h : StoreOk store) {f : Scene → Scene} (hstart : ∀ x, (f x).start = x.start)
    (hok : ∀ x, SceneOk x → SceneOk (f x)) : StoreOk (store.map f) := by
  obtain ⟨hlen, hrise, hscenes⟩ := h
  refine ⟨by rwa [List.length_map], ?_, ?_⟩
  · simpa only [List.pairwise_map, hstart] using hrise
  · simpa only [List.forall_mem_map] using fun x hx => hok x (hscenes x hx)

theorem StoreOk.startsRise {store : List Scene} (h : StoreOk store) : StartsRise store := h.2.1

theorem StoreOk.sublist {store rest : List Scene} (h : StoreOk store) (hs : rest.Sublist store) : StoreOk rest := by
  obtain ⟨hlen, hrise, hscenes⟩ := h
  exact ⟨hs.length_le.trans hlen, hrise.sublist hs, fun x hx => hscenes x (hs.subset hx)⟩

/-- The store's laws say nothing of statistics. -/
theorem StoreOk.of_bare {store rest : List Scene} (h : StoreOk store) (he : rest.map Scene.bare = store.map Scene.bare) :
    StoreOk rest := by
  obtain ⟨hlen, hrise, hscenes⟩ := he ▸ h.map (f := Scene.bare) (fun _ => rfl) fun _ hx => hx
  rw [List.length_map] at hlen
  rw [List.pairwise_map] at hrise
  exact ⟨hlen, hrise, fun x hx => hscenes x.bare (List.mem_map_of_mem hx)⟩

theorem StoreOk.flagRange {store : List Scene} (h : StoreOk store) (first last : Int) (flag : Bool) :
    StoreOk (flagRange first last flag store) := by
  refine h.map (fun x => ?_) fun x hx => ?_ <;> split
  exacts [rfl, rfl, hx, hx]

/-! ### A put record -/

theorem bitsOf_lt (w pos len : Nat) : bitsOf w pos len < 2 ^ len := Nat.mod_lt _ (Nat.two_pow_pos len)

/-- Clamping a key's trims leaves its offset. -/
theorem keysRise_map_clampKey (o : Nat) (keys : List TrimKey) : keysRise o (keys.map clampKey) = keysRise o keys := by
  induction keys generalizing o with
  | nil => rfl
  | cons k ks ih => simp only [List.map_cons, keysRise, ih]; rfl

/-- A record as fetched holds the widths of its layout: offsets of 16 bits (Layouts, Scene record). -/
theorem decodeScene_key_offset {record : BitVec 512} {k : TrimKey} (hk : k ∈ (decodeScene record).keys) :
    k.offset ≤ 65535 := by
  obtain ⟨i, -, rfl⟩ := List.mem_map.mp hk
  exact Nat.le_of_lt_succ (bitsOf_lt _ _ 16)

/-- A fetched record that passes R5 is stored within its ranges (R1, R5). -/
theorem sceneOk_stored {record : BitVec 512} (h : ¬ RecordFaulty (decodeScene record)) :
    SceneOk (decodeScene record).stored := by
  have hrise : keysRise 0 (decodeScene record).counted = true := by
    by_contra hc
    rcases (not_keysRise_zero _).mp hc with hzero | hfall
    · exact h (.inr (.inr (.inr (.inr (.inr (.inl hzero))))))
    · exact h (.inr (.inr (.inr (.inr (.inr (.inr (.inl hfall)))))))
  have hframe : FrameOk (decodeScene record).start := by_contra fun hc => h (.inl hc)
  have hnumber : (decodeScene record).number ≠ 0 := fun hc => h (.inr (.inl hc))
  have hlength (hd : (decodeScene record).dissolve = true) : (decodeScene record).length ≠ 0 := fun hc =>
    h (.inr (.inr (.inr (.inl ⟨hd, hc⟩))))
  have hcount : ¬ 4 < (decodeScene record).keyCount := fun hc => h (.inr (.inr (.inr (.inr (.inl hc)))))
  refine ⟨hframe, Nat.one_le_iff_ne_zero.mpr hnumber, Nat.le_of_lt_succ (bitsOf_lt _ 32 16), ?_, ?_, ?_, ?_⟩
  · rw [RawScene.stored, List.length_map]
    exact (List.length_take_le ..).trans (Nat.not_lt.mp hcount)
  · rw [RawScene.stored, keysRise_map_clampKey]
    exact hrise
  · intro k hk
    obtain ⟨raw, hraw, rfl⟩ := List.mem_map.mp hk
    have hoffset : raw.offset ≤ 65535 := decodeScene_key_offset (List.mem_of_mem_take hraw)
    exact hoffset
  · cases hd : (decodeScene record).dissolve with
    | false => simp [RawScene.stored, hd]
    | true =>
      simp only [RawScene.stored, hd, if_true]
      exact ⟨Nat.one_le_iff_ne_zero.mpr (hlength hd), Nat.le_of_lt_succ (bitsOf_lt _ 48 8)⟩

theorem putRecord_cases (store : List Scene) (r : RawScene) :
    putRecord store r = store
      ∨ (putRecord store r = insertScene r.stored store ∧ ¬ RecordFaulty r ∧ putProtected store r.start = false
          ∧ (hasStart store r.start = true ∨ store.length < 2048)) := by
  unfold putRecord
  obtain ⟨o, hv, -⟩ | ⟨hv, h⟩ := putVerdict_cases store r <;> rw [hv]
  · exact .inl rfl
  · exact .inr ⟨rfl, h⟩

theorem StoreOk.putRecord {store : List Scene} (h : StoreOk store) (record : BitVec 512) :
    StoreOk (putRecord store (decodeScene record)) := by
  obtain he | ⟨he, hok, -, hroom⟩ := putRecord_cases store (decodeScene record) <;> rw [he]
  · exact h
  obtain ⟨hlen, hrise, hscenes⟩ := h
  refine ⟨?_, startsRise_insertScene hrise, fun y hy => ?_⟩
  · have hstart : (decodeScene record).stored.start = (decodeScene record).start := rfl
    rw [length_insertScene hrise, hstart]
    split
    · exact hlen
    · rcases hroom with hroom | hroom
      · contradiction
      · exact hroom
  · rcases (mem_insertScene hrise).mp hy with rfl | ⟨hy, -⟩
    · exact sceneOk_stored hok
    · exact hscenes y hy

/-- Every change keeps the store's laws. -/
theorem SceneChange.storeOk {s t : State} (hc : SceneChange s t) (h : StoreOk s.store) : StoreOk t.store := by
  cases hc with
  | kept hk => exact h.of_bare hk.store
  | put record hstore => exact hstore ▸ h.putRecord record
  | removed f _ hstore => exact hstore ▸ h.sublist List.filter_sublist
  | cleared hstore => exact hstore ▸ h.sublist (clearStore_sublist _)
  | locked first last hstore => exact hstore ▸ h.flagRange first last true
  | unlocked first last hstore => exact hstore ▸ h.flagRange first last false
  | lookAsked i _ _ _ hstore => exact hstore ▸ h
  | lookPut i g parent _ _ hstore => exact hstore ▸ h
  | houseSet size _ hstore => exact hstore ▸ h
  | houseCleared _ hstore => exact hstore ▸ h
  | erased hstore => rw [hstore]; exact ⟨Nat.zero_le _, .nil, fun x hx => nomatch hx⟩

end Sys2Proof.Machine
end

section
/-!
PROOF. LookLaws: every change keeps the look table's laws: levels fit parents and child counts count children (R25 to R27, R33 to
R37).
-/
namespace Sys2Proof.Machine

/-! ### Child counts (R27) -/

theorem lookAt_changeChildren (f : Nat → Nat) (i : Fin 64) (t : LookTable) (j : Fin 64) :
    lookAt (changeChildren f i t) j
      = { lookAt t j with
          children := if j = i ∧ j ≠ 0 then f (lookAt t j).children else (lookAt t j).children } := by
  unfold changeChildren
  split
  · rename_i h0
    have : ¬ (j = i ∧ j ≠ 0) := fun ⟨hj, h⟩ => h (hj.trans h0)
    rw [if_neg this]
  · rename_i h0
    rw [lookAt_setLook]
    split
    · rename_i hj
      subst hj
      rw [if_pos ⟨rfl, h0⟩]
    · rename_i hj
      rw [if_neg fun h => hj h.1]

theorem changeChildren_house (f : Nat → Nat) (i : Fin 64) (t : LookTable) : (changeChildren f i t).house = t.house := by
  unfold changeChildren
  split <;> rfl

theorem childrenOf_congr {t u : LookTable} (h : ∀ j, (lookAt u j).parent = (lookAt t j).parent) (i : Fin 64) :
    childrenOf u i = childrenOf t i := by
  simp only [childrenOf, h]

/-- Counts by two tests that differ at one place alone differ by that place. -/
theorem countP_update {α : Type} {l : List α} (hn : l.Nodup) {a : α} (ha : a ∈ l) {p q : α → Bool}
    (h : ∀ b, b ≠ a → q b = p b) : l.countP q + (p a).toNat = l.countP p + (q a).toNat := by
  induction l with
  | nil => cases ha
  | cons b l ih =>
    obtain ⟨hb, hl⟩ := List.nodup_cons.mp hn
    rw [List.countP_cons, List.countP_cons]
    by_cases hab : a = b
    · subst hab
      have hsame : l.countP q = l.countP p :=
        List.countP_congr fun c hc => by rw [h c fun hca => hb (hca ▸ hc)]
      rw [hsame]
      cases p a <;> cases q a <;> rfl
    · have ih := ih hl ((List.mem_cons.mp ha).resolve_left hab)
      rw [h b (Ne.symm hab)]
      omega

/-- A look that gets a new parent leaves the children of the old one and joins those of the new one (R27). -/
theorem childrenOf_reparent {t u : LookTable} {i : Fin 64} (h : ∀ j, j ≠ i → (lookAt u j).parent = (lookAt t j).parent)
    (k : Fin 64) :
    childrenOf u k + (if (lookAt t i).parent = k then 1 else 0)
      = childrenOf t k + (if (lookAt u i).parent = k then 1 else 0) := by
  have hc := countP_update (List.nodup_finRange 64) (List.mem_finRange i) (p := fun j => (lookAt t j).parent == k)
    (q := fun j => (lookAt u j).parent == k) fun j hj => by rw [h j hj]
  simpa only [childrenOf, Bool.toNat, beq_iff_eq, cond_eq_ite] using hc

/-- The part of the look table's laws that speaks of child counts. -/
abbrev ChildrenOk (t : LookTable) : Prop := ∀ i : Fin 64, i ≠ 0 → (lookAt t i).children = childrenOf t i

/-- The part of the look table's laws that speaks of levels. -/
abbrev LevelsOk (t : LookTable) : Prop :=
  ∀ i : Fin 64, i ≠ 0 → 1 ≤ (lookAt t i).level ∧ (lookAt t i).level ≤ 4
    ∧ (lookAt t i).level = if (lookAt t i).parent = 0 then 1 else (lookAt t (lookAt t i).parent).level + 1

theorem LevelsOk.pos {t : LookTable} (h : LevelsOk t) (i : Fin 64) (hi : i ≠ 0) : 1 ≤ (lookAt t i).level := (h i hi).1

theorem LevelsOk.down {t : LookTable} (h : LevelsOk t) (i : Fin 64) (hi : i ≠ 0) (hp : (lookAt t i).parent ≠ 0) :
    (lookAt t (lookAt t i).parent).level < (lookAt t i).level := by
  obtain ⟨-, -, heq⟩ := h i hi
  rw [heq, if_neg hp]
  exact Nat.lt_succ_self _

theorem LooksOk.children {t : LookTable} (h : LooksOk t) : ChildrenOk t := fun i hi => by
  obtain ⟨-, hlooks, -⟩ := h
  obtain ⟨-, -, -, hchildren⟩ := hlooks i hi
  exact hchildren

theorem LooksOk.levels {t : LookTable} (h : LooksOk t) : LevelsOk t := fun i hi => by
  obtain ⟨-, hlooks, -⟩ := h
  obtain ⟨hlow, hhigh, hparent, -⟩ := hlooks i hi
  exact ⟨hlow, hhigh, hparent⟩

theorem LooksOk.zero {t : LookTable} (h : LooksOk t) : lookAt t 0 = ⟨unityGrade, 0, 0, 0, 0⟩ := h.1

theorem LooksOk.houseSize {t : LookTable} (h : LooksOk t) :
    [0, 4, 8, 12, 16, 20, 24, 28, 32].contains t.house = true := h.2.2

/-- No look stands lower than level 4. -/
theorem LooksOk.level_le {t : LookTable} (h : LooksOk t) (i : Fin 64) : (lookAt t i).level ≤ 4 := by
  by_cases hi : i = 0
  · rw [hi, h.zero]
    exact Nat.zero_le 4
  · obtain ⟨-, hle, -⟩ := h.levels i hi
    exact hle

/-- The laws of the look table from those of its levels and of its child counts. -/
theorem LooksOk.of_parts {t : LookTable} (hzero : lookAt t 0 = ⟨unityGrade, 0, 0, 0, 0⟩) (hlevels : LevelsOk t)
    (hchildren : ChildrenOk t) (hhouse : [0, 4, 8, 12, 16, 20, 24, 28, 32].contains t.house = true) : LooksOk t := by
  refine ⟨hzero, fun i hi => ?_, hhouse⟩
  obtain ⟨hlow, hhigh, hparent⟩ := hlevels i hi
  exact ⟨hlow, hhigh, hparent, hchildren i hi⟩

/-- A look is a parent as long as its child count is above 0. -/
theorem children_pos {t : LookTable} (h : ChildrenOk t) {i j : Fin 64} (hi : i ≠ 0) (hj : (lookAt t j).parent = i) :
    0 < (lookAt t i).children := by
  rw [h i hi]
  exact List.countP_pos_iff.mpr ⟨j, List.mem_finRange j, by simpa using hj⟩

/-! ### A look is put (R33) -/

/-- A put writes its look, and moves the child counts when the parent changes (R27, R33). -/
theorem lookAt_writeLook (i : Fin 64) (g : Grade) (p : Fin 64) (t : LookTable) (j : Fin 64) :
    lookAt (writeLook i g p t) j =
      { grade := if j = i then g else (lookAt t j).grade
        parent := if j = i then p else (lookAt t j).parent
        level := if j = i then levelUnder t p else (lookAt t j).level
        children :=
          if j = 0 ∨ p = (lookAt t i).parent then (lookAt t j).children
          else if j = p then (lookAt t j).children + 1
          else if j = (lookAt t i).parent then (lookAt t j).children - 1
          else (lookAt t j).children
        locks := (lookAt t j).locks } := by
  unfold writeLook
  simp only
  by_cases hp : p = (lookAt t i).parent
  · rw [if_pos hp, lookAt_setLook]
    by_cases hj : j = i <;> simp [hj, hp]
  · have hlevel : levelUnder (changeChildren (· + 1) p (changeChildren (· - 1) (lookAt t i).parent t)) p = levelUnder t p := by
      simp only [levelUnder, lookAt_changeChildren]
    rw [if_neg hp, lookAt_setLook, hlevel]
    have hmoved (j : Fin 64) :
        (if j = p ∧ j ≠ 0 then
            (if j = (lookAt t i).parent ∧ j ≠ 0 then (lookAt t j).children - 1 else (lookAt t j).children) + 1
          else if j = (lookAt t i).parent ∧ j ≠ 0 then (lookAt t j).children - 1 else (lookAt t j).children)
        = if j = 0 ∨ p = (lookAt t i).parent then (lookAt t j).children
          else if j = p then (lookAt t j).children + 1
          else if j = (lookAt t i).parent then (lookAt t j).children - 1
          else (lookAt t j).children := by
      by_cases h0 : j = 0
      · simp [h0]
      · by_cases hjp : j = p
        · subst hjp
          simp [h0, hp]
        · simp [h0, hjp, hp]
    by_cases hj : j = i
    · subst hj
      simp only [lookAt_changeChildren, hmoved, if_true]
    · simp only [lookAt_changeChildren, hmoved, hj, if_false]

theorem writeLook_house (i : Fin 64) (g : Grade) (p : Fin 64) (t : LookTable) : (writeLook i g p t).house = t.house := by
  unfold writeLook
  simp only
  split <;> simp only [setLook_house, changeChildren_house]

/-- A parent that R32 lets through. -/
theorem parentRefused_eq_none {t : LookTable} {i : Fin 64} {parent : Nat} (h : parentRefused t i parent = none) :
    parent = (Fin.ofNat 64 parent : Fin 64).val ∧ (Fin.ofNat 64 parent : Fin 64) ≠ i
      ∧ (Fin.ofNat 64 parent = (lookAt t i).parent ∨ (lookAt t i).children = 0)
      ∧ (Fin.ofNat 64 parent = (0 : Fin 64) ∨ (lookAt t (Fin.ofNat 64 parent)).level ≠ 4) := by
  unfold parentRefused at h
  split at h
  · cases h
  · rename_i hle
    have hval : parent = (Fin.ofNat 64 parent : Fin 64).val := by
      rw [Fin.val_ofNat]
      omega
    split at h
    · cases h
    · rename_i hself
      split at h
      · cases h
      · rename_i hchildren
        split at h
        · cases h
        · rename_i hlevel
          refine ⟨hval, fun he => hself (he ▸ hval), ?_, ?_⟩
          · rw [Fin.ext_iff, ← hval]
            omega
          · rw [Fin.ext_iff, ← hval, Fin.val_zero]
            by_cases hp : parent = 0
            · exact .inl hp
            · exact .inr fun h4 => hlevel ⟨hp, h4⟩

theorem childrenOk_writeLook {t : LookTable} (h : ChildrenOk t) (i : Fin 64) (g : Grade) (p : Fin 64) :
    ChildrenOk (writeLook i g p t) := by
  intro k hk
  have hmove := childrenOf_reparent (t := t) (u := writeLook i g p t) (i := i)
    (fun j hj => by rw [lookAt_writeLook]; simp [hj]) k
  have hparent : (lookAt (writeLook i g p t) i).parent = p := by simp [lookAt_writeLook]
  rw [hparent, ← h k hk] at hmove
  simp only [lookAt_writeLook, hk, false_or]
  split_ifs at hmove ⊢ <;> omega

theorem levelsOk_writeLook {t : LookTable} (h : LooksOk t) {i : Fin 64} (hi : i ≠ 0) (g : Grade) {p : Fin 64} (hself : p ≠ i)
    (hchildren : p = (lookAt t i).parent ∨ (lookAt t i).children = 0) (hlevel : p = 0 ∨ (lookAt t p).level ≠ 4) :
    LevelsOk (writeLook i g p t) := by
  have hunder : 1 ≤ levelUnder t p ∧ levelUnder t p ≤ 4 := by
    unfold levelUnder
    split
    · omega
    · rename_i hp0
      have hle := h.level_le p
      have := hlevel.resolve_left hp0
      omega
  intro j hj
  obtain ⟨hlow, hhigh, heq⟩ := h.levels j hj
  by_cases hji : j = i
  · subst hji
    simpa only [lookAt_writeLook, if_true, hself, if_false, levelUnder, and_true, and_assoc] using hunder
  · simp only [lookAt_writeLook, hji, if_false]
    refine ⟨hlow, hhigh, ?_⟩
    by_cases hchild : (lookAt t j).parent = i
    · have hsame : p = (lookAt t i).parent :=
        hchildren.resolve_right (Nat.ne_of_gt (children_pos h.children hi hchild))
      obtain ⟨-, -, hlevel⟩ := h.levels i hi
      rw [heq, hchild, if_neg hi, if_neg hi, if_pos rfl, hlevel, levelUnder, hsame]
    · rw [if_neg hchild]
      exact heq

/-- Putting a look whose parent R32 lets through keeps the look table's laws. -/
theorem LooksOk.writeLook {t : LookTable} (h : LooksOk t) {i : Fin 64} (hi : i ≠ 0) (g : Grade) {parent : Nat}
    (hp : parentRefused t i parent = none) : LooksOk (writeLook i g (Fin.ofNat 64 parent) t) := by
  obtain ⟨-, hself, hchildren, hlevel⟩ := parentRefused_eq_none hp
  refine .of_parts ?_ (levelsOk_writeLook h hi g hself hchildren hlevel) (childrenOk_writeLook h.children i g _)
    (by rw [writeLook_house]; exact h.houseSize)
  rw [lookAt_writeLook, h.zero]
  simp [Ne.symm hi]

/-! ### Chains end (R26) -/

/-- Where every parent stands lower by some measure, a chain is no longer than its look's measure, and more looks than that make
no difference. -/
theorem chain_of_rank {t : LookTable} {rank : Fin 64 → Nat} (hpos : ∀ i, i ≠ 0 → 1 ≤ rank i)
    (hdown : ∀ i, i ≠ 0 → (lookAt t i).parent ≠ 0 → rank (lookAt t i).parent < rank i) (n m : Nat) (i : Fin 64)
    (hi : i ≠ 0) (hn : rank i ≤ n) (hm : rank i ≤ m) :
    chain t n i = chain t m i ∧ (chain t n i).length ≤ rank i := by
  have hend (k : Nat) : chain t k 0 = [] := by cases k <;> simp [chain]
  induction n generalizing m i with
  | zero =>
    have := hpos i hi
    omega
  | succ n ih =>
    obtain ⟨m, rfl⟩ : ∃ k, m = k + 1 := ⟨m - 1, by have := hpos i hi; omega⟩
    simp only [chain, hi, if_false, List.length_cons]
    by_cases hp : (lookAt t i).parent = 0
    · rw [hp, hend, hend]
      exact ⟨rfl, hpos i hi⟩
    · have hlt := hdown i hi hp
      obtain ⟨heq, hlen⟩ := ih m _ hp (by omega) (by omega)
      exact ⟨by rw [heq], by omega⟩

/-- A look's chain is itself and its parent's chain. -/
theorem lookChain_eq {t : LookTable} {rank : Fin 64 → Nat} (hpos : ∀ i, i ≠ 0 → 1 ≤ rank i) (htop : ∀ i, rank i ≤ 62)
    (hdown : ∀ i, i ≠ 0 → (lookAt t i).parent ≠ 0 → rank (lookAt t i).parent < rank i) {i : Fin 64} (hi : i ≠ 0) :
    lookChain t i = i :: lookChain t (lookAt t i).parent := by
  have hstep : lookChain t i = i :: chain t 62 (lookAt t i).parent := by simp [lookChain, chain, hi]
  rw [hstep]
  by_cases hp : (lookAt t i).parent = 0
  · rw [hp]
    rfl
  · have htop := htop (lookAt t i).parent
    rw [(chain_of_rank hpos hdown 62 63 _ hp htop (by omega)).1]
    rfl

theorem lookChain_zero (t : LookTable) : lookChain t 0 = [] := rfl

/-- Look 0 is on no chain. -/
theorem ne_zero_of_mem_chain {t : LookTable} {n : Nat} {i j : Fin 64} (h : j ∈ chain t n i) : j ≠ 0 := by
  induction n generalizing i with
  | zero => cases h
  | succ n ih =>
    by_cases hi : i = 0
    · simp [chain, hi] at h
    · simp only [chain, hi, if_false, List.mem_cons] at h
      rcases h with rfl | h
      · exact hi
      · exact ih h

theorem ne_zero_of_mem_dependsOn {t : LookTable} {x : Placed} {j : Fin 64} (h : j ∈ dependsOn t x) : j ≠ 0 := by
  rcases mem_dependsOn.mp h with h | ⟨-, p, -, h⟩ <;> exact ne_zero_of_mem_chain h

/-- A look's level is the length of its chain (R27). -/
theorem LevelsOk.length_chain {t : LookTable} (h : LevelsOk t) (n : Nat) {i : Fin 64} (hi : i ≠ 0)
    (hn : (lookAt t i).level ≤ n) : (chain t n i).length = (lookAt t i).level := by
  induction n generalizing i with
  | zero =>
    have := h.pos i hi
    omega
  | succ n ih =>
    obtain ⟨-, -, heq⟩ := h i hi
    simp only [chain, hi, if_false, List.length_cons]
    by_cases hp : (lookAt t i).parent = 0
    · rw [heq, if_pos hp, hp]
      cases n <;> simp [chain]
    · rw [if_neg hp] at heq
      rw [ih hp (by omega), heq]

/-! ### The house looks are erased (R36, R37) -/

/-- An erasure returns its look to look 0, and takes it off its old parent's child count (R36). -/
theorem lookAt_eraseLook (t : LookTable) (i j : Fin 64) :
    lookAt (eraseLook t i) j =
      { grade := if j = i then unityGrade else (lookAt t j).grade
        parent := if j = i then 0 else (lookAt t j).parent
        level := (lookAt t j).level
        children :=
          if j = (lookAt t i).parent ∧ j ≠ 0 then (lookAt t j).children - 1 else (lookAt t j).children
        locks := (lookAt t j).locks } := by
  unfold eraseLook
  rw [lookAt_setLook]
  by_cases hj : j = i
  · subst hj
    simp only [lookAt_changeChildren, if_true]
  · simp only [lookAt_changeChildren, hj, if_false]

theorem childrenOk_eraseLook {t : LookTable} (h : ChildrenOk t) (i : Fin 64) : ChildrenOk (eraseLook t i) := by
  intro k hk
  have hmove := childrenOf_reparent (t := t) (u := eraseLook t i) (i := i)
    (fun j hj => by rw [lookAt_eraseLook]; simp [hj]) k
  have hparent : (lookAt (eraseLook t i) i).parent = 0 := by simp [lookAt_eraseLook]
  rw [hparent, ← h k hk] at hmove
  simp only [lookAt_eraseLook, hk, ne_eq, not_false_eq_true, and_true]
  split_ifs at hmove ⊢ <;> omega

/-- What the erasure of some looks has made of a table (R36), but for the grades. -/
structure Erased (ids : List (Fin 64)) (t u : LookTable) : Prop where
  parent : ∀ j, (lookAt u j).parent = if j ∈ ids then 0 else (lookAt t j).parent
  level : ∀ j, (lookAt u j).level = (lookAt t j).level
  locks : ∀ j, (lookAt u j).locks = (lookAt t j).locks
  zero : lookAt u 0 = lookAt t 0
  children : ChildrenOk t → ChildrenOk u

theorem foldl_eraseLook {ids : List (Fin 64)} (h0 : 0 ∉ ids) (t : LookTable) : Erased ids t (ids.foldl eraseLook t) := by
  induction ids generalizing t with
  | nil => exact ⟨by simp, fun _ => rfl, fun _ => rfl, rfl, id⟩
  | cons i ids ih =>
    rw [List.mem_cons, not_or] at h0
    have hrest := ih h0.2 (eraseLook t i)
    refine ⟨fun j => ?_, fun j => ?_, fun j => ?_, ?_, fun h => hrest.children (childrenOk_eraseLook h i)⟩ <;>
      rw [List.foldl_cons]
    · rw [hrest.parent, lookAt_eraseLook]
      by_cases hj : j = i <;> simp [hj]
    · rw [hrest.level, lookAt_eraseLook]
    · rw [hrest.locks, lookAt_eraseLook]
    · rw [hrest.zero, lookAt_eraseLook]
      simp [h0.1]

/-- Levels written one after the other, each by a rule that does not look at the table as it changes. -/
theorem lookAt_foldl_setLevel (level : Fin 64 → Nat) (ids : List (Fin 64)) (t : LookTable) (j : Fin 64) :
    lookAt (ids.foldl (fun v i => setLook v i { lookAt v i with level := level i }) t) j
      = { lookAt t j with level := if j ∈ ids then level j else (lookAt t j).level } := by
  induction ids generalizing t with
  | nil => simp
  | cons i ids ih =>
    rw [List.foldl_cons, ih, lookAt_setLook]
    by_cases hj : j = i
    · subst hj
      simp
    · simp [hj]

/-- The table after the erasures of CLEAR HOUSE LOOKS, before its levels are written. -/
def erasedTable (t : LookTable) : LookTable := (houseLooks t).foldl eraseLook t

/-- CLEAR HOUSE LOOKS erases, and then writes every look's level (R36, R37). -/
theorem lookAt_clearHouse (t : LookTable) (j : Fin 64) :
    lookAt (clearHouse t) j
      = { lookAt (erasedTable t) j with level := levelAfterErase (erasedTable t) (houseLooks t) j } := by
  have h := lookAt_foldl_setLevel (levelAfterErase (erasedTable t) (houseLooks t)) (List.finRange 64) (erasedTable t) j
  rw [if_pos (List.mem_finRange j)] at h
  exact h

theorem mem_houseLooks {t : LookTable} {i : Fin 64} : i ∈ houseLooks t ↔ isHouse t i = true := by
  simp [houseLooks]

/-- Look 0 is no house look, as the house area holds at most 32 looks (R35). -/
theorem isHouse_zero {t : LookTable} (h : [0, 4, 8, 12, 16, 20, 24, 28, 32].contains t.house = true) :
    isHouse t 0 = false := by
  have hle : t.house ≤ 32 := by
    simp only [List.contains_eq_mem, decide_eq_true_eq, List.mem_cons, List.not_mem_nil, or_false] at h
    omega
  have hout : 64 - t.house ≠ 0 := by omega
  simp [isHouse, hout]

theorem erased_erasedTable {t : LookTable} (h : LooksOk t) : Erased (houseLooks t) t (erasedTable t) :=
  foldl_eraseLook (by rw [mem_houseLooks, isHouse_zero h.houseSize]; simp) t

/-- The levels from before an erasure still measure the chains, which it only shortens. -/
theorem Erased.down {ids : List (Fin 64)} {t u : LookTable} (he : Erased ids t u) (h : LevelsOk t) (i : Fin 64) (hi : i ≠ 0)
    (hp : (lookAt u i).parent ≠ 0) : (lookAt t (lookAt u i).parent).level < (lookAt t i).level := by
  by_cases hm : i ∈ ids
  · rw [he.parent, if_pos hm] at hp
    exact absurd rfl hp
  · rw [he.parent, if_neg hm] at hp ⊢
    exact h.down i hi hp

/-- R37 gives every look the length of its chain as its level: where no look of the chain was erased, that is the old level. -/
theorem levelAfterErase_eq {ids : List (Fin 64)} {t u : LookTable} (he : Erased ids t u) (h : LooksOk t) {i : Fin 64}
    (hi : i ≠ 0) : levelAfterErase u ids i = (lookChain u i).length := by
  simp only [levelAfterErase]
  split
  · rfl
  · rename_i hnone
    have hsame : lookChain t i = lookChain u i := lookChain_congr i fun j hj => by
      have : j ∉ ids := fun hm => hnone (List.any_eq_true.mpr ⟨j, hj, by simpa using hm⟩)
      rw [he.parent, if_neg this]
    rw [he.level, ← hsame]
    exact (h.levels.length_chain 63 hi ((h.level_le i).trans (by decide))).symm

theorem levelsOk_clearHouse {t : LookTable} (h : LooksOk t) : LevelsOk (clearHouse t) := by
  have he := erased_erasedTable h
  have hdown := he.down h.levels
  intro i hi
  have h63 : (lookAt t i).level ≤ 63 := (h.level_le i).trans (by decide)
  have hbound := (chain_of_rank h.levels.pos hdown 63 63 i hi h63 h63).2
  have hcons := lookChain_eq h.levels.pos (fun i => (h.level_le i).trans (by decide)) hdown hi
  simp only [lookAt_clearHouse, levelAfterErase_eq he h hi]
  refine ⟨?_, hbound.trans (h.level_le i), ?_⟩
  · rw [hcons]
    exact Nat.succ_le_succ (Nat.zero_le _)
  · rw [hcons, List.length_cons]
    split
    · rename_i hp
      rw [hp, lookChain_zero]
      rfl
    · rename_i hp
      rw [levelAfterErase_eq he h hp]

/-- Clearing the house looks keeps the look table's laws. -/
theorem LooksOk.clearHouse {t : LookTable} (h : LooksOk t) : LooksOk (clearHouse t) := by
  have he := erased_erasedTable h
  refine .of_parts ?_ (levelsOk_clearHouse h) (fun i hi => ?_) rfl
  · rw [lookAt_clearHouse, he.zero, h.zero]
    simp [levelAfterErase, lookChain_zero, he.level, h.zero]
  · rw [lookAt_clearHouse, childrenOf_congr (t := erasedTable t) fun j => by rw [lookAt_clearHouse]]
    exact he.children h.children i hi

/-! ### The other changes -/

/-- New lock counts and a new house size keep the look table's laws, when look 0 is given no lock. -/
theorem LooksOk.relock {t u : LookTable} (h : LooksOk t)
    (hlook : ∀ i, lookAt u i = { lookAt t i with locks := (lookAt u i).locks }) (hlocks : (lookAt u 0).locks = 0)
    (hhouse : [0, 4, 8, 12, 16, 20, 24, 28, 32].contains u.house = true) : LooksOk u := by
  obtain ⟨hzero, hlooks, -⟩ := h
  have hparent (i : Fin 64) : (lookAt u i).parent = (lookAt t i).parent := by rw [hlook]
  have hlevel (i : Fin 64) : (lookAt u i).level = (lookAt t i).level := by rw [hlook]
  have hchildren (i : Fin 64) : (lookAt u i).children = (lookAt t i).children := by rw [hlook]
  refine ⟨?_, fun i hi => ?_, hhouse⟩
  · rw [hlook, hlocks, hzero]
  · simpa only [hparent, hlevel, hchildren, childrenOf_congr hparent] using hlooks i hi

/-- Look 0 is under no approval, whatever scenes are counted. -/
theorem countP_dependsOn_zero (t : LookTable) (scenes : List Placed) :
    (scenes.countP fun x => (dependsOn t x).contains 0) = 0 :=
  List.countP_eq_zero.mpr fun x _ hx => ne_zero_of_mem_dependsOn (by simpa using hx) rfl

theorem LooksOk.lock {t : LookTable} (h : LooksOk t) (scenes : List Placed) : LooksOk (countLocks (· + 1) scenes t) := by
  refine h.relock (fun i => ?_) ?_ (by rw [countLocks_house]; exact h.houseSize)
  · rw [lookAt_countLocks_succ]
  · rw [lookAt_countLocks_succ, countP_dependsOn_zero, h.zero]

theorem LooksOk.unlock {t : LookTable} (h : LooksOk t) (scenes : List Placed) : LooksOk (countLocks (· - 1) scenes t) := by
  refine h.relock (fun i => ?_) ?_ (by rw [countLocks_house]; exact h.houseSize)
  · rw [lookAt_countLocks_pred]
  · rw [lookAt_countLocks_pred, countP_dependsOn_zero, h.zero]
    rfl

theorem lookAt_unlockAll (t : LookTable) (i : Fin 64) : lookAt (unlockAll t) i = { lookAt t i with locks := 0 } := by
  simp [lookAt, unlockAll]

theorem LooksOk.unlockAll {t : LookTable} (h : LooksOk t) : LooksOk (unlockAll t) :=
  h.relock (fun i => by rw [lookAt_unlockAll]) (by rw [lookAt_unlockAll]) h.houseSize

/-- The looks after a power-on reset: every one without parent, children and locks (R41). -/
theorem lookAt_reset (i : Fin 64) : lookAt LookTable.reset i = ⟨unityGrade, 0, if i = 0 then 0 else 1, 0, 0⟩ := by
  have : lookAt LookTable.reset i = if i = 0 then { Look.fresh with level := 0 } else Look.fresh := by
    unfold lookAt LookTable.reset
    simp only [Vector.getElem_set, Vector.getElem_replicate, Fin.ext_iff, Fin.val_zero, eq_comm]
  rw [this]
  split <;> rfl

theorem looksOk_reset : LooksOk LookTable.reset := by
  refine ⟨lookAt_reset 0, fun i hi => ?_, rfl⟩
  have hchildren : childrenOf LookTable.reset i = 0 :=
    List.countP_eq_zero.mpr fun j _ => by simpa [lookAt_reset] using Ne.symm hi
  rw [hchildren, lookAt_reset]
  simp [hi]

/-- The house sizes that SET HOUSE AREA takes are among the house sizes (R34, R35). -/
theorem houseSizes_contains {h : Nat} (hs : houseSizes.contains h = true) :
    [0, 4, 8, 12, 16, 20, 24, 28, 32].contains h = true := by
  rw [List.contains_cons]
  exact Bool.or_eq_true_iff.mpr (.inr hs)

/-- A look whose record is being fetched is open to a put (R31). -/
theorem putsOpenLook_iff (s : State) :
    PutsOpenLook s ↔ ∀ i, FetchesLook s i → i ≠ 0 ∧ isHouse s.table i = false ∧ (lookAt s.table i).locks = 0 :=
  ⟨fun h i ⟨b, o, hw⟩ => h b i o hw, fun h b i o hw => h i ⟨b, o, hw⟩⟩

/-- Every change keeps the look table's laws. -/
theorem SceneChange.looksOk {s t : State} (hc : SceneChange s t) (h : LooksOk s.table) (hopen : PutsOpenLook s) :
    LooksOk t.table := by
  cases hc with
  | kept hk => exact hk.table ▸ h
  | put record _ htable => exact htable ▸ h
  | removed f _ _ htable => exact htable ▸ h
  | cleared _ htable => exact htable ▸ h
  | locked first last _ htable => exact htable ▸ h.lock _
  | unlocked first last _ htable => exact htable ▸ h.unlock _
  | lookAsked i _ _ _ _ htable => exact htable ▸ h
  | lookPut i g parent hasked hparent _ htable =>
    obtain ⟨hi, -, -⟩ := (putsOpenLook_iff s).mp hopen i hasked
    exact htable ▸ h.writeLook hi _ hparent
  | houseSet size hsize _ htable =>
    rw [htable]
    exact h.relock (fun _ => rfl) (congrArg Look.locks h.zero) (houseSizes_contains hsize)
  | houseCleared _ _ htable => exact htable ▸ h.clearHouse
  | erased _ htable =>
    rcases htable with htable | htable
    · exact htable ▸ looksOk_reset
    · exact htable ▸ h.unlockAll

/-- Every change leaves a fetch of a look record only to a look that is open to the put (R31). -/
theorem SceneChange.putsOpenLook {s t : State} (hc : SceneChange s t) (h : PutsOpenLook s) : PutsOpenLook t := by
  rw [putsOpenLook_iff] at *
  have closed (hf : ∀ i, ¬ FetchesLook t i) :
      ∀ i, FetchesLook t i → i ≠ 0 ∧ isHouse t.table i = false ∧ (lookAt t.table i).locks = 0 :=
    fun i hi => absurd hi (hf i)
  cases hc with
  | kept hk =>
    intro i hi
    rw [hk.table]
    exact h i (hk.fetch i hi)
  | lookAsked i h0 hhouse hlocks _ htable hfetch =>
    intro j hj
    cases hfetch j hj
    rw [htable]
    exact ⟨h0, hhouse, hlocks⟩
  | put _ _ _ hfetch => exact closed hfetch
  | removed _ _ _ _ hfetch => exact closed hfetch
  | cleared _ _ hfetch => exact closed hfetch
  | locked _ _ _ _ hfetch => exact closed hfetch
  | unlocked _ _ _ _ hfetch => exact closed hfetch
  | lookPut _ _ _ _ _ _ _ hfetch => exact closed hfetch
  | houseSet _ _ _ _ hfetch => exact closed hfetch
  | houseCleared _ _ _ hfetch => exact closed hfetch
  | erased _ _ hfetch => exact closed hfetch

end Sys2Proof.Machine
end

section
/-!
PROOF. LockLaws: every change keeps each look's lock count at the number of locked scenes that depend on the look (R9, R10, R29).
-/
namespace Sys2Proof.Machine

/-! ### The scenes that hold a look -/

/-- A placed scene is locked and depends on a look (R29). -/
def holdsLook (t : LookTable) (i : Fin 64) (x : Placed) : Bool := x.scene.locked && (dependsOn t x).contains i

theorem locksOk_iff (s : State) :
    LocksOk s ↔ ∀ i, (lookAt s.table i).locks = (placed s.store).countP (holdsLook s.table i) := Iff.rfl

/-- Only the lock, the look, the transition and a dissolving scene's predecessor tell whether a scene holds a look. -/
theorem holdsLook_congr (t : LookTable) (i : Fin 64) {x y : Placed} (hlock : y.scene.locked = x.scene.locked)
    (hlook : y.scene.look = x.scene.look) (htrans : y.scene.transition = x.scene.transition)
    (hpred : x.scene.locked = true → x.scene.transition.dissolves = true → y.pred.map Scene.look = x.pred.map Scene.look) :
    holdsLook t i y = holdsLook t i x := by
  unfold holdsLook
  rw [hlock]
  cases hl : x.scene.locked with
  | false => rfl
  | true => rw [dependsOn_scene_congr t hlook (by rw [htrans]) (hpred hl)]

/-- A look that a locked scene depends on is under an approval. -/
theorem locks_ne_zero {s : State} (h : LocksOk s) {x : Placed} (hx : x ∈ placed s.store) (hl : x.scene.locked = true)
    {i : Fin 64} (hi : i ∈ dependsOn s.table x) : (lookAt s.table i).locks ≠ 0 := by
  rw [h i]
  refine Nat.ne_of_gt (List.countP_pos_iff.mpr ⟨x, hx, ?_⟩)
  rw [hl, Bool.true_and]
  exact List.contains_iff_mem.mpr hi

/-- New looks keep the lock counts right when every look under an approval keeps its parent (R31, R36). -/
theorem LocksOk.reparent {s t : State} (h : LocksOk s) (hstore : t.store = s.store)
    (hlocks : ∀ i, (lookAt t.table i).locks = (lookAt s.table i).locks)
    (hparent : ∀ i, (lookAt s.table i).locks ≠ 0 → (lookAt t.table i).parent = (lookAt s.table i).parent) : LocksOk t := by
  intro i
  rw [hlocks, h i, hstore]
  refine List.countP_congr fun x hx => ?_
  cases hl : x.scene.locked with
  | false => rfl
  | true =>
    rw [dependsOn_congr (t := s.table) (u := t.table) x fun j hj => hparent j (locks_ne_zero h hx hl hj)]

/-- New scenes keep the lock counts right when as many of them hold each look. -/
theorem LocksOk.restore {s t : State} (h : LocksOk s) (htable : t.table = s.table)
    (hcount : ∀ i, (placed t.store).countP (holdsLook s.table i) = (placed s.store).countP (holdsLook s.table i)) :
    LocksOk t := by
  rw [locksOk_iff] at *
  intro i
  rw [htable, hcount, h i]

/-! ### Scenes changed one by one -/

theorem placedFrom_map (f : Scene → Scene) (p : Option Scene) (store : List Scene) :
    placedFrom (p.map f) (store.map f)
      = (placedFrom p store).map fun x => ⟨x.pred.map f, f x.scene, x.succ.map f⟩ := by
  induction store generalizing p with
  | nil => rfl
  | cons s rest ih =>
    have ih := ih (some s)
    simp only [Option.map_some] at ih
    simp only [List.map_cons, placedFrom, ih, List.head?_map]

theorem placed_map (f : Scene → Scene) (store : List Scene) :
    placed (store.map f) = (placed store).map fun x => ⟨x.pred.map f, f x.scene, x.succ.map f⟩ :=
  placedFrom_map f none store

/-- Statistics do not tell whether a scene holds a look. -/
theorem countP_holdsLook_bare (t : LookTable) (i : Fin 64) (store : List Scene) :
    (placed (store.map Scene.bare)).countP (holdsLook t i) = (placed store).countP (holdsLook t i) := by
  rw [placed_map, List.countP_map]
  refine List.countP_congr fun x _ => ?_
  rw [Function.comp_apply, holdsLook_congr t i (x := x) (y := ⟨x.pred.map Scene.bare, x.scene.bare, x.succ.map Scene.bare⟩)
    rfl rfl rfl fun _ _ => by rw [Option.map_map]; rfl]

/-- A record with another LOCKED flag when its start lies in a range. -/
def flagScene (first last : Int) (flag : Bool) (x : Scene) : Scene :=
  if first ≤ x.start && x.start ≤ last then { x with locked := flag } else x

theorem flagRange_eq_map (first last : Int) (flag : Bool) (store : List Scene) :
    flagRange first last flag store = store.map (flagScene first last flag) := rfl

theorem dependsOn_flagScene (first last : Int) (flag : Bool) (t : LookTable) (x : Placed) :
    dependsOn t ⟨x.pred.map (flagScene first last flag), flagScene first last flag x.scene,
      x.succ.map (flagScene first last flag)⟩ = dependsOn t x := by
  have hlook (y : Scene) : (flagScene first last flag y).look = y.look := by unfold flagScene; split <;> rfl
  have htrans (y : Scene) : (flagScene first last flag y).transition = y.transition := by unfold flagScene; split <;> rfl
  refine dependsOn_scene_congr t (hlook _) (by rw [htrans]) fun _ => ?_
  rw [Option.map_map]
  exact congrArg (fun f => x.pred.map f) (funext hlook)

/-- The scenes that hold a look after a change of flags, as scenes of the store before it. -/
theorem countP_holdsLook_flagRange (first last : Int) (flag : Bool) (t : LookTable) (i : Fin 64) (store : List Scene) :
    (placed (flagRange first last flag store)).countP (holdsLook t i)
      = (placed store).countP fun x =>
          (flagScene first last flag x.scene).locked && (dependsOn t x).contains i := by
  rw [flagRange_eq_map, placed_map, List.countP_map]
  refine List.countP_congr fun x _ => ?_
  rw [Function.comp_apply, holdsLook, dependsOn_flagScene]

theorem flagScene_locked (first last : Int) (flag : Bool) (x : Scene) :
    (flagScene first last flag x).locked = if first ≤ x.start && x.start ≤ last then flag else x.locked := by
  unfold flagScene
  split <;> rfl

/-- The scenes that a lock order changes and that depend on a look. -/
theorem countP_inRangeScenes (first last : Int) (flag : Bool) (store : List Scene) (q : Placed → Bool) :
    (inRangeScenes first last flag store).countP q
      = (placed store).countP fun x =>
          q x && (first ≤ x.scene.start && x.scene.start ≤ last && x.scene.locked == flag) := by
  rw [inRangeScenes, List.countP_filter]

/-- A count of two kinds that exclude each other is the sum of their counts. -/
theorem countP_add {α : Type} {l : List α} {p q r : α → Bool}
    (h : ∀ x, (r x).toNat = (p x).toNat + (q x).toNat) : l.countP r = l.countP p + l.countP q := by
  induction l with
  | nil => rfl
  | cons x l ih =>
    have hx := h x
    simp only [List.countP_cons, ih]
    revert hx
    cases p x <;> cases q x <;> cases r x <;> simp <;> omega

/-- Locking adds to those that hold a look the scenes of the range that were not locked (R15). -/
theorem countP_holdsLook_lock (first last : Int) (t : LookTable) (i : Fin 64) (store : List Scene) :
    (placed (flagRange first last true store)).countP (holdsLook t i)
      = (placed store).countP (holdsLook t i)
        + (inRangeScenes first last false store).countP fun x => (dependsOn t x).contains i := by
  rw [countP_holdsLook_flagRange, countP_inRangeScenes]
  refine countP_add fun x => ?_
  rw [flagScene_locked, holdsLook]
  cases (dependsOn t x).contains i <;> cases x.scene.locked <;>
    cases (decide (first ≤ x.scene.start) && decide (x.scene.start ≤ last)) <;> rfl

/-- Unlocking takes from those that hold a look the locked scenes of the range (R16). -/
theorem countP_holdsLook_unlock (first last : Int) (t : LookTable) (i : Fin 64) (store : List Scene) :
    (placed store).countP (holdsLook t i)
      = (placed (flagRange first last false store)).countP (holdsLook t i)
        + (inRangeScenes first last true store).countP fun x => (dependsOn t x).contains i := by
  rw [countP_holdsLook_flagRange, countP_inRangeScenes]
  refine countP_add fun x => ?_
  rw [flagScene_locked, holdsLook]
  cases (dependsOn t x).contains i <;> cases x.scene.locked <;>
    cases (decide (first ≤ x.scene.start) && decide (x.scene.start ≤ last)) <;> rfl

theorem LocksOk.lock {s t : State} (h : LocksOk s) {first last : Int}
    (hstore : t.store = flagRange first last true s.store)
    (htable : t.table = countLocks (· + 1) (inRangeScenes first last false s.store) s.table) : LocksOk t := by
  rw [locksOk_iff] at *
  intro i
  have hparent (x : Placed) : dependsOn t.table x = dependsOn s.table x :=
    dependsOn_congr x fun j _ => by rw [htable, lookAt_countLocks]
  have hsame : holdsLook t.table i = holdsLook s.table i := funext fun x => by rw [holdsLook, hparent, holdsLook]
  rw [hsame, hstore, countP_holdsLook_lock, ← h i, htable, lookAt_countLocks_succ]

theorem LocksOk.unlock {s t : State} (h : LocksOk s) {first last : Int}
    (hstore : t.store = flagRange first last false s.store)
    (htable : t.table = countLocks (· - 1) (inRangeScenes first last true s.store) s.table) : LocksOk t := by
  rw [locksOk_iff] at *
  intro i
  have hparent (x : Placed) : dependsOn t.table x = dependsOn s.table x :=
    dependsOn_congr x fun j _ => by rw [htable, lookAt_countLocks]
  have hsame : holdsLook t.table i = holdsLook s.table i := funext fun x => by rw [holdsLook, hparent, holdsLook]
  have hsum := countP_holdsLook_unlock first last s.table i s.store
  rw [hsame, hstore, htable, lookAt_countLocks_pred]
  have hi := h i
  simp only
  omega

/-! ### Records taken away -/

/-- Taking records away keeps those that hold a look, when every locked record stays and so does the predecessor of every locked
record that dissolves (R9). -/
theorem countP_holdsLook_filter (t : LookTable) (i : Fin 64) (keep : Placed → Bool) (store : List Scene)
    (p q : Option Scene)
    (hlocked : ∀ x ∈ placedFrom p store, x.scene.locked = true → keep x = true)
    (hsucc : ∀ x ∈ placedFrom p store, ∀ n, x.succ = some n → n.locked = true → n.transition.dissolves = true →
      keep x = true)
    (hhead : ∀ n, store.head? = some n → n.locked = true → n.transition.dissolves = true → q = p) :
    (placedFrom q (((placedFrom p store).filter keep).map Placed.scene)).countP (holdsLook t i)
      = (placedFrom p store).countP (holdsLook t i) := by
  induction store generalizing p q with
  | nil => rfl
  | cons s rest ih =>
    simp only [placedFrom, List.forall_mem_cons] at hlocked hsucc ⊢
    obtain ⟨hlocked, hlockedRest⟩ := hlocked
    obtain ⟨hsucc, hsuccRest⟩ := hsucc
    rw [List.filter_cons, List.countP_cons]
    split
    · rw [List.map_cons, placedFrom, List.countP_cons, ih (some s) (some s) hlockedRest hsuccRest fun _ _ _ _ => rfl]
      rw [holdsLook_congr t i (x := ⟨p, s, rest.head?⟩) (y := ⟨q, s, _⟩) rfl rfl rfl
        fun hl hd => by rw [hhead s rfl hl hd]]
    · rename_i hgone
      have hfree : holdsLook t i ⟨p, s, rest.head?⟩ = false := by
        cases hl : s.locked with
        | true => exact absurd (hlocked hl) hgone
        | false => simp [holdsLook, hl]
      rw [hfree, ih (some s) q hlockedRest hsuccRest fun n hn hl hd => absurd (hsucc n hn hl hd) hgone]
      rfl

/-- A removal is a filter of the placed records. -/
theorem removeAt_eq (store : List Scene) (f : Int) :
    removeAt store f = ((placed store).filter fun x => x.scene.start != f).map Placed.scene := by
  have h : removeAt ((placed store).map Placed.scene) f
      = ((placed store).filter fun x => x.scene.start != f).map Placed.scene := by
    rw [removeAt, List.filter_map]
    rfl
  rwa [placed, map_scene_placedFrom] at h

/-- The neighbours of the records of a store name each other. -/
theorem succ_of_mem_placed {store : List Scene} {x : Placed} (hx : x ∈ placed store) {n : Scene} (hn : x.succ = some n) :
    ∃ y ∈ placed store, y.scene = n ∧ y.pred = some x.scene := by
  obtain ⟨j, hj, -, hs⟩ := mem_placed.mp hx
  rw [hs] at hn
  exact ⟨⟨some x.scene, n, store[j + 1 + 1]?⟩, mem_placed.mpr ⟨j + 1, hn, hj.symm, rfl⟩, rfl, rfl⟩

/-- What span protection lets a removal do (R9): no locked record and no predecessor of a locked record that dissolves goes. -/
theorem not_removeProtected {store : List Scene} {f : Int} (h : removeProtected store f = false) {x : Placed}
    (hx : x ∈ placed store) (hl : x.scene.locked = true) :
    x.scene.start ≠ f ∧ (x.scene.transition.dissolves = true → ∀ p, x.pred = some p → p.start ≠ f) := by
  have hno := List.any_eq_false.mp h x hx
  simp only [hl, Bool.true_and, Bool.or_eq_true, not_or, beq_iff_eq, Bool.and_eq_true, not_and, startsAt_iff] at hno
  obtain ⟨⟨hstart, -⟩, hpred⟩ := hno
  exact ⟨hstart, fun hd p hp hf => hpred hd ⟨p, hp, hf⟩⟩

theorem countP_holdsLook_removeAt (t : LookTable) (i : Fin 64) {store : List Scene} {f : Int}
    (h : removeProtected store f = false) :
    (placed (removeAt store f)).countP (holdsLook t i) = (placed store).countP (holdsLook t i) := by
  rw [removeAt_eq]
  refine countP_holdsLook_filter t i _ store none none (fun x hx hl => ?_) (fun x hx n hn hl hd => ?_) fun _ _ _ _ => rfl
  · simpa using (not_removeProtected h hx hl).1
  · obtain ⟨y, hy, rfl, hp⟩ := succ_of_mem_placed hx hn
    simpa using (not_removeProtected h hy hl).2 hd x.scene hp

theorem countP_holdsLook_clearStore (t : LookTable) (i : Fin 64) (store : List Scene) :
    (placed (clearStore store)).countP (holdsLook t i) = (placed store).countP (holdsLook t i) :=
  countP_holdsLook_filter t i _ store none none (fun _ _ hl => kept_iff.mpr (.inl hl))
    (fun _ _ n hn hl hd => kept_iff.mpr (.inr (.inr ⟨n, hn, hl, hd⟩))) fun _ _ _ _ => rfl

/-! ### A record put -/

/-- What span protection lets a put do (R9): it falls into no locked span, and below no locked scene that dissolves. -/
theorem not_putProtected {p : Option Scene} {store : List Scene} {f : Int}
    (h : ∀ x ∈ placedFrom p store, ¬ (x.scene.locked && (x.covers f || x.guardsPred f)) = true) {x : Placed}
    (hx : x ∈ placedFrom p store) (hl : x.scene.locked = true) : ¬ x.covers f = true ∧ ¬ x.guardsPred f = true := by
  simpa [hl] using h x hx

/-- A put where span protection allows one keeps those that hold a look (R9, R12). -/
theorem countP_holdsLook_insertScene (t : LookTable) (i : Fin 64) {x : Scene} (hx : x.locked = false)
    (store : List Scene) (p : Option Scene) (hrise : StartsRise store) (hp : ∀ y, p = some y → y.start ≤ x.start)
    (h : ∀ y ∈ placedFrom p store, ¬ (y.scene.locked && (y.covers x.start || y.guardsPred x.start)) = true) :
    (placedFrom p (insertScene x store)).countP (holdsLook t i) = (placedFrom p store).countP (holdsLook t i) := by
  have hfree (p n : Option Scene) : holdsLook t i ⟨p, x, n⟩ = false := by simp [holdsLook, hx]
  induction store generalizing p with
  | nil => simp [insertScene, placedFrom, hfree]
  | cons s rest ih =>
    obtain ⟨hs, hrest⟩ := List.pairwise_cons.mp hrise
    -- a record above the put one has it as its predecessor: span protection forbids that to a locked one that dissolves
    have hafter (q : Option Scene) (y : Scene) (n : Option Scene) (hy : ⟨q, y, n⟩ ∈ placedFrom p (s :: rest))
        (hlt : x.start < y.start) (hq : ∀ z, q = some z → z.start ≤ x.start) :
        holdsLook t i ⟨some x, y, n⟩ = holdsLook t i ⟨q, y, n⟩ := by
      refine holdsLook_congr t i rfl rfl rfl fun hl hd => ?_
      exact absurd (guardsPred_iff.mpr ⟨hd, hlt, hq⟩) (not_putProtected h hy hl).2
    simp only [insertScene]
    split
    · rename_i hlt
      have hsame := hafter p s rest.head? (List.mem_cons_self ..) hlt hp
      simp only [placedFrom, List.countP_cons, hfree, List.head?_cons, hsame]
      rfl
    · split
      · rename_i hlt heq
        have hgone : holdsLook t i ⟨p, s, rest.head?⟩ = false := by
          cases hl : s.locked with
          | false => simp [holdsLook, hl]
          | true =>
            refine absurd (covers_iff.mpr ⟨Int.le_of_eq heq.symm, fun n hn => ?_⟩)
              (not_putProtected h (x := ⟨p, s, rest.head?⟩) (List.mem_cons_self ..) hl).1
            exact heq ▸ hs n (List.mem_of_mem_head? hn)
        cases rest with
        | nil => simpa [placedFrom, hfree] using hgone
        | cons n rest =>
          have hsame := hafter (some s) n rest.head? (by simp [placedFrom]) (heq ▸ hs n (List.mem_cons_self ..))
            fun z hz => by cases hz; exact Int.le_of_eq heq.symm
          simp only [placedFrom, List.countP_cons, hfree, hsame, hgone]
      · rename_i hlt hne
        have hbelow : s.start ≤ x.start := Int.not_lt.mp hlt
        have ih := ih (some s) hrest (fun y hy => by cases hy; exact hbelow) fun y hy =>
          h y (List.mem_cons_of_mem _ hy)
        have hhead := holdsLook_congr t i (x := ⟨p, s, rest.head?⟩) (y := ⟨p, s, (insertScene x rest).head?⟩)
          rfl rfl rfl fun _ _ => rfl
        simp only [placedFrom, List.countP_cons, ih, hhead]

theorem countP_holdsLook_putRecord (t : LookTable) (i : Fin 64) {store : List Scene} (hrise : StartsRise store)
    (r : RawScene) :
    (placed (putRecord store r)).countP (holdsLook t i) = (placed store).countP (holdsLook t i) := by
  obtain he | ⟨he, -, hprot, -⟩ := putRecord_cases store r <;> rw [he]
  exact countP_holdsLook_insertScene t i rfl store none hrise (fun y hy => nomatch hy)
    (List.any_eq_false.mp hprot)

/-! ### Every change -/

/-- An erased house look is under no approval (R36), so that the looks under one keep their parents. -/
theorem clearHouse_parent {t : LookTable} (hlooks : LooksOk t) (h : houseLocked t = false) (i : Fin 64) :
    (lookAt (clearHouse t) i).locks = (lookAt t i).locks
      ∧ ((lookAt t i).locks ≠ 0 → (lookAt (clearHouse t) i).parent = (lookAt t i).parent) := by
  have he := erased_erasedTable hlooks
  rw [lookAt_clearHouse]
  refine ⟨he.locks i, fun hi => ?_⟩
  have hm : i ∉ houseLooks t := fun hm => by
    have := List.any_eq_false.mp h i hm
    simp only [decide_eq_true_eq] at this
    omega
  exact (he.parent i).trans (if_neg hm)

/-- Every change keeps the lock counts right. -/
theorem SceneChange.locksOk {s t : State} (hc : SceneChange s t) (hstore : StoreOk s.store) (hlooks : LooksOk s.table)
    (h : LocksOk s) (hopen : PutsOpenLook s) : LocksOk t := by
  cases hc with
  | kept hk =>
    refine h.restore hk.table fun i => ?_
    rw [← countP_holdsLook_bare _ _ t.store, hk.store, countP_holdsLook_bare]
  | put record hs htable => exact h.restore htable fun i => hs ▸ countP_holdsLook_putRecord _ i hstore.startsRise _
  | removed f hprot hs htable => exact h.restore htable fun i => hs ▸ countP_holdsLook_removeAt _ i hprot
  | cleared hs htable => exact h.restore htable fun i => hs ▸ countP_holdsLook_clearStore _ i _
  | locked first last hs htable => exact h.lock hs htable
  | unlocked first last hs htable => exact h.unlock hs htable
  | lookAsked i _ _ _ hs htable => exact h.restore htable fun i => by rw [hs]
  | lookPut i g parent hasked _ hs htable =>
    obtain ⟨-, -, hfree⟩ := (putsOpenLook_iff s).mp hopen i hasked
    refine h.reparent hs (fun j => by rw [htable, lookAt_writeLook]) fun j hj => ?_
    have hji : j ≠ i := fun he => hj (he ▸ hfree)
    rw [htable, lookAt_writeLook]
    simp [hji]
  | houseSet size _ hs htable => exact h.reparent hs (fun i => by rw [htable]; rfl) fun i _ => by rw [htable]; rfl
  | houseCleared hlocked hs htable =>
    exact h.reparent hs (fun i => htable ▸ (clearHouse_parent hlooks hlocked i).1)
      fun i => htable ▸ (clearHouse_parent hlooks hlocked i).2
  | erased hs htable =>
    intro i
    rw [hs]
    rcases htable with htable | htable <;> rw [htable]
    · rw [lookAt_reset]
      rfl
    · rw [lookAt_unlockAll]
      rfl

/-- Settles O56: a step makes one of the changes of `SceneChange`, and each of them keeps the laws. -/
theorem storeAndLookLawsHold : Obligations.StoreAndLookLawsHold := by
  unfold Obligations.StoreAndLookLawsHold
  constructor
  · intro s t hstore hstep
    obtain ⟨q, hc⟩ := step_sceneChange hstep
    exact hc.storeOk hstore
  · intro s t hstore hlooks hlocks hopen hstep
    obtain ⟨q, hc⟩ := step_sceneChange hstep
    exact ⟨hc.looksOk hlooks hopen, hc.locksOk hstore hlooks hlocks hopen, hc.putsOpenLook hopen⟩

end Sys2Proof.Machine
end

section
/-!
PROOF. SceneRecord: the bytes of a scene record as READ SCENES writes them, read back by the layout (R1, R8, R21; Layouts, Scene
record).
-/
namespace Sys2Proof.Machine

/-! ### Fields packed one above the other -/

/-- The number that fields of given lengths spell, the first lowest, each in two's complement. -/
def pack : List (Nat × Int) → Nat
  | [] => 0
  | (len, v) :: rest => (v % 2 ^ len).toNat + 2 ^ len * pack rest

/-- The bits that fields take together. -/
def width : List (Nat × Int) → Nat
  | [] => 0
  | (len, _) :: rest => len + width rest

theorem toNat_emod_lt (v : Int) (len : Nat) : (v % 2 ^ len).toNat < 2 ^ len := by
  have hpos : (0 : Int) < 2 ^ len := by positivity
  have hlt := Int.emod_lt_of_pos v hpos
  have hle := Int.emod_nonneg v hpos.ne'
  zify
  rwa [Int.toNat_of_nonneg hle]

theorem pack_lt (fields : List (Nat × Int)) : pack fields < 2 ^ width fields := by
  induction fields with
  | nil => exact Nat.one_pos
  | cons field rest ih =>
    obtain ⟨len, v⟩ := field
    have hv := toNat_emod_lt v len
    calc pack ((len, v) :: rest) < 2 ^ len + 2 ^ len * pack rest := Nat.add_lt_add_right hv _
      _ = 2 ^ len * (pack rest + 1) := by ring
      _ ≤ 2 ^ len * 2 ^ width rest := Nat.mul_le_mul_left _ ih
      _ = 2 ^ width ((len, v) :: rest) := (pow_add ..).symm

theorem pack_append (low high : List (Nat × Int)) : pack (low ++ high) = pack low + 2 ^ width low * pack high := by
  induction low with
  | nil => simp [pack, width]
  | cons field rest ih =>
    obtain ⟨len, v⟩ := field
    simp only [List.cons_append, pack, ih, width, pow_add]
    ring

theorem width_append (low high : List (Nat × Int)) : width (low ++ high) = width low + width high := by
  induction low with
  | nil => simp [width]
  | cons field rest ih => simp only [List.cons_append, width, ih, Nat.add_assoc]

theorem width_eq_sum (fields : List (Nat × Int)) : width fields = (fields.map Prod.fst).sum := by
  induction fields with
  | nil => rfl
  | cons field rest ih => simp only [width, ih, List.map_cons, List.sum_cons]

/-- The bits above the first fields are those of the others. -/
theorem pack_shiftRight (fields : List (Nat × Int)) (k : Nat) :
    pack fields >>> width (fields.take k) = pack (fields.drop k) := by
  conv_lhs => rw [← List.take_append_drop k fields, pack_append, List.take_append_drop]
  rw [Nat.shiftRight_eq_div_pow, Nat.add_mul_div_left _ _ (Nat.two_pow_pos _), Nat.div_eq_of_lt (pack_lt _), Nat.zero_add]

/-- The bits at a field's place are the field. -/
theorem bitsOf_pack {fields : List (Nat × Int)} {k pos len : Nat} {v : Int} (hk : fields[k]? = some (len, v))
    (hpos : width (fields.take k) = pos) : bitsOf (pack fields) pos len = (v % 2 ^ len).toNat := by
  obtain ⟨hlt, hget⟩ := List.getElem?_eq_some_iff.mp hk
  rw [bitsOf, ← hpos, pack_shiftRight, List.drop_eq_getElem_cons hlt, hget, pack, Nat.add_mul_mod_self_left,
    Nat.mod_eq_of_lt (toNat_emod_lt v len)]

/-- Bits within bits. -/
theorem bitsOf_bitsOf {w pos len a n : Nat} (h : a + n ≤ len) : bitsOf (bitsOf w pos len) a n = bitsOf w (pos + a) n := by
  apply Nat.eq_of_testBit_eq
  intro i
  simp only [bitsOf, Nat.testBit_mod_two_pow, Nat.testBit_shiftRight]
  by_cases hi : i < n
  · have : a + i < len := by omega
    simp [hi, this, Nat.add_assoc]
  · simp [hi]

/-- Fields placed from a bit up, each above the one before. -/
def placeAll : Nat → List (Nat × Int) → Nat
  | _, [] => 0
  | pos, (len, v) :: rest => place pos len v + placeAll (pos + len) rest

theorem placeAll_eq (pos : Nat) (fields : List (Nat × Int)) : placeAll pos fields = 2 ^ pos * pack fields := by
  induction fields generalizing pos with
  | nil => rfl
  | cons field rest ih =>
    obtain ⟨len, v⟩ := field
    rw [placeAll, pack, ih, place, Nat.shiftLeft_eq, pow_add]
    ring

theorem placeAll_append (pos : Nat) (low high : List (Nat × Int)) :
    placeAll pos (low ++ high) = placeAll pos low + placeAll (pos + width low) high := by
  rw [placeAll_eq, placeAll_eq, placeAll_eq, pack_append, pow_add]
  ring

@[simp] theorem place_zero (pos len : Nat) : place pos len 0 = 0 := by simp [place]

/-! ### Values that fit their fields -/

theorem toNat_emod_of_fits {v : Int} {len : Nat} (h0 : 0 ≤ v) (h : v < 2 ^ len) : ((v % 2 ^ len).toNat : Int) = v := by
  rw [Int.emod_eq_of_lt h0 h, Int.toNat_of_nonneg h0]

theorem toNat_emod_natCast {n len : Nat} (h : n < 2 ^ len) : ((n : Int) % 2 ^ len).toNat = n := by
  have hfit : ((n : Int) : Int) < 2 ^ len := by exact_mod_cast h
  exact_mod_cast toNat_emod_of_fits (Int.natCast_nonneg n) hfit

theorem toNat_emod_bit (b : Bool) : ((bit b : Int) % 2 ^ 1).toNat = bit b := by cases b <;> rfl

/-- A signed field holds the values of its two's complement (Layouts). -/
theorem signedOf_eq {w pos len : Nat} {v : Int} (hlen : 0 < len) (h : bitsOf w pos len = (v % 2 ^ len).toNat)
    (hlow : -2 ^ (len - 1) ≤ v) (hhigh : v < 2 ^ (len - 1)) : signedOf w pos len = v := by
  obtain ⟨n, rfl⟩ : ∃ n, len = n + 1 := ⟨len - 1, by omega⟩
  rw [Nat.add_sub_cancel] at hlow hhigh
  have hdouble : (2 : Int) ^ (n + 1) = 2 * 2 ^ n := by ring
  have hdoubleNat : 2 ^ (n + 1) = 2 * 2 ^ n := by ring
  have hcast : ((2 ^ n : Nat) : Int) = 2 ^ n := by norm_cast
  simp only [signedOf, h, Nat.add_sub_cancel]
  by_cases h0 : 0 ≤ v
  · have hval : v % 2 ^ (n + 1) = v := Int.emod_eq_of_lt h0 (by omega)
    rw [hval]
    split <;> omega
  · have hval : v % 2 ^ (n + 1) = v + 2 ^ (n + 1) := by
      rw [← Int.add_emod_right, Int.emod_eq_of_lt (by omega) (by omega)]
    rw [hval]
    split <;> omega

/-! ### The fields of a scene record -/

/-- The fields below the statistics flags. -/
def headFields (x : Scene) : List (Nat × Int) :=
  [(21, x.start), (7, x.look.val), (3, x.keys.length), (1, bit x.transition.dissolves), (16, x.number),
    (8, x.transition.length), (4, x.group.val), (1, bit x.negative), (1, bit x.locked)]

/-- The present mark and the excursion flag. -/
def flagFields (t : Option Stats) : List (Nat × Int) :=
  [(1, bit t.isSome), (1, (t.map fun t => bit t.excursion).getD 0)]

def ownFields (g : Grade) : List (Nat × Int) :=
  [(10, g.lift.r), (10, g.lift.g), (10, g.lift.b), (13, g.gain.r), (13, g.gain.g), (13, g.gain.b),
    (10, g.mid.r), (10, g.mid.g), (10, g.mid.b), (11, g.sat)]

def keyFields (t : TrimKey) : List (Nat × Int) := [(16, t.offset), (11, t.trim.r), (11, t.trim.g), (11, t.trim.b)]

/-- The 49 bits of a key's place: the key's, or what the manual leaves open. -/
def keyWord (free k : Nat) (t : Option TrimKey) : Nat := (t.map fun t => pack (keyFields t)).getD (bitsOf free (49 * k) 49)

def keysFields (free : Nat) (keys : List TrimKey) : List (Nat × Int) :=
  [(49, keyWord free 0 keys[0]?), (49, keyWord free 1 keys[1]?), (49, keyWord free 2 keys[2]?),
    (49, keyWord free 3 keys[3]?)]

/-- A statistic, 0 in a record without a statistics part. -/
def statOf (t : Option Stats) (f : Stats → Int) : Int := (t.map f).getD 0

def statsFields (start : Int) (t : Option Stats) : List (Nat × Int) :=
  [(20, statOf t fun t => t.frame - start), (32, statOf t fun t => t.field.toNat),
    (10, statOf t fun t => t.min.r), (10, statOf t fun t => t.min.g), (10, statOf t fun t => t.min.b),
    (10, statOf t fun t => t.max.r), (10, statOf t fun t => t.max.g), (10, statOf t fun t => t.max.b),
    (10, statOf t fun t => t.mean.r), (10, statOf t fun t => t.mean.g), (10, statOf t fun t => t.mean.b)]

/-- A scene record's 512 bits, field by field from bit 0 up. -/
def sceneFields (x : Scene) (free : BitVec 512) : List (Nat × Int) :=
  headFields x ++ flagFields x.stats ++ ownFields x.own ++ keysFields free.toNat x.keys ++ statsFields x.start x.stats

theorem placeAll_headFields (x : Scene) :
    placeAll 0 (headFields x) = place 0 21 x.start + place 21 7 x.look.val + place 28 3 x.keys.length
      + place 31 1 (bit x.transition.dissolves) + place 32 16 x.number + place 48 8 x.transition.length
      + place 56 4 x.group.val + place 60 1 (bit x.negative) + place 61 1 (bit x.locked) := by
  simp only [headFields, placeAll, Nat.reduceAdd, Nat.add_zero, Nat.add_assoc]

theorem encodeOwn_eq (g : Grade) : encodeOwn g = placeAll 64 (ownFields g) := by
  simp only [encodeOwn, ownFields, placeAll, Nat.reduceAdd, Nat.add_assoc, Nat.add_zero]

theorem encodeKey_eq (k : Nat) (t : TrimKey) : encodeKey k t = placeAll (174 + 49 * k) (keyFields t) := by
  have hr : 174 + 49 * k + 16 = 190 + 49 * k := by omega
  have hg : 190 + 49 * k + 11 = 201 + 49 * k := by omega
  have hb : 201 + 49 * k + 11 = 212 + 49 * k := by omega
  simp only [encodeKey, keyFields, placeAll, hr, hg, hb, Nat.add_assoc (place ..), Nat.add_zero]

theorem keyWord_lt (free k : Nat) (t : Option TrimKey) : keyWord free k t < 2 ^ 49 := by
  cases t with
  | none => exact bitsOf_lt _ _ _
  | some t => exact pack_lt (keyFields t)

theorem place_natCast {pos len n : Nat} (h : n < 2 ^ len) : place pos len n = 2 ^ pos * n := by
  rw [place, toNat_emod_natCast h, Nat.shiftLeft_eq, Nat.mul_comm]

/-- The keys' places one after the other. -/
theorem encodeKeys_succ (free n k : Nat) (keys : List TrimKey) :
    encodeKeys free (n + 1) keys k
      = place (174 + 49 * k) 49 (keyWord free k keys.head?) + encodeKeys free n keys.tail (k + 1) := by
  cases keys with
  | nil => rfl
  | cons t ts =>
    rw [place_natCast (keyWord_lt ..), encodeKeys, encodeKey_eq, placeAll_eq]
    rfl

theorem encodeKeys_eq (free : Nat) (keys : List TrimKey) : encodeKeys free 4 keys 0 = placeAll 174 (keysFields free keys) := by
  simp only [encodeKeys_succ, encodeKeys, keysFields, placeAll, List.head?_eq_getElem?, List.getElem?_tail, Nat.reduceAdd,
    Nat.reduceMul, Nat.add_zero]

theorem encodeStats_eq (start : Int) (t : Option Stats) :
    encodeStats start t = placeAll 62 (flagFields t) + placeAll 370 (statsFields start t) := by
  cases t with
  | none => simp [encodeStats, flagFields, statsFields, statOf, placeAll, bit]
  | some t =>
    simp only [encodeStats, flagFields, statsFields, statOf, placeAll, Option.map_some, Option.getD_some, Option.isSome_some,
      Nat.reduceAdd, Nat.add_zero, Nat.add_assoc]
    rfl

/-- A scene record's bits are its fields packed from bit 0 up. -/
theorem encodeScene_eq (x : Scene) (free : BitVec 512) : encodeScene x free = pack (sceneFields x free) := by
  have hpack : pack (sceneFields x free) = placeAll 0 (sceneFields x free) := by rw [placeAll_eq, pow_zero, Nat.one_mul]
  have hhead : width (headFields x) = 62 := rfl
  have hflags : width (flagFields x.stats) = 2 := rfl
  have hown : width (ownFields x.own) = 110 := rfl
  have hkeys : width (keysFields free.toNat x.keys) = 196 := rfl
  have hparts : encodeScene x free = placeAll 0 (headFields x) + placeAll 64 (ownFields x.own)
      + placeAll 174 (keysFields free.toNat x.keys)
      + (placeAll 62 (flagFields x.stats) + placeAll 370 (statsFields x.start x.stats)) := by
    rw [placeAll_headFields, ← encodeOwn_eq, ← encodeKeys_eq, ← encodeStats_eq, encodeScene]
  rw [hpack, hparts, sceneFields]
  simp only [placeAll_append, width_append, hhead, hflags, hown, hkeys, Nat.reduceAdd]
  generalize placeAll 0 (headFields x) = head, placeAll 62 (flagFields x.stats) = flags,
    placeAll 64 (ownFields x.own) = own, placeAll 174 (keysFields free.toNat x.keys) = keys,
    placeAll 370 (statsFields x.start x.stats) = stats
  omega

/-- The lengths of a scene record's fields, from bit 0 up. -/
def sceneLengths : List Nat :=
  [21, 7, 3, 1, 16, 8, 4, 1, 1, 1, 1, 10, 10, 10, 13, 13, 13, 10, 10, 10, 11, 49, 49, 49, 49, 20, 32, 10, 10, 10, 10, 10, 10,
    10, 10, 10]

theorem sceneFields_lengths (x : Scene) (free : BitVec 512) : (sceneFields x free).map Prod.fst = sceneLengths := rfl

theorem encodeScene_lt (x : Scene) (free : BitVec 512) : encodeScene x free < 2 ^ 512 := by
  have hwidth : width (sceneFields x free) = 512 := by
    rw [width_eq_sum, sceneFields_lengths]
    decide
  have h := pack_lt (sceneFields x free)
  rwa [hwidth, ← encodeScene_eq] at h

/-! ### Reading the record back -/

/-- The bits at a field's place in a scene record are the field. -/
theorem bitsOf_encodeScene {x : Scene} {free : BitVec 512} (k pos : Nat) {len : Nat} {v : Int}
    (hk : (sceneFields x free)[k]? = some (len, v)) (hpos : (sceneLengths.take k).sum = pos) :
    bitsOf (encodeScene x free) pos len = (v % 2 ^ len).toNat := by
  rw [encodeScene_eq]
  exact bitsOf_pack hk (by rw [width_eq_sum, List.map_take, sceneFields_lengths, hpos])

/-- A scene record's bytes hold all of its bits. -/
theorem toNat_encodeScene (x : Scene) (free : BitVec 512) :
    (BitVec.ofNat 512 (encodeScene x free)).toNat = encodeScene x free := by
  have hofNat {n len : Nat} (h : n < 2 ^ len) : (BitVec.ofNat len n).toNat = n := by
    rw [BitVec.toNat_ofNat, Nat.mod_eq_of_lt h]
  exact hofNat (encodeScene_lt x free)

/-- A grade within its ranges reads back. -/
theorem decodeScene_own {x : Scene} (free : BitVec 512) (h : GradeOk x.own) :
    (decodeScene (BitVec.ofNat 512 (encodeScene x free))).own = x.own := by
  obtain ⟨⟨l1, l2⟩, ⟨l3, l4⟩, ⟨l5, l6⟩, ⟨g1, g2⟩, ⟨g3, g4⟩, ⟨g5, g6⟩, ⟨m1, m2⟩, ⟨m3, m4⟩, ⟨m5, m6⟩, s1, s2⟩ := h
  have signed (k pos : Nat) {v : Int} (hk : (sceneFields x free)[k]? = some (10, v))
      (hpos : (sceneLengths.take k).sum = pos) (hlow : -512 ≤ v) (hhigh : v ≤ 511) :
      signedOf (encodeScene x free) pos 10 = v :=
    signedOf_eq (by decide) (bitsOf_encodeScene k _ hk hpos) (by norm_num; omega) (by norm_num; omega)
  have plain (k pos : Nat) {len : Nat} {v : Int} (hk : (sceneFields x free)[k]? = some (len, v))
      (hpos : (sceneLengths.take k).sum = pos) (hlow : 0 ≤ v) (hhigh : v < 2 ^ len) :
      (bitsOf (encodeScene x free) pos len : Int) = v := by
    rw [bitsOf_encodeScene k _ hk hpos, toNat_emod_of_fits hlow hhigh]
  simp only [decodeScene, toNat_encodeScene]
  rw [signed 11 64 rfl rfl l1 l2, signed 12 74 rfl rfl l3 l4, signed 13 84 rfl rfl l5 l6, plain 14 94 rfl rfl g1 (by omega),
    plain 15 107 rfl rfl g3 (by omega), plain 16 120 rfl rfl g5 (by omega), plain 17 133 rfl rfl (by omega) (by omega),
    plain 18 143 rfl rfl (by omega) (by omega), plain 19 153 rfl rfl (by omega) (by omega), plain 20 163 rfl rfl s1 (by omega)]

/-- The bits of a stored key's place. -/
theorem bitsOf_key {x : Scene} (free : BitVec 512) {k : Nat} {t : TrimKey} (hk : x.keys[k]? = some t) (h4 : k < 4) :
    bitsOf (encodeScene x free) (174 + 49 * k) 49 = pack (keyFields t) := by
  have hword : keyWord free.toNat k x.keys[k]? = pack (keyFields t) := by rw [hk]; rfl
  rw [← hword, ← toNat_emod_natCast (keyWord_lt free.toNat k x.keys[k]?)]
  refine bitsOf_encodeScene (21 + k) _ ?_ ?_
  · interval_cases k <;> rfl
  · interval_cases k <;> rfl

/-- A stored key reads back. -/
theorem decodeKey_encodeScene {x : Scene} (free : BitVec 512) {k : Nat} {t : TrimKey} (hk : x.keys[k]? = some t)
    (h4 : k < 4) (hoffset : t.offset ≤ 65535)
    (htrim : (-1024 ≤ t.trim.r ∧ t.trim.r ≤ 1023) ∧ (-1024 ≤ t.trim.g ∧ t.trim.g ≤ 1023)
      ∧ (-1024 ≤ t.trim.b ∧ t.trim.b ≤ 1023)) : decodeKey (encodeScene x free) k = t := by
  obtain ⟨⟨r1, r2⟩, ⟨g1, g2⟩, b1, b2⟩ := htrim
  have within (j a : Nat) {len : Nat} {v : Int} (hj : (keyFields t)[j]? = some (len, v))
      (hpos : width ((keyFields t).take j) = a) (hfit : a + len ≤ 49) :
      bitsOf (encodeScene x free) (174 + 49 * k + a) len = (v % 2 ^ len).toNat := by
    rw [← bitsOf_bitsOf hfit, bitsOf_key free hk h4, bitsOf_pack hj hpos]
  have signed (j a pos : Nat) {v : Int} (hj : (keyFields t)[j]? = some (11, v))
      (hpos : width ((keyFields t).take j) = a) (hfit : a + 11 ≤ 49) (hat : 174 + 49 * k + a = pos) (hlow : -1024 ≤ v)
      (hhigh : v ≤ 1023) : signedOf (encodeScene x free) pos 11 = v :=
    signedOf_eq (by decide) (hat ▸ within j a hj hpos hfit) (by norm_num; omega) (by norm_num; omega)
  have hoff : bitsOf (encodeScene x free) (174 + 49 * k) 16 = t.offset := by
    rw [← toNat_emod_natCast (n := t.offset) (len := 16) (by omega)]
    exact within 0 0 rfl rfl (by decide)
  rw [decodeKey, hoff, signed 1 16 (190 + 49 * k) rfl rfl (by decide) (by omega) r1 r2,
    signed 2 27 (201 + 49 * k) rfl rfl (by decide) (by omega) g1 g2,
    signed 3 38 (212 + 49 * k) rfl rfl (by decide) (by omega) b1 b2]

/-- The keys that count read back. -/
theorem decodeScene_keys {x : Scene} (free : BitVec 512) (h4 : x.keys.length ≤ 4) (hoffset : ∀ k ∈ x.keys, k.offset ≤ 65535)
    (htrim : ∀ k ∈ x.keys, (-1024 ≤ k.trim.r ∧ k.trim.r ≤ 1023) ∧ (-1024 ≤ k.trim.g ∧ k.trim.g ≤ 1023)
      ∧ (-1024 ≤ k.trim.b ∧ k.trim.b ≤ 1023)) :
    ((decodeScene (BitVec.ofNat 512 (encodeScene x free))).keys.take x.keys.length) = x.keys := by
  have hkeys : (decodeScene (BitVec.ofNat 512 (encodeScene x free))).keys
      = (List.range 4).map (decodeKey (encodeScene x free)) := by simp only [decodeScene, toNat_encodeScene]
  rw [hkeys]
  refine List.ext_getElem (by simp; omega) fun k hk hk' => ?_
  rw [List.getElem_take, List.getElem_map, List.getElem_range]
  have hmem := List.getElem_mem hk'
  exact decodeKey_encodeScene free (List.getElem?_eq_getElem hk') (by omega) (hoffset _ hmem) (htrim _ hmem)

/-- Settles O10: every field of the record stands at its place in the packed fields. -/
theorem sceneRecordReadsBack : Obligations.SceneRecordReadsBack := by
  unfold Obligations.SceneRecordReadsBack
  intro x free hok hgrade htrim w r
  obtain ⟨⟨hstart1, hstart2⟩, hnumber1, hnumber2, hcount, -, hoffset, htrans⟩ := hok
  have hfield (k pos : Nat) {len : Nat} {v : Int} (hk : (sceneFields x free)[k]? = some (len, v))
      (hpos : (sceneLengths.take k).sum = pos) : bitsOf w pos len = (v % 2 ^ len).toNat :=
    bitsOf_encodeScene k _ hk hpos
  have hnat (k pos : Nat) {len n : Nat} (hk : (sceneFields x free)[k]? = some (len, (n : Int)))
      (hpos : (sceneLengths.take k).sum = pos) (hn : n < 2 ^ len) : bitsOf w pos len = n := by
    rw [hfield k pos hk hpos, toNat_emod_natCast hn]
  have hbit (k pos : Nat) {b : Bool} (hk : (sceneFields x free)[k]? = some (1, (bit b : Int)))
      (hpos : (sceneLengths.take k).sum = pos) : bitsOf w pos 1 = bit b := by
    rw [hfield k pos hk hpos, toNat_emod_bit]
  have hflag (b : Bool) : (bit b == 1) = b := by cases b <;> rfl
  have hw : (BitVec.ofNat 512 w).toNat = w := toNat_encodeScene x free
  have hkeyCount : r.keyCount = x.keys.length := by
    simp only [r, decodeScene, hw]
    exact hnat 2 28 rfl rfl (by omega)
  refine ⟨?_, ?_, ?_, ?_, ?_, decodeScene_own free hgrade, hkeyCount, ?_, ?_, hbit 8 61 rfl rfl, hbit 9 62 rfl rfl, ?_, ?_⟩
  · simp only [r, decodeScene, hw]
    exact signedOf_eq (by decide) (hfield 0 0 rfl rfl) (by norm_num; omega) (by norm_num; omega)
  · simp only [r, decodeScene, hw]
    exact hnat 4 32 rfl rfl (by omega)
  · simp only [r, decodeScene, hw]
    exact hnat 1 21 rfl rfl (by omega)
  · simp only [r, decodeScene, hw]
    exact hnat 6 56 rfl rfl (by omega)
  · simp only [r, decodeScene, hw]
    rw [hbit 7 60 rfl rfl, hflag]
  · rw [hkeyCount]
    exact decodeScene_keys free hcount hoffset htrim
  · have hdissolve : r.dissolve = x.transition.dissolves := by
      simp only [r, decodeScene, hw]
      rw [hbit 3 31 rfl rfl, hflag]
    have hlength : r.length = x.transition.length := by
      simp only [r, decodeScene, hw]
      refine hnat 5 48 rfl rfl ?_
      cases ht : x.transition with
      | cut => decide
      | dissolve n => rw [ht] at htrans; exact Nat.lt_succ_of_le htrans.2
    rw [hdissolve, hlength]
    cases x.transition <;> simp [Transition.dissolves, Transition.length]
  · intro hnone
    refine ⟨?_, ?_⟩
    · rw [hfield 10 63 rfl rfl, hnone]
      rfl
    · have hlow : width ((sceneFields x free).take 25) = 370 := by
        rw [width_eq_sum, List.map_take, sceneFields_lengths]
        decide
      have htail : pack ((sceneFields x free).drop 25) = pack (statsFields x.start none) := by
        rw [← hnone]
        rfl
      rw [bitsOf, show w = pack (sceneFields x free) from encodeScene_eq x free, ← hlow, pack_shiftRight, htail]
      rfl
  · intro t ht held
    have hstat (f : Stats → Int) : statOf x.stats f = f t := by rw [ht]; rfl
    have hheld (k pos : Nat) (f : Stats → Int) (hk : (sceneFields x free)[k]? = some (10, statOf x.stats f))
        (hpos : (sceneLengths.take k).sum = pos) : held pos (f t) := fun h0 h1023 => by
      rw [hfield k pos hk hpos, hstat]
      exact toNat_emod_of_fits h0 (by norm_num; omega)
    refine ⟨?_, ?_, fun h0 htop => ?_, ⟨hheld 27 422 _ rfl rfl, hheld 28 432 _ rfl rfl, hheld 29 442 _ rfl rfl⟩,
      ⟨hheld 30 452 _ rfl rfl, hheld 31 462 _ rfl rfl, hheld 32 472 _ rfl rfl⟩,
      hheld 33 482 _ rfl rfl, hheld 34 492 _ rfl rfl, hheld 35 502 _ rfl rfl⟩
    · rw [hfield 10 63 rfl rfl, ht]
      exact toNat_emod_bit t.excursion
    · rw [hfield 26 390 rfl rfl, hstat]
      exact toNat_emod_natCast t.field.isLt
    · rw [hfield 25 370 rfl rfl, hstat]
      exact toNat_emod_of_fits (by omega) (by norm_num; omega)

end Sys2Proof.Machine
end

section
/-!
PROOF. Reset: the state right after a power-on reset meets every law (R23, R41, R63, R111, R127, R148, R170).
-/
namespace Sys2Proof.Machine

/-- After a power-on reset every link is DOWN (R148). -/
theorem linkOf_reset (l : Link) : linkOf l State.reset = LinkRec.reset := by cases l <;> rfl

theorem gradeOk_unity : GradeOk unityGrade := by decide

theorem gradesOk_reset : GradesOk State.reset := by
  refine ⟨gradeOk_unity, by decide, by decide, (fun x hx => nomatch hx), fun i => ?_⟩
  rw [show State.reset.table = LookTable.reset from rfl, lookAt_reset]
  exact gradeOk_unity

theorem buffersOk_reset : BuffersOk State.reset := by
  have hline : LineOk LinkRec.reset := ⟨by decide, trivial⟩
  exact ⟨by decide, fun _ => rfl, by decide, hline, hline, hline⟩

theorem followerOk_reset : FollowerOk State.reset.follower :=
  ⟨by decide, by decide, by decide, by decide, by decide, by decide, by decide, by decide, trivial, by decide⟩

/-- With no scene stored, no look is under an approval (R29). -/
theorem locksOk_reset : LocksOk State.reset := fun i => by
  rw [show State.reset.table = LookTable.reset from rfl, lookAt_reset]
  rfl

theorem haltedOk_reset : HaltedOk State.reset := fun _ =>
  ⟨fun l => by rw [linkOf_reset]; rfl, rfl, rfl, rfl, rfl, rfl, rfl, rfl, .inl rfl, trivial, fun _ h => nomatch h⟩

theorem passOk_reset : PassOk State.reset :=
  ⟨fun _ => rfl, fun _ h => (by cases h), fun l h => (by rw [linkOf_reset] at h; cases h)⟩

theorem storeOk_nil : StoreOk [] := ⟨Nat.zero_le _, .nil, fun x hx => by cases hx⟩

/-- No order is in flight after a reset (R170). -/
theorem putsOpenLook_reset : PutsOpenLook State.reset := fun b i o h => by cases h

/-- Settles O60: each law read off the reset values. -/
theorem resetSatisfiesTheLaws : Obligations.ResetSatisfiesTheLaws :=
  ⟨rfl, buffersOk_reset, followerOk_reset, gradesOk_reset, by decide, by decide,
    storeOk_nil, looksOk_reset, locksOk_reset, putsOpenLook_reset, haltedOk_reset, passOk_reset⟩

end Sys2Proof.Machine
end

section
/-!
PROOF. HouseProtection: house protection stays on until CLEAR HOUSE LOOKS or a power-on reset, and while it is on the house looks
nite_house change nor show (R34, R39, R41).
-/
namespace Sys2Proof.Machine

/-! ### What the orders on scenes and looks make of the house size -/

theorem takeRemoveScene_table (b : OrderBlock) (s : State) : (takeRemoveScene b s).table = s.table := by
  unfold takeRemoveScene
  simp only
  repeat' split
  all_goals rfl

theorem takeClearScenes_table (b : OrderBlock) (s : State) : (takeClearScenes b s).table = s.table := by
  unfold takeClearScenes
  split <;> rfl

theorem takeLoadScenes_table (b : OrderBlock) (s : State) : (takeLoadScenes b s).table = s.table := by
  unfold takeLoadScenes
  simp only
  repeat' split
  all_goals rfl

theorem takePutLook_table (b : OrderBlock) (s : State) : (takePutLook b s).table = s.table := by
  unfold takePutLook
  simp only
  repeat' split
  all_goals rfl

theorem lockRange_house (flag : Bool) (change : Nat → Nat) (b : OrderBlock) (s : State) :
    (lockRange flag change b s).table.house = s.table.house := by
  unfold lockRange
  simp only
  split
  · rfl
  · exact countLocks_house ..

theorem afterSceneFetch_table (record : BitVec 512) (s : State) : (afterSceneFetch record s).table = s.table := by
  unfold afterSceneFetch
  obtain he | ⟨b, p, -, he⟩ := withProgress_cases s _ <;> rw [he]
  cases p with
  | fetchScene o => simp only [putFetched_eq, finish_table]
  | _ => rfl

theorem afterLoadFetch_table (record : BitVec 512) (s : State) : (afterLoadFetch record s).table = s.table := by
  unfold afterLoadFetch
  obtain he | ⟨b, p, -, he⟩ := withProgress_cases s _ <;> rw [he]
  cases p with
  | fetchLoad run => simp only [nextLoad_eq, proceed_table]
  | _ => rfl

theorem putLook_house (b : OrderBlock) (i : Fin 64) (record : BitVec 256) (s : State) :
    (putLook b i record s).table.house = s.table.house := by
  unfold putLook
  simp only
  split
  · rfl
  · exact writeLook_house ..

theorem afterLookFetch_house (record : BitVec 256) (s : State) : (afterLookFetch record s).table.house = s.table.house := by
  unfold afterLookFetch
  obtain he | ⟨b, p, -, he⟩ := withProgress_cases s _ <;> rw [he]
  cases p with
  | fetchLook i o => exact putLook_house ..
  | _ => rfl

/-- SET HOUSE AREA is refused while protection is on (R35). -/
theorem takeSetHouseArea_protected {b : OrderBlock} {s : State} (h : protectionOn s.table = true) :
    (takeSetHouseArea b s).table = s.table := by
  unfold takeSetHouseArea
  simp only [h, if_true]
  split <;> rfl

/-! ### Protection stays on (R34) -/

theorem withOrder_house {code : BitVec 8} {s : State} {take : OrderBlock → State}
    (h : ∀ b, (take b).table.house = s.table.house) : (withOrder code s take).table.house = s.table.house := by
  obtain he | ⟨b, -, he⟩ := withOrder_cases code s take <;> rw [he]
  exact h b

theorem complete_house {isKind : AccessKind → Bool} {s : State} {live : Access → State → State}
    (h : ∀ a t, (live a t).table.house = t.table.house) :
    (complete isKind s live unused).table.house = s.table.house := by
  obtain he | ⟨a, -, -, ⟨-, he⟩ | ⟨-, he⟩ | ⟨-, he⟩⟩ := complete_cases isKind s live unused <;> rw [he]
  · exact h a _
  · rfl
  · rfl

theorem ite_house {p : Prop} [Decidable p] {s u v : State} (hu : u.table.house = s.table.house)
    (hv : v.table.house = s.table.house) : (if p then u else v).table.house = s.table.house := by
  split <;> assumption

/-- While protection is on, no command but CLEAR HOUSE LOOKS and a power-on reset changes the house size. -/
theorem exec_house {c : Instr} {s t : State} (hclear : c ≠ .clearHouseLooks) (hpower : c ≠ .powerOnReset)
    (hon : protectionOn s.table = true) (hexec : exec c s = .next t) : t.table.house = s.table.house := by
  suffices h : ∃ u, exec c s = .next u ∧ u.table.house = s.table.house by
    obtain ⟨u, hu, hhouse⟩ := h
    cases hu.symm.trans hexec
    exact hhouse
  have kept {t u : State} (h : ScenesKept t u) : u.table.house = t.table.house := congrArg LookTable.house h.table
  have side {u : State} (h : SideFrame s u) : u.table.house = s.table.house := kept h.scenes
  have order {code : BitVec 8} {take : OrderBlock → State} (h : ∀ b, ScenesKept s (take b)) :
      (withOrder code s take).table.house = s.table.house := withOrder_house fun b => kept (h b)
  have completion {isKind : AccessKind → Bool} {live : Access → State → State} (h : ∀ a t, ScenesKept t (live a t)) :
      (complete isKind s live unused).table.house = s.table.house := complete_house fun a t => kept (h a t)
  have message (l : Link) (bytes : List Byte) :
      (tellLosses s (takeBytes l bytes s)).table.house = s.table.house :=
    side ((takeBytes_frame ..).trans (tellLosses_frame ..))
  have expiry (k : TimerKind) (l : Link) : (tellLosses s (expiryOf k l s)).table.house = s.table.house :=
    side ((expiryOf_frame ..).trans (tellLosses_frame ..))
  cases c with
  | clearHouseLooks => exact absurd rfl hclear
  | powerOnReset => exact absurd rfl hpower
  | setHouseArea => exact ⟨_, rfl, withOrder_house fun b => congrArg LookTable.house (takeSetHouseArea_protected hon)⟩
  | boardReset | softReset | attentionWrite | noticeMaskWrite | perfEvent => exact ⟨_, rfl, rfl⟩
  | runWritten1 | baseWrite | enterRest | runWritten0 => exact ⟨_, rfl, ite_house rfl rfl⟩
  | removeScene => exact ⟨_, rfl, withOrder_house fun b => congrArg LookTable.house (takeRemoveScene_table b s)⟩
  | clearScenes => exact ⟨_, rfl, withOrder_house fun b => congrArg LookTable.house (takeClearScenes_table b s)⟩
  | loadScenes => exact ⟨_, rfl, withOrder_house fun b => congrArg LookTable.house (takeLoadScenes_table b s)⟩
  | putLook => exact ⟨_, rfl, withOrder_house fun b => congrArg LookTable.house (takePutLook_table b s)⟩
  | lockScenes | unlockScenes => exact ⟨_, rfl, withOrder_house fun b => lockRange_house ..⟩
  | putScene => exact ⟨_, rfl, order (takePutScene_kept · s)⟩
  | readScenes => exact ⟨_, rfl, order (takeReadScenes_kept · s)⟩
  | readLooks => exact ⟨_, rfl, order (takeReadLooks_kept · s)⟩
  | setStandard => exact ⟨_, rfl, order (takeSetStandard_kept · s)⟩
  | setPosition => exact ⟨_, rfl, order (takeSetPosition_kept · s)⟩
  | setFollow => exact ⟨_, rfl, order (takeSetFollow_kept · s)⟩
  | setPicture => exact ⟨_, rfl, order (takeSetPicture_kept · s)⟩
  | setLight => exact ⟨_, rfl, order (takeSetLight_kept · s)⟩
  | setMonitor => exact ⟨_, rfl, order (takeSetMonitor_kept · s)⟩
  | ackMonitor => exact ⟨_, rfl, order (takeAckMonitor_kept · s)⟩
  | setRoute => exact ⟨_, rfl, order (takeSetRoute_kept · s)⟩
  | setLink => exact ⟨_, rfl, order (takeSetLink_kept · s)⟩
  | wakeLink => exact ⟨_, rfl, order (takeWakeLink_kept · s)⟩
  | resetLink => exact ⟨_, rfl, order (takeResetLink_kept · s)⟩
  | startPass => exact ⟨_, rfl, order (takeStartPass_kept · s)⟩
  | abortPass => exact ⟨_, rfl, order (takeAbortPass_kept · s)⟩
  | setJournal => exact ⟨_, rfl, order (takeSetJournal_kept · s)⟩
  | setReports => exact ⟨_, rfl, order (takeSetReports_kept · s)⟩
  | mark => exact ⟨_, rfl, withOrder_house fun b => rfl⟩
  | sceneFetchComplete record =>
    exact ⟨_, rfl, complete_house fun _ t => congrArg LookTable.house (afterSceneFetch_table record t)⟩
  | loadRecordFetchComplete record =>
    exact ⟨_, rfl, complete_house fun _ t => congrArg LookTable.house (afterLoadFetch_table record t)⟩
  | lookFetchComplete record => exact ⟨_, rfl, complete_house fun _ t => afterLookFetch_house record t⟩
  | readScenesSlotWritten => exact ⟨_, rfl, completion fun _ => afterSceneSlot_kept⟩
  | readLooksSlotWritten => exact ⟨_, rfl, completion fun _ => afterLookSlot_kept⟩
  | headerReadComplete bytes =>
    have same (a : Access) (t : State) : ScenesKept t (takeMark bytes t) := .same rfl rfl rfl
    exact ⟨_, rfl, kept (kept_complete (fun _ _ => .same rfl rfl rfl) same)⟩
  | headerWriteComplete => exact ⟨_, rfl, completion fun _ => afterHeader_kept⟩
  | linkReadComplete link => exact ⟨_, rfl, completion fun _ t => (pollComplete_kept t).trans (judgeLink_kept ..)⟩
  | blockReadComplete block => exact ⟨_, rfl, completion fun _ => afterBlock_kept block⟩
  | takenWriteComplete => exact ⟨_, rfl, completion fun _ => afterTaken_kept⟩
  | resultIndexWriteComplete => exact ⟨_, rfl, completion fun _ => afterResultIndex_kept⟩
  | finalWriteComplete => exact ⟨_, rfl, completion fun _ => afterFinal_kept⟩
  | abortedWriteComplete => exact ⟨_, rfl, completion fun _ => afterAborted_kept⟩
  | journalWriteComplete => exact ⟨_, rfl, completion afterJournal_kept⟩
  | reportWriteComplete => exact ⟨_, rfl, completion afterReport_kept⟩
  | accessGrant => exact ⟨_, rfl, kept (grantAccess_kept s)⟩
  | busError => exact ⟨_, rfl, kept (busErrorNow_kept s)⟩
  | fieldEvent p acts => exact ⟨_, rfl, kept (fieldStep_kept p false acts s)⟩
  | referenceWatchExpiry acts => exact ⟨_, rfl, ite_house rfl (kept (fieldStep_kept _ true acts s))⟩
  | standInField acts => exact ⟨_, rfl, ite_house (kept (fieldStep_kept _ true acts s)) rfl⟩
  | sampleTriple x =>
    have tap (z : Rgb Int) : (tapTriple z s).table.house = s.table.house := ite_house rfl rfl
    exact ⟨_, rfl, tap _⟩
  | lightSampleEvent reading => exact ⟨_, rfl, (kept (takeReading_kept reading.toNat (blankOutput s)) :)⟩
  | awake | cued | locked | written | done | trouble | damagedFrame => exact ⟨_, rfl, message ..⟩
  | wakeTimerExpiry | cueTimerExpiry | watchdogExpiry | closeTimerExpiry => exact ⟨_, rfl, expiry ..⟩
  | startByte l => exact ⟨_, rfl, side ((takeByte_frame ..).trans (tellLosses_frame ..))⟩
  | directiveSent l => exact ⟨_, rfl, side (setLinkRec_frame ..)⟩
  | autoDown l => exact ⟨_, rfl, ite_house (side ((autoDownNow_frame ..).trans (tellLosses_frame ..))) rfl⟩

/-! ### The house looks stand still (R34) -/

theorem protectionOn_iff (t : LookTable) : protectionOn t = true ↔ 0 < t.house := by simp [protectionOn]

theorem isHouse_iff {t : LookTable} {i : Fin 64} : isHouse t i = true ↔ 0 < t.house ∧ 64 - t.house ≤ i.val := by
  simp [isHouse, protectionOn]

/-- A change that leaves protection on leaves every house look its grade and its parent: a put goes to another look (R31). -/
theorem SceneChange.houseLook_kept {s t : State} (hc : SceneChange s t) (hopen : PutsOpenLook s)
    (hsize : t.table.house = s.table.house) {i : Fin 64} (hi : isHouse s.table i = true) :
    (lookAt t.table i).grade = (lookAt s.table i).grade ∧ (lookAt t.table i).parent = (lookAt s.table i).parent := by
  obtain ⟨hon, -⟩ := isHouse_iff.mp hi
  have same (h : t.table = s.table) :
      (lookAt t.table i).grade = (lookAt s.table i).grade ∧ (lookAt t.table i).parent = (lookAt s.table i).parent := by
    rw [h]
    exact ⟨rfl, rfl⟩
  have ended (h : t.table.house = 0) : False := by omega
  cases hc with
  | kept hk => exact same hk.table
  | put _ _ htable => exact same htable
  | removed _ _ _ htable => exact same htable
  | cleared _ htable => exact same htable
  | lookAsked _ _ _ _ _ htable => exact same htable
  | locked _ _ _ htable => rw [htable, lookAt_countLocks]; exact ⟨rfl, rfl⟩
  | unlocked _ _ _ htable => rw [htable, lookAt_countLocks]; exact ⟨rfl, rfl⟩
  | houseSet _ _ _ htable => rw [htable]; exact ⟨rfl, rfl⟩
  | lookPut j g parent hasked _ _ htable =>
    obtain ⟨-, hhouse, -⟩ := (putsOpenLook_iff s).mp hopen j hasked
    have hij : i ≠ j := fun h => by simp [h, hhouse] at hi
    simp [htable, lookAt_writeLook, hij]
  | houseCleared _ _ htable => exact (ended (congrArg LookTable.house htable)).elim
  | erased _ htable =>
    rcases htable with htable | htable
    · exact (ended (congrArg LookTable.house htable)).elim
    · rw [htable, lookAt_unlockAll]; exact ⟨rfl, rfl⟩

/-! ### The house looks do not show (R39) -/

/-- A look's record is read off the house size, the look's counts, and, for a look outside the house area, the look itself. -/
theorem lookRecord_congr {t u : LookTable} (free : BitVec 512) {i : Fin 64} (hsize : u.house = t.house)
    (hopen : isHouse t i = false → lookAt u i = lookAt t i)
    (hcounts : isHouse t i = true →
      (lookAt u i).children = (lookAt t i).children ∧ (lookAt u i).locks = (lookAt t i).locks) :
    lookRecord u i free = lookRecord t i free := by
  have hsame : isHouse u i = isHouse t i := by simp only [isHouse, protectionOn, hsize]
  unfold lookRecord
  rw [hsame]
  cases hi : isHouse t i with
  | false => simp only [hopen hi]
  | true =>
    obtain ⟨hchildren, hlocks⟩ := hcounts hi
    simp only [hchildren, hlocks, if_true]

/-- The write of a slot of READ LOOKS is formed from the port and the slot's look record. -/
theorem formAccess_lookSlot {s : State} {b : OrderBlock} {run : LookRead} (hw : s.port.walker = .flight b (.slotLook run))
    (free : BitVec 512) :
    formAccess .order s free
      = ⟨.lookSlot, areaAddress s (run.offset + 32 * run.written),
          cellsOf (areaAddress s (run.offset + 32 * run.written)) 32
            (lookRecord s.table (Fin.ofNat 64 (run.first + run.written)) free), .live⟩ := by
  simp only [formAccess, walkerCells, hw]
  rfl

/-- Settles O14: no change that leaves protection on touches a house look, and a withheld record is read off its counts alone. -/
theorem houseLooksStayProtected : Obligations.HouseLooksStayProtected := by
  unfold Obligations.HouseLooksStayProtected
  constructor
  · intro c s t i hopen hclear hpower hexec hi
    obtain ⟨u, hu, hchange⟩ := exec_sceneChange c s
    cases hu.symm.trans hexec
    obtain ⟨hsize, -⟩ := isHouse_iff.mp hi
    exact hchange.houseLook_kept hopen (exec_house hclear hpower ((protectionOn_iff _).mpr hsize) hexec) hi
  · intro s s' free b run hw hport hsize hopen hcounts
    have haddress (offset : Nat) : areaAddress s' offset = areaAddress s offset := by simp only [areaAddress, hport]
    rw [formAccess_lookSlot (hport ▸ hw), formAccess_lookSlot hw, lookRecord_congr free hsize (hopen _) (hcounts _),
      haddress]

end Sys2Proof.Machine
end

section
/-!
PROOF. LookOrders: the look orders: PUT LOOK and its fetched record, SET HOUSE AREA and CLEAR HOUSE LOOKS (R30 to R37).
-/
namespace Sys2Proof.Machine

/-! ### PUT LOOK is taken (R30, R31) -/

/-- The checks that PUT LOOK makes of its look, once its parameters are within their ranges. -/
theorem takePutLook_inRange {b : OrderBlock} {s : State} {i : Fin 64} (hpass : s.pass = none) (hi : i.val = param b 12 1)
    (h0 : i ≠ 0) (hw : inWindow (param b 16 4) 32 = true) :
    takePutLook b s
      = if isHouse s.table i = true then finish b .protectedLook 0 s
        else if (lookAt s.table i).locks = 0 then proceed b (.fetchLook i (param b 16 4)) s
        else finish b .locked 0 s := by
  have hindex : ¬ (i.val = 0 ∨ 63 < i.val) := by
    have := Fin.val_ne_zero_iff.mpr h0
    omega
  have hfin : Fin.ofNat 64 i.val = i := Fin.ofNat_val_eq_self i
  simp only [takePutLook, passExists_eq, hpass, hw, ← hi, hfin, hindex, ne_eq, ite_not, Option.isSome_none, Bool.not_true,
    Bool.false_eq_true, if_false]

/-- Settles O11: the checks of PUT LOOK in turn, and the fetch as the walker's access. -/
theorem putLookChecksInOrder : Obligations.PutLookChecksInOrder := by
  unfold Obligations.PutLookChecksInOrder
  intro s b hb index offset
  have hexec : exec .putLook s = .next (takePutLook b s) := next_withOrder hb _
  rw [hexec]
  refine ⟨fun hp => ?_, fun hp hrange => ?_, fun i hi hp h0 hw => ?_⟩
  · exact congrArg _ (if_pos ((passExists_iff s).mpr hp))
  · rw [← inWindow_iff, Bool.not_eq_true] at hrange
    by_cases hindex : index = 0 ∨ 63 < index
    · simp [takePutLook, hp, index, hindex]
    · simp [takePutLook, hp, offset, hrange.resolve_left hindex]
  · rw [takePutLook_inRange hp hi h0 ((inWindow_iff ..).mpr hw), ← isHouse_iff]
    refine ⟨fun hhouse => by rw [if_pos hhouse], fun hhouse => ?_⟩
    rw [if_neg hhouse]
    exact ⟨fun hlocks => by rw [if_neg hlocks], fun hlocks => ⟨by rw [if_pos hlocks], fun free => rfl⟩⟩

/-! ### A fetched look record is put (R32, R33) -/

/-- The record of the PUT LOOK in flight is in (R32). -/
theorem exec_lookFetchComplete {s : State} {a : Access} {b : OrderBlock} {i : Fin 64} {offset : Nat} (record : BitVec 256)
    (ha : Live s a .lookFetch) (hw : s.port.walker = .flight b (.fetchLook i offset)) :
    exec (.lookFetchComplete record) s = .next (putLook b i record (endAccess a s)) :=
  congrArg Host.Outcome.next ((complete_of_live ha _ _).trans (withProgress_flight (endAccess a s) b _ _ hw))

theorem parentRefused_range {t : LookTable} {i : Fin 64} {parent : Nat} (h : 63 < parent) :
    parentRefused t i parent = some .range := if_pos h

/-- The checks of R32 on a parent that is a look. -/
theorem parentRefused_look (t : LookTable) (i p : Fin 64) :
    parentRefused t i p.val
      = if p = i ∨ (p ≠ (lookAt t i).parent ∧ 0 < (lookAt t i).children) ∨ (p ≠ 0 ∧ (lookAt t p).level = 4) then some .chain
        else none := by
  have hle : ¬ 63 < p.val := by omega
  have hfin : Fin.ofNat 64 p.val = p := Fin.ofNat_val_eq_self p
  simp only [parentRefused, hle, if_false, hfin, ← Fin.ext_iff, ne_eq, Fin.val_eq_zero_iff, ite_or]

theorem putLook_refused {b : OrderBlock} {i : Fin 64} {record : BitVec 256} {s : State} {o : OutcomeCode}
    (h : parentRefused s.table i (decodeLookParent record.toNat) = some o) : putLook b i record s = finish b o 0 s := by
  simp only [putLook, h]

theorem putLook_put {b : OrderBlock} {i p : Fin 64} {record : BitVec 256} {s : State}
    (hp : p.val = decodeLookParent record.toNat) (h : parentRefused s.table i p.val = none) :
    putLook b i record s
      = finish b (if clampGrade (decodeLookGrade record.toNat) = decodeLookGrade record.toNat then .ok else .clamped)
          (levelUnder s.table p)
          { s with table := writeLook i (clampGrade (decodeLookGrade record.toNat)) p s.table } := by
  have hfin : Fin.ofNat 64 p.val = p := Fin.ofNat_val_eq_self p
  simp only [putLook, ← hp, h, hfin, lookAt_writeLook, if_true]

/-- A put leaves its own look's child count as it is: where the parent changes, R32 has let only a look without children through. -/
theorem lookAt_writeLook_self {t : LookTable} {i p : Fin 64} (g : Grade) (hself : p ≠ i)
    (hchildren : p = (lookAt t i).parent ∨ (lookAt t i).children = 0) :
    lookAt (writeLook i g p t) i = { lookAt t i with grade := g, parent := p, level := levelUnder t p } := by
  rw [lookAt_writeLook]
  simp only [if_true]
  congr 1
  rcases hchildren with hp | hnone
  · rw [if_pos (.inr hp)]
  · simp [Ne.symm hself, hnone]

/-- A put moves one child from its look's old parent to its new one, and leaves the rest of every other look (R27). -/
theorem lookAt_writeLook_other {t : LookTable} {i p j : Fin 64} (g : Grade) (hj : j ≠ i) :
    lookAt (writeLook i g p t) j
      = { lookAt t j with
          children :=
            if p = (lookAt t i).parent ∨ j = 0 then (lookAt t j).children
            else if j = (lookAt t i).parent then (lookAt t j).children - 1
            else if j = p then (lookAt t j).children + 1
            else (lookAt t j).children } := by
  rw [lookAt_writeLook]
  simp only [hj, if_false, or_comm (a := j = 0)]
  congr 1
  by_cases hp : p = (lookAt t i).parent
  · simp only [hp, true_or, if_true]
  · by_cases hold : j = (lookAt t i).parent
    · have hnew : j ≠ p := fun h => hp (h.symm.trans hold)
      simp only [hnew, if_false]
    · simp only [hold, if_false]

/-- Settles O12: R32's checks as one test on a parent that is a look, and the put look by look. -/
theorem fetchedLookIsPut : Obligations.FetchedLookIsPut := by
  unfold Obligations.FetchedLookIsPut
  intro s a b i offset record ha hw parent old g clamped u
  rw [exec_lookFetchComplete record ha hw]
  refine ⟨fun h => congrArg _ (putLook_refused (parentRefused_range h)), fun p hp => ?_⟩
  have hcheck : parentRefused u.table i p.val = _ := parentRefused_look s.table i p
  refine ⟨fun hbad => congrArg _ (putLook_refused ?_), fun hok => ?_⟩
  · rw [if_pos hbad, hp] at hcheck
    exact hcheck
  rw [if_neg hok] at hcheck
  refine ⟨writeLook i clamped p s.table, congrArg _ (putLook_put hp hcheck), writeLook_house .., ?_, fun j hj => ?_⟩
  · refine lookAt_writeLook_self clamped (fun h => hok (.inl h)) ?_
    by_contra hmoved
    rw [not_or] at hmoved
    exact hok (.inr (.inl ⟨hmoved.1, Nat.pos_of_ne_zero hmoved.2⟩))
  · exact lookAt_writeLook_other clamped hj

/-! ### The house area (R35 to R37) -/

theorem houseSizes_iff (h : Nat) :
    houseSizes.contains h = true
      ↔ h = 4 ∨ h = 8 ∨ h = 12 ∨ h = 16 ∨ h = 20 ∨ h = 24 ∨ h = 28 ∨ h = 32 := by
  simp [houseSizes]

theorem houseLocked_iff (t : LookTable) :
    houseLocked t = true ↔ ∃ i : Fin 64, (0 < t.house ∧ 64 - t.house ≤ i.val) ∧ 0 < (lookAt t i).locks := by
  simp only [houseLocked, List.any_eq_true, mem_houseLooks, isHouse_iff, decide_eq_true_eq]

theorem takeSetHouseArea_eq {b : OrderBlock} {s : State} (hpass : s.pass = none) :
    takeSetHouseArea b s
      = if 0 < s.table.house then finish b .protectedLook 0 s
        else if houseSizes.contains (param b 12 1) = true then
          finish b .ok (param b 12 1) { s with table := { s.table with house := param b 12 1 } }
        else finish b .range 0 s := by
  simp only [takeSetHouseArea, passExists_eq, hpass, protectionOn_iff, Option.isSome_none, Bool.false_eq_true, if_false,
    Bool.not_eq_true', ← Bool.not_eq_true, ite_not]

theorem takeClearHouseLooks_eq {b : OrderBlock} {s : State} (hpass : s.pass = none) :
    takeClearHouseLooks b s
      = if houseLocked s.table = true then finish b .locked 0 s
        else finish b .ok s.table.house { s with table := clearHouse s.table } := by
  simp only [takeClearHouseLooks, passExists_eq, hpass, Option.isSome_none, Bool.false_eq_true, if_false]

/-- Erasures return their looks to unity without parent, and change no other look but in its child count (R36). -/
theorem lookAt_foldl_eraseLook (ids : List (Fin 64)) (t : LookTable) (j : Fin 64) :
    lookAt (ids.foldl eraseLook t) j
      = { lookAt t j with
          grade := if j ∈ ids then unityGrade else (lookAt t j).grade
          parent := if j ∈ ids then 0 else (lookAt t j).parent
          children := (lookAt (ids.foldl eraseLook t) j).children } := by
  induction ids generalizing t with
  | nil => simp
  | cons i ids ih =>
    rw [List.foldl_cons, ih]
    by_cases hj : j = i <;> simp [lookAt_eraseLook, hj]

/-- CLEAR HOUSE LOOKS makes the house looks unity without parent, and keeps the other looks' grades and parents and every lock
count (R36). -/
theorem lookAt_clearHouse_eq (t : LookTable) (i : Fin 64) :
    (lookAt (clearHouse t) i).locks = (lookAt t i).locks
      ∧ (lookAt (clearHouse t) i).grade = (if isHouse t i = true then unityGrade else (lookAt t i).grade)
      ∧ (lookAt (clearHouse t) i).parent = (if isHouse t i = true then 0 else (lookAt t i).parent) := by
  rw [lookAt_clearHouse, erasedTable, lookAt_foldl_eraseLook]
  simp only [mem_houseLooks, and_self]

/-- In a lawful table CLEAR HOUSE LOOKS moves no look down, and leaves the level of a look with no house look on its chain (R37). -/
theorem level_clearHouse {t : LookTable} (h : LooksOk t) (i : Fin 64) :
    (lookAt (clearHouse t) i).level ≤ (lookAt t i).level
      ∧ ((∀ j ∈ lookChain t i, isHouse t j ≠ true) → (lookAt (clearHouse t) i).level = (lookAt t i).level) := by
  have he := erased_erasedTable h
  rw [lookAt_clearHouse]
  by_cases hi : i = 0
  · simp [hi, levelAfterErase, lookChain_zero, he.level]
  · have h63 : (lookAt t i).level ≤ 63 := (h.level_le i).trans (by decide)
    simp only [levelAfterErase_eq he h hi]
    refine ⟨(chain_of_rank h.levels.pos (he.down h.levels) 63 63 i hi h63 h63).2, fun hnone => ?_⟩
    have hsame : lookChain (erasedTable t) i = lookChain t i := lookChain_congr i fun j hj => by
      rw [he.parent, if_neg (mem_houseLooks.not.mpr (hnone j hj))]
    rw [hsame]
    exact h.levels.length_chain 63 hi h63

/-- Settles O15: the checks of the two orders in turn, and the erased table look by look. -/
theorem houseAreaOrdersSetAndErase : Obligations.HouseAreaOrdersSetAndErase := by
  unfold Obligations.HouseAreaOrdersSetAndErase
  constructor
  · intro s b hb h size
    have hexec : exec .setHouseArea s = .next (takeSetHouseArea b s) := next_withOrder hb _
    have hsizes : houseSizes.contains h = true ↔ size := houseSizes_iff h
    rw [hexec]
    refine ⟨fun hp => ?_, fun hp hon => ?_, fun hp hoff hno => ?_, fun hp hoff hsize => ⟨?_, fun t i ht => ?_⟩⟩
    · exact congrArg _ (if_pos ((passExists_iff s).mpr hp))
    · rw [takeSetHouseArea_eq hp, if_pos hon]
    · rw [takeSetHouseArea_eq hp, if_neg (by omega), if_neg (hsizes.not.mpr hno)]
    · rw [takeSetHouseArea_eq hp, if_neg (by omega), if_pos (hsizes.mpr hsize)]
    · have hpos : 0 < h := by omega
      rw [ht, isHouse_iff]
      exact and_iff_right hpos
  · intro s b hb house
    have hexec : exec .clearHouseLooks s = .next (takeClearHouseLooks b s) := next_withOrder hb _
    have hhouse (i : Fin 64) : isHouse s.table i = true ↔ house i := isHouse_iff
    rw [hexec]
    refine ⟨fun hp => ?_, fun hp hlocked => ?_, fun hp hfree =>
      ⟨clearHouse s.table, ?_, rfl, fun i => ?_, fun hok => ⟨hok.clearHouse, fun i => ?_⟩⟩⟩
    · exact congrArg _ (if_pos ((passExists_iff s).mpr hp))
    · rw [takeClearHouseLooks_eq hp, if_pos ((houseLocked_iff _).mpr hlocked)]
    · have hunlocked : ¬ houseLocked s.table = true := by
        rw [houseLocked_iff]
        rintro ⟨i, hi, hpos⟩
        exact Nat.ne_of_gt hpos (hfree i hi)
      rw [takeClearHouseLooks_eq hp, if_neg hunlocked]
    · obtain ⟨hlocks, hgrade, hparent⟩ := lookAt_clearHouse_eq s.table i
      rw [← hhouse, hgrade, hparent]
      exact ⟨hlocks, fun hi => ⟨if_pos hi, if_pos hi⟩, fun hi => ⟨if_neg hi, if_neg hi⟩⟩
    · simpa only [ne_eq, hhouse] using level_clearHouse hok i

end Sys2Proof.Machine
end

section
/-!
PROOF. LookRecord: the bytes of a look record as READ LOOKS writes them, read back by the layout (R24, R38, R39; Layouts, Look
record).
-/
namespace Sys2Proof.Machine

/-! ### The fields of a look record -/

/-- A look record's 224 bits below its zero bytes, field by field from bit 0 up. -/
def lookFields (g : Grade) (parent level children locks : Nat) (withheld : Bool) (free : BitVec 512) : List (Nat × Int) :=
  [(8, parent), (8, level), (8, children), (1, bit withheld), (7, bitsOf free.toNat 0 7), (16, locks),
    (16, bitsOf free.toNat 7 16), (16, g.lift.r), (16, g.lift.g), (16, g.lift.b), (16, g.gain.r), (16, g.gain.g),
    (16, g.gain.b), (16, g.mid.r), (16, g.mid.g), (16, g.mid.b), (16, g.sat)]

/-- A look record's bits are its fields packed from bit 0 up. -/
theorem encodeLook_eq (g : Grade) (parent level children locks : Nat) (withheld : Bool) (free : BitVec 512) :
    encodeLook g parent level children locks withheld free
      = pack (lookFields g parent level children locks withheld free) := by
  have hpack := placeAll_eq 0 (lookFields g parent level children locks withheld free)
  rw [pow_zero, Nat.one_mul] at hpack
  rw [← hpack]
  simp only [encodeLook, lookFields, placeAll, Nat.reduceAdd, Nat.add_zero, Nat.add_assoc]

/-- The lengths of a look record's fields, from bit 0 up. -/
def lookLengths : List Nat := [8, 8, 8, 1, 7, 16, 16, 16, 16, 16, 16, 16, 16, 16, 16, 16, 16]

theorem lookFields_lengths (g : Grade) (parent level children locks : Nat) (withheld : Bool) (free : BitVec 512) :
    (lookFields g parent level children locks withheld free).map Prod.fst = lookLengths := rfl

/-- A look record ends in zero bytes. -/
theorem encodeLook_lt (g : Grade) (parent level children locks : Nat) (withheld : Bool) (free : BitVec 512) :
    encodeLook g parent level children locks withheld free < 2 ^ 224 := by
  have hwidth : width (lookFields g parent level children locks withheld free) = 224 := by
    rw [width_eq_sum, lookFields_lengths]
    decide
  rw [encodeLook_eq, ← hwidth]
  exact pack_lt _

/-! ### Reading the record back -/

section
variable {g : Grade} {parent level children locks : Nat} (withheld : Bool) (free : BitVec 512)

/-- The bits at a field's place in a look record are the field. -/
theorem bitsOf_encodeLook (k pos : Nat) {len : Nat} {v : Int}
    (hk : (lookFields g parent level children locks withheld free)[k]? = some (len, v))
    (hpos : (lookLengths.take k).sum = pos) :
    bitsOf (encodeLook g parent level children locks withheld free) pos len = (v % 2 ^ len).toNat := by
  rw [encodeLook_eq]
  exact bitsOf_pack hk (by rw [width_eq_sum, List.map_take, lookFields_lengths, hpos])

/-- A grade within its ranges reads back. -/
theorem decodeLookGrade_encodeLook (h : GradeOk g) :
    decodeLookGrade (encodeLook g parent level children locks withheld free) = g := by
  obtain ⟨⟨l1, l2⟩, ⟨l3, l4⟩, ⟨l5, l6⟩, ⟨g1, g2⟩, ⟨g3, g4⟩, ⟨g5, g6⟩, ⟨m1, m2⟩, ⟨m3, m4⟩, ⟨m5, m6⟩, s1, s2⟩ := h
  have value (k pos : Nat) {v : Int} (hk : (lookFields g parent level children locks withheld free)[k]? = some (16, v))
      (hpos : (lookLengths.take k).sum = pos) (hlow : -512 ≤ v) (hhigh : v ≤ 4095) :
      signedOf (encodeLook g parent level children locks withheld free) pos 16 = v :=
    signedOf_eq (by decide) (bitsOf_encodeLook withheld free k pos hk hpos) (by norm_num; omega) (by norm_num; omega)
  rw [decodeLookGrade, value 7 64 rfl rfl l1 (by omega), value 8 80 rfl rfl l3 (by omega), value 9 96 rfl rfl l5 (by omega),
    value 10 112 rfl rfl (by omega) g2, value 11 128 rfl rfl (by omega) g4, value 12 144 rfl rfl (by omega) g6,
    value 13 160 rfl rfl (by omega) (by omega), value 14 176 rfl rfl (by omega) (by omega),
    value 15 192 rfl rfl (by omega) (by omega), value 16 208 rfl rfl (by omega) (by omega)]

end

/-- Every field of a look record within its range reads back, and the record ends in zero bytes. -/
theorem encodeLook_readsBack {w : Nat} {g : Grade} {parent level children locks : Nat} {withheld : Bool} {free : BitVec 512}
    (hw : w = encodeLook g parent level children locks withheld free) (hgrade : GradeOk g) (hparent : parent ≤ 63)
    (hlevel : level ≤ 4) (hchildren : children ≤ 63) (hlocks : locks ≤ 2048) :
    decodeLookGrade w = g ∧ bitsOf w 0 8 = parent ∧ bitsOf w 8 8 = level ∧ bitsOf w 16 8 = children
      ∧ bitsOf w 24 1 = bit withheld ∧ bitsOf w 32 16 = locks ∧ bitsOf w 224 32 = 0 := by
  rw [hw]
  have field (k pos : Nat) {len n : Nat} (hn : n < 2 ^ len)
      (hk : (lookFields g parent level children locks withheld free)[k]? = some (len, (n : Int)))
      (hpos : (lookLengths.take k).sum = pos) :
      bitsOf (encodeLook g parent level children locks withheld free) pos len = n := by
    rw [bitsOf_encodeLook withheld free k pos hk hpos, toNat_emod_natCast hn]
  have hparent : parent < 2 ^ 8 := by omega
  have hlevel : level < 2 ^ 8 := by omega
  have hchildren : children < 2 ^ 8 := by omega
  have hlocks : locks < 2 ^ 16 := by omega
  have hflag : bit withheld < 2 ^ 1 := by cases withheld <;> decide
  refine ⟨decodeLookGrade_encodeLook withheld free hgrade, field 0 0 hparent rfl rfl, field 1 8 hlevel rfl rfl,
    field 2 16 hchildren rfl rfl, field 3 24 hflag rfl rfl, field 5 32 hlocks rfl rfl, ?_⟩
  rw [bitsOf, Nat.shiftRight_eq_div_pow, Nat.div_eq_of_lt (encodeLook_lt ..), Nat.zero_mod]

/-- Settles O13: the record is written from the look as it stands, or with unity, parent 0 and level 0 for a house look. -/
theorem lookRecordReadsBack : Obligations.LookRecordReadsBack := by
  unfold Obligations.LookRecordReadsBack
  intro t i free l w house hgrade hlevel hchildren hlocks
  have hhouse : isHouse t i = true ↔ house := isHouse_iff
  by_cases hi : house
  · have hw : w = encodeLook unityGrade 0 0 l.children l.locks true free := if_pos (hhouse.mpr hi)
    obtain ⟨hg, hp, hl, hc, hflag, hk, hzero⟩ :=
      encodeLook_readsBack hw gradeOk_unity (Nat.zero_le _) (Nat.zero_le _) hchildren hlocks
    exact ⟨hc, hk, hzero, fun _ => ⟨hg, hp, hl, hflag⟩, fun hno => absurd hi hno⟩
  · have hw : w = encodeLook l.grade l.parent.val l.level l.children l.locks false free := if_neg (hhouse.not.mpr hi)
    obtain ⟨hg, hp, hl, hc, hflag, hk, hzero⟩ :=
      encodeLook_readsBack hw hgrade (Nat.le_of_lt_succ l.parent.isLt) hlevel hchildren hlocks
    exact ⟨hc, hk, hzero, fun hyes => absurd hyes hi, fun _ => ⟨hg, hp, hl, hflag⟩⟩

end Sys2Proof.Machine
end

section
/-!
PROOF. Cadence: the cadence map lays the frames' field indices side by side from the origin on (R48, R49).
-/
namespace Sys2Proof.Machine

/-! ### A frame in its pair (R48) -/

/-- Every frame is the first or the second of a pair counted from the origin. -/
theorem frame_in_pair (f : Follower) (frame : Int) : ∃ q, frame = f.origin + 2 * q ∨ frame = f.origin + 2 * q + 1 :=
  ⟨(frame - f.origin) / 2, by omega⟩

section
variable (f : Follower) (q : Int)

theorem pairIndex_first : pairIndex f (f.origin + 2 * q) = q := by unfold pairIndex; omega

theorem pairIndex_second : pairIndex f (f.origin + 2 * q + 1) = q := by unfold pairIndex; omega

theorem pairPlace_first : pairPlace f (f.origin + 2 * q) = 0 := by rw [pairPlace, pairIndex_first]; omega

theorem pairPlace_second : pairPlace f (f.origin + 2 * q + 1) = 1 := by rw [pairPlace, pairIndex_second]; omega

theorem fieldCount_first : fieldCount f (f.origin + 2 * q) = f.div := by simp [fieldCount, pairPlace_first]

theorem fieldCount_second : fieldCount f (f.origin + 2 * q + 1) = f.div + f.odd := by simp [fieldCount, pairPlace_second]

theorem startIndex_first : startIndex f (f.origin + 2 * q) = q * pairFields f := by
  simp [startIndex, pairIndex_first, pairPlace_first]

theorem startIndex_second : startIndex f (f.origin + 2 * q + 1) = q * pairFields f + f.div := by
  simp [startIndex, pairIndex_second, pairPlace_second]

end

/-! ### The tiling (R48) -/

/-- A frame's field indices end where the next frame's begin. -/
theorem startIndex_succ (f : Follower) (frame : Int) :
    startIndex f (frame + 1) = startIndex f frame + fieldCount f frame := by
  obtain ⟨q, rfl | rfl⟩ := frame_in_pair f frame
  · rw [startIndex_second, startIndex_first, fieldCount_first]
  · have hnext : f.origin + 2 * q + 1 + 1 = f.origin + 2 * (q + 1) := by ring
    rw [hnext, startIndex_first, startIndex_second, fieldCount_second, pairFields]
    push_cast
    ring

theorem fieldCount_pos {f : Follower} (h : 1 ≤ f.div) (frame : Int) : 0 < fieldCount f frame := by
  unfold fieldCount
  split <;> omega

theorem startIndex_strictMono {f : Follower} (h : 1 ≤ f.div) : StrictMono (startIndex f) := by
  refine strictMono_int_of_lt_succ fun frame => ?_
  have := fieldCount_pos h frame
  rw [startIndex_succ]
  omega

/-- Some frame has the field index: the first of its pair while DIV fields have not passed, else the second. -/
theorem exists_frame_of_index {f : Follower} (h : 1 ≤ f.div) (x : Int) :
    ∃ frame, startIndex f frame ≤ x ∧ x < startIndex f (frame + 1) := by
  have hpos : 0 < pairFields f := by unfold pairFields; omega
  have hsplit : x / pairFields f * pairFields f + x % pairFields f = x := Int.ediv_mul_add_emod x _
  have hlow := Int.emod_nonneg x hpos.ne'
  have hhigh := Int.emod_lt_of_pos x hpos
  rcases lt_or_ge (x % pairFields f) f.div with hfirst | hsecond
  · refine ⟨f.origin + 2 * (x / pairFields f), ?_⟩
    rw [startIndex_second, startIndex_first]
    omega
  · refine ⟨f.origin + 2 * (x / pairFields f) + 1, ?_⟩
    rw [startIndex_succ f (_ + 1), startIndex_second, fieldCount_second]
    unfold pairFields at *
    omega

/-- Two frames do not share a field index. -/
theorem frame_of_index_unique {f : Follower} (h : 1 ≤ f.div) {x a b : Int}
    (ha : startIndex f a ≤ x ∧ x < startIndex f (a + 1)) (hb : startIndex f b ≤ x ∧ x < startIndex f (b + 1)) : a = b := by
  have hmono := startIndex_strictMono h
  have hab : a < b + 1 := hmono.lt_iff_lt.mp (ha.1.trans_lt hb.2)
  have hba : b < a + 1 := hmono.lt_iff_lt.mp (hb.1.trans_lt ha.2)
  omega

/-! ### Parity (R49) -/

theorem indexParity_first_iff (x : Int) : indexParity x = .first ↔ x % 2 = 0 := by
  unfold indexParity
  split <;> simp <;> omega

theorem indexParity_second_iff (x : Int) : indexParity x = .second ↔ x % 2 = 1 := by
  unfold indexParity
  split <;> simp <;> omega

/-- Settles O31: start indices rise by each frame's field count, so that they cut the indices into the frames' runs. -/
theorem cadenceMapTilesTheIndices : Obligations.CadenceMapTilesTheIndices := by
  unfold Obligations.CadenceMapTilesTheIndices
  intro f hdiv _
  refine ⟨?_, fun frame => ⟨startIndex_succ f frame, fun heven => ?_⟩, fun x => ?_,
    fun x => ⟨indexParity_first_iff x, indexParity_second_iff x⟩⟩
  · have horigin := startIndex_first f 0
    simpa using horigin
  · obtain ⟨q, rfl | rfl⟩ := frame_in_pair f frame
    · exact ⟨fieldCount_first f q, fieldCount_second f q⟩
    · omega
  · obtain ⟨frame, hframe⟩ := exists_frame_of_index hdiv x
    simp only [← startIndex_succ]
    exact ⟨frame, hframe, fun other hother => frame_of_index_unique hdiv hother hframe⟩

end Sys2Proof.Machine
end

section
/-!
PROOF. TransportOrders: SET STANDARD, SET POSITION, SET FOLLOW and SET PICTURE as they are taken (R44 to R46, R84).
-/
namespace Sys2Proof.Machine

/-! ### What the parameters name -/

theorem standardOf_eq_none {v : Nat} : standardOf v = none ↔ ¬ (v = 50 ∨ v = 60) := by
  unfold standardOf
  split <;> [skip; split] <;> simp <;> omega

theorem standardOf_eq_some {v : Nat} (h : v = 50 ∨ v = 60) : standardOf v = some (if v = 50 then .s50 else .s60) := by
  rcases h with rfl | rfl <;> rfl

/-- A flag-like code that names a value names the second one when it is 1. -/
theorem flagCode_eq_some {v : Nat} (h : v ≤ 1) : flagCode v = some (v == 1) := by
  obtain rfl | rfl : v = 0 ∨ v = 1 := by omega
  · rfl
  · rfl

theorem cadenceInRange_iff (o : Int) (div odd : Nat) :
    cadenceInRange o div odd = true ↔ FrameOk o ∧ (1 ≤ div ∧ div ≤ 15) ∧ odd ≤ 1 := by
  simp only [cadenceInRange, Bool.and_eq_true, isFrame_iff, decide_eq_true_eq, and_assoc]

/-! ### The orders while no pass exists -/

section
variable {b : OrderBlock} {s : State} (hpass : s.pass = none)
include hpass

theorem takeSetStandard_eq :
    takeSetStandard b s
      = if s.follower.mode ≠ .free then finish b .mode 0 s
        else if (param b 12 1 = 50 ∨ param b 12 1 = 60) ∧ 1 ≤ param b 13 1 ∧ param b 13 1 ≤ 4 then
          finish b .ok 0
            { s with
              follower := setStandard (if param b 12 1 = 50 then .s50 else .s60) (param b 13 1) s.follower }
        else finish b .range 0 s := by
  by_cases hstd : param b 12 1 = 50 ∨ param b 12 1 = 60
  · simp only [takeSetStandard, passExists_eq, hpass, Option.isSome_none, Bool.false_eq_true, if_false,
      standardOf_eq_some hstd, hstd, true_and]
  · simp only [takeSetStandard, passExists_eq, hpass, Option.isSome_none, Bool.false_eq_true, if_false,
      standardOf_eq_none.mpr hstd, hstd, false_and]

theorem takeSetPosition_eq :
    takeSetPosition b s
      = if s.follower.mode ≠ .free then finish b .mode 0 s
        else if FrameOk (paramFrame b 12) then
          finish b .ok 0 { s with follower := { s.follower with perf := paramFrame b 12 * s.follower.ppf } }
        else finish b .range 0 s := by
  simp only [takeSetPosition, passExists_eq, hpass, Option.isSome_none, Bool.false_eq_true, if_false, Bool.not_eq_true',
    ← Bool.not_eq_true, isFrame_iff, ite_not]

theorem takeSetFollow_eq :
    takeSetFollow b s
      = if 1 < param b 12 1 then finish b .range 0 s
        else if param b 12 1 = 0 then finish b .ok 0 { s with follower := { s.follower with mode := .free } }
        else if FrameOk (paramFrame b 16) ∧ (1 ≤ param b 20 1 ∧ param b 20 1 ≤ 15) ∧ param b 21 1 ≤ 1 then
          finish b .ok 0
            { s with
              follower :=
                { s.follower with
                  mode := .seeking, origin := paramFrame b 16, div := param b 20 1, odd := param b 21 1 } }
        else finish b .range 0 s := by
  simp only [takeSetFollow, passExists_eq, hpass, Option.isSome_none, Bool.false_eq_true, if_false, ← cadenceInRange_iff]
  generalize param b 12 1 = v
  obtain rfl | rfl | hv : v = 0 ∨ v = 1 ∨ 1 < v := by omega
  · rfl
  · rfl
  · rw [flagCode_eq_none.mpr (by omega), if_pos hv]

theorem takeSetPicture_eq :
    takeSetPicture b s
      = if param b 12 1 ≤ 1 ∧ param b 13 1 ≤ 1 then
          finish b .ok 0
            { s with
              picture :=
                { s.picture with legalClip := param b 12 1 == 1, defaultNegative := param b 13 1 == 1 } }
        else finish b .range 0 s := by
  simp only [takeSetPicture, passExists_eq, hpass, Option.isSome_none, Bool.false_eq_true, if_false]
  by_cases hclip : param b 12 1 ≤ 1
  · by_cases hnegative : param b 13 1 ≤ 1
    · simp only [flagCode_eq_some hclip, flagCode_eq_some hnegative, hclip, hnegative, and_self, if_true]
    · simp only [flagCode_eq_some hclip, flagCode_eq_none.mpr hnegative, hnegative, and_false, if_false]
  · simp only [flagCode_eq_none.mpr hclip, hclip, false_and, if_false]

end

/-- Settles O16: each order's checks in turn, and the settings it writes. -/
theorem transportOrdersCheckInOrder : Obligations.TransportOrdersCheckInOrder := by
  unfold Obligations.TransportOrdersCheckInOrder
  intro s b
  refine ⟨fun hb => ?_, fun hb => ?_, fun hb => ?_, fun hb => ?_⟩
  · have hexec : exec .setStandard s = .next (takeSetStandard b s) := next_withOrder hb _
    intro std ppf ok
    rw [hexec]
    refine ⟨fun hp => ?_, fun hp hmode => ?_, fun hp hmode hno => ?_, fun hp hmode hok => ?_⟩
    · exact congrArg _ (if_pos ((passExists_iff s).mpr hp))
    · rw [takeSetStandard_eq hp, if_pos hmode]
    · rw [takeSetStandard_eq hp, if_neg (not_not.mpr hmode), if_neg hno]
    · rw [takeSetStandard_eq hp, if_neg (not_not.mpr hmode), if_pos hok]
      rfl
  · have hexec : exec .setPosition s = .next (takeSetPosition b s) := next_withOrder hb _
    intro f
    rw [hexec]
    refine ⟨fun hp => ?_, fun hp hmode => ?_, fun hp hmode hno => ?_, fun hp hmode hok => ?_⟩
    · exact congrArg _ (if_pos ((passExists_iff s).mpr hp))
    · rw [takeSetPosition_eq hp, if_pos hmode]
    · rw [takeSetPosition_eq hp, if_neg (not_not.mpr hmode), if_neg hno]
    · rw [takeSetPosition_eq hp, if_neg (not_not.mpr hmode), if_pos hok]
  · have hexec : exec .setFollow s = .next (takeSetFollow b s) := next_withOrder hb _
    intro o div odd ok
    rw [hexec]
    refine ⟨fun hp => ?_, fun hp hcode => ?_, fun hp hfree => ?_, fun hp hseek hno => ?_, fun hp hseek hok => ?_⟩
    · exact congrArg _ (if_pos ((passExists_iff s).mpr hp))
    · rw [takeSetFollow_eq hp, if_pos hcode]
    · rw [takeSetFollow_eq hp, if_neg (by omega), if_pos hfree]
    · rw [takeSetFollow_eq hp, if_neg (by omega), if_neg (by omega), if_neg hno]
    · rw [takeSetFollow_eq hp, if_neg (by omega), if_neg (by omega), if_pos hok]
  · have hexec : exec .setPicture s = .next (takeSetPicture b s) := next_withOrder hb _
    rw [hexec]
    refine ⟨fun hp => ?_, fun hp hcode => ?_, fun hp hclip hnegative => ?_⟩
    · exact congrArg _ (if_pos ((passExists_iff s).mpr hp))
    · rw [takeSetPicture_eq hp, if_neg (by omega)]
    · rw [takeSetPicture_eq hp, if_pos ⟨hclip, hnegative⟩]

end Sys2Proof.Machine
end

section
/-!
PROOF. Following: what a field event makes of following and of its record (R50 to R54, R56 to R58), and what a perf event makes of
the counter (R42).
-/
namespace Sys2Proof.Machine

/-! ### Field commands (R60, R61) -/

/-- A field command is a field event of its parity, whatever made it. -/
theorem exec_fieldCommand {s : State} {c : Instr} {p : Parity} {timer : Bool} {order : List FieldAct}
    (h : (c = .fieldEvent p order ∧ timer = false)
      ∨ (c = .referenceWatchExpiry order ∧ s.follower.standIn = false ∧ p = standInParity s.follower ∧ timer = true)
      ∨ (c = .standInField order ∧ s.follower.standIn = true ∧ p = standInParity s.follower ∧ timer = true)) :
    exec c s = .next (fieldStep p timer order s) := by
  obtain ⟨rfl, rfl⟩ | ⟨rfl, hstand, rfl, rfl⟩ | ⟨rfl, hstand, rfl, rfl⟩ := h
  · rfl
  · exact congrArg _ (if_neg (by simp [hstand]))
  · exact congrArg _ (if_pos hstand)

/-- The parity of a field that the field timer makes (R60). -/
theorem fieldCommand_parity {s : State} {c : Instr} {p : Parity} (h : FieldCommand s c p true) :
    p = standInParity s.follower := by
  obtain ⟨order, ⟨-, htimer⟩ | ⟨-, -, hp, -⟩ | ⟨-, -, hp, -⟩⟩ := h
  · cases htimer
  · exact hp
  · exact hp

/-! ### The account (R52 to R54) -/

/-- The frame of the account one field on: it holds at the last frame (R52, R53). -/
def nextFrame (f : Follower) (e : Int) (n : Nat) : Int :=
  if n + 1 < fieldCount f e then e else if e = 999999 then e else e + 1

/-- The count of the account one field on (R52). -/
def nextCount (f : Follower) (e : Int) (n : Nat) : Nat := if n + 1 < fieldCount f e then n + 1 else 0

theorem advanceAccount_eq (f : Follower) (e : Int) (n : Nat) :
    advanceAccount f e n
      = (nextFrame f e n, nextCount f e n, decide (e = 999999 ∧ fieldCount f e ≤ n + 1)) := by
  unfold advanceAccount nextFrame nextCount Config.frameMax
  by_cases hcount : n + 1 < fieldCount f e
  · simp [hcount]
  · by_cases htop : e = 999999
    · subst htop
      simp [hcount, Nat.le_of_not_lt hcount]
    · simp [hcount, htop]

/-- A field of parity `p` is in step with the account (R54). -/
abbrev InStep (f : Follower) (p : Parity) (e : Int) (n : Nat) : Prop :=
  (-1 ≤ f.perf / f.ppf - e ∧ f.perf / f.ppf - e ≤ 1) ∧ p = indexParity (startIndex f e + n)

theorem inStep_iff (f : Follower) (p : Parity) (e : Int) (n : Nat) : inStep f e n p = true ↔ InStep f p e n := by
  simp only [inStep, Bool.and_eq_true, beq_iff_eq, decide_eq_true_eq]
  rfl

/-! ### Following, mode by mode (R50 to R54) -/

theorem follow_free {f : Follower} (h : f.mode = .free) (p : Parity) :
    follow f p = ⟨.free, f.perf / f.ppf, .free, false, none⟩ := by simp [follow, h, tachFrame]

theorem follow_seeking {f : Follower} (h : f.mode = .seeking) (p : Parity) :
    follow f p
      = if p = startParity f (f.perf / f.ppf) then
          ⟨.locked (f.perf / f.ppf) 0, f.perf / f.ppf, .locked 0 (startIndex f (f.perf / f.ppf)), false, none⟩
        else ⟨.seeking, f.perf / f.ppf, .seeking, false, none⟩ := by
  simp only [follow, h]
  rfl

/-- A field in step with the advanced account takes it over (R52 to R54). -/
theorem follow_locked_inStep {f : Follower} {e : Int} {n : Nat} {p : Parity} (h : f.mode = .locked e n)
    (hstep : InStep f p (nextFrame f e n) (nextCount f e n)) :
    follow f p
      = ⟨.locked (nextFrame f e n) (nextCount f e n), nextFrame f e n,
          .locked (nextCount f e n) (startIndex f (nextFrame f e n) + nextCount f e n),
          decide (e = 999999 ∧ fieldCount f e ≤ n + 1), none⟩ := by
  simp only [follow, h, advanceAccount_eq, (inStep_iff ..).mpr hstep, if_true]

/-- A field out of step slips (R54). -/
theorem follow_locked_slip {f : Follower} {e : Int} {n : Nat} {p : Parity} (h : f.mode = .locked e n)
    (hslip : ¬ InStep f p (nextFrame f e n) (nextCount f e n)) :
    follow f p
      = ⟨.seeking, f.perf / f.ppf, .seeking, decide (e = 999999 ∧ fieldCount f e ≤ n + 1),
          some (nextFrame f e n)⟩ := by
  simp only [follow, h, advanceAccount_eq, (inStep_iff ..).not.mpr hslip]
  rfl

/-- The account holds when the last frame's fields have passed (R53). -/
theorem follow_held_iff (f : Follower) (p : Parity) :
    (follow f p).held = true ↔ ∃ n, f.mode = .locked 999999 n ∧ fieldCount f 999999 ≤ n + 1 := by
  cases hmode : f.mode with
  | free => simp [follow_free hmode]
  | seeking =>
    rw [follow_seeking hmode]
    split <;> simp
  | locked e n =>
    have hheld : (follow f p).held = decide (e = 999999 ∧ fieldCount f e ≤ n + 1) := by
      by_cases hstep : InStep f p (nextFrame f e n) (nextCount f e n)
      · rw [follow_locked_inStep hmode hstep]
      · rw [follow_locked_slip hmode hstep]
    rw [hheld, decide_eq_true_eq]
    constructor
    · rintro ⟨rfl, hn⟩
      exact ⟨n, rfl, hn⟩
    · rintro ⟨m, hm, hn⟩
      cases hm
      exact ⟨rfl, hn⟩

theorem pulses_locked_iff (n : Nat) (x : Int) : pulses (.locked n x) = true ↔ n = 0 := by
  cases n <;> simp [pulses]

/-- Settles O30: the follower after a field command, read off the mode it was in. -/
theorem followingAtAFieldEvent : Obligations.FollowingAtAFieldEvent := by
  unfold Obligations.FollowingAtAFieldEvent
  rintro s c p timer ⟨order, hc⟩ f tach
  refine ⟨_, exec_fieldCommand hc, ?_⟩
  rw [fieldStep_follower]
  refine ⟨fun hmode => ?_, fun hmode => ?_, fun e n hmode => ?_⟩
  · have hw : follow s.follower p = _ := follow_free hmode p
    simp only [followField, makeRecord, hw]
    exact ⟨trivial, rfl, trivial, rfl, rfl⟩
  · have hw : follow s.follower p = _ := follow_seeking hmode p
    by_cases hp : p = startParity f tach
    · rw [if_pos hp] at hw
      simp only [followField, makeRecord, hw]
      exact ⟨rfl, rfl, fun _ => ⟨rfl, rfl, rfl⟩, fun hno => absurd hp hno⟩
    · rw [if_neg hp] at hw
      simp only [followField, makeRecord, hw]
      exact ⟨rfl, rfl, fun hyes => absurd hyes hp, fun _ => ⟨trivial, trivial, rfl⟩⟩
  · intro e' n' step
    by_cases hstep : step
    · have hw : follow s.follower p = _ := follow_locked_inStep hmode hstep
      simp only [followField, makeRecord, hw]
      exact ⟨fun _ => ⟨rfl, rfl, rfl, rfl, pulses_locked_iff _ _⟩, fun hno => absurd hstep hno⟩
    · have hw : follow s.follower p = _ := follow_locked_slip hmode hstep
      simp only [followField, makeRecord, hw]
      exact ⟨fun hyes => absurd hyes hstep, fun _ => ⟨trivial, rfl, trivial, rfl, rfl⟩⟩

end Sys2Proof.Machine
end

section
/-!
PROOF. FieldShares: the shares of a field event take back no pending attention cause and leave the output alone (R87, R183).
-/
namespace Sys2Proof.Machine

/-! ### What the link and pass operations are made of -/

/-- `t` comes of `s` by attention causes raised, journal entries offered, and changes of link records and of the pass: all that
the operations of the link and pass controllers do. -/
inductive SideMoves : State → State → Prop
  | refl (s : State) : SideMoves s s
  | trans {s t u : State} (h : SideMoves s t) (k : SideMoves t u) : SideMoves s u
  | raise (c : Cause) (s : State) : SideMoves s (raise c s)
  | offer (e : Entry) (s : State) : SideMoves s (offer e s)
  | links (x : PerLink LinkRec) (s : State) : SideMoves s { s with links := x }
  | pass (p : Option Pass) (s : State) : SideMoves s { s with pass := p }

theorem setLinkRec_moves (l : Link) (r : LinkRec) (s : State) : SideMoves s (setLinkRec l r s) := .links ..

theorem changePass_moves (f : Pass → Pass) (s : State) : SideMoves s (changePass f s) := .pass ..

theorem ite_moves {p : Prop} [Decidable p] {s t u : State} (ht : SideMoves s t) (hu : SideMoves s u) :
    SideMoves s (if p then t else u) := by
  split <;> assumption

theorem eachLink_moves (x : LinkSet) {f : Link → State → State} (s : State) (h : ∀ l t, SideMoves t (f l t)) :
    SideMoves s (eachLink x f s) := by
  unfold eachLink
  generalize membersOf x = ls
  induction ls generalizing s with
  | nil => exact .refl s
  | cons l ls ih => exact (h l s).trans (ih _)

/-! ### The link controller -/

theorem faultLink_moves (l : Link) (c : FaultCause) (n : Nat) (s : State) : SideMoves s (faultLink l c n s) :=
  (setLinkRec_moves ..).trans (.raise ..)

theorem enterFault_moves (l : Link) (c : FaultCause) (n v : Nat) (tc : Option Nat) (s : State) :
    SideMoves s (enterFault l c n v tc s) := (faultLink_moves ..).trans (.offer ..)

theorem issue_moves (l : Link) (d : Directive) (f : LinkRec → LinkRec) (s : State) : SideMoves s (issue l d f s) :=
  ite_moves (enterFault_moves ..) (setLinkRec_moves ..)

theorem issueEarly_moves (l : Link) (d : Directive) (f : LinkRec → LinkRec) (s : State) :
    SideMoves s (issueEarly l d f s) := ite_moves (faultLink_moves ..) (setLinkRec_moves ..)

theorem lateFault_moves (before : State) (l : Link) (s : State) : SideMoves s (lateFault before l s) :=
  ite_moves (.offer ..) (.refl s)

theorem cueRequest_moves (l : Link) (tc : Nat) (s : State) : SideMoves s (cueRequest l tc s) :=
  ite_moves ((setLinkRec_moves ..).trans (issue_moves ..)) (.refl s)

theorem releaseRequest_moves (l : Link) (s : State) : SideMoves s (releaseRequest l s) :=
  ite_moves (issueEarly_moves ..) (.refl s)

theorem rollRequest_moves (l : Link) (s : State) : SideMoves s (rollRequest l s) := ite_moves (issue_moves ..) (.refl s)

theorem inRequest_moves (l : Link) (tc : Nat) (s : State) : SideMoves s (inRequest l tc s) :=
  ite_moves (ite_moves ((setLinkRec_moves ..).trans (issue_moves ..)) (enterFault_moves ..)) (.refl s)

theorem outRequest_moves (l : Link) (s : State) : SideMoves s (outRequest l s) :=
  ite_moves (issueEarly_moves ..) (.refl s)

theorem closeRequest_moves (l : Link) (s : State) : SideMoves s (closeRequest l s) :=
  ite_moves (issueEarly_moves ..) (.refl s)

theorem checkTimer_moves (l : Link) (s : State) : SideMoves s (checkTimer l s) := by
  refine ite_moves ?_ (.refl s)
  cases (linkOf l s).timer with
  | none => exact .refl s
  | some t =>
    simp only [expireKind]
    cases t.kind <;> exact enterFault_moves ..

theorem decideDown_moves (l : Link) (s : State) : SideMoves s (decideDown l s) :=
  ite_moves (issue_moves ..) (setLinkRec_moves ..)

/-! ### The pass controller -/

theorem editOut_moves (p : Pass) (x : Int) (l : Link) (s : State) : SideMoves s (editOut p x l s) :=
  ite_moves ((outRequest_moves ..).trans (.offer ..)) (outRequest_moves ..)

theorem editIn_moves (p : Pass) (x : Int) (sc : RecScene) (l : Link) (s : State) : SideMoves s (editIn p x sc l s) :=
  ite_moves ((inRequest_moves ..).trans (.offer ..)) (inRequest_moves ..)

theorem closeEdit_moves (p : Pass) (x : Int) (l : Link) (s : State) : SideMoves s (closeEdit p x l s) :=
  ite_moves ((closeRequest_moves ..).trans (.offer ..)) (closeRequest_moves ..)

theorem offerScene_moves (p : Pass) (sc : RecScene) (x : Int) (s : State) : SideMoves s (offerScene p sc x s) := by
  have hscene : SideMoves s (if newNumber p sc then offer (sceneEntry .scene sc x s) s else s) :=
    ite_moves (.offer ..) (.refl s)
  exact hscene.trans (ite_moves (.offer ..) (.refl _))

theorem workSet_moves (p : Pass) (x : Int) (s : State) : SideMoves s (workSet p x s) :=
  (offerScene_moves ..).trans <| (eachLink_moves _ _ fun _ _ => editOut_moves ..).trans <| (changePass_moves ..).trans <|
    (eachLink_moves _ _ fun _ _ => editIn_moves ..).trans <| (changePass_moves ..).trans <|
      eachLink_moves _ _ fun _ _ => lateFault_moves ..

theorem abortPassNow_moves (c : AbortCause) (s : State) : SideMoves s (abortPassNow c s) := by
  unfold abortPassNow
  cases s.pass with
  | none => exact .refl s
  | some p =>
    exact ite_moves (.refl s) <| (changePass_moves ..).trans <|
      (eachLink_moves _ _ fun _ _ => (closeEdit_moves ..).trans (releaseRequest_moves ..)).trans <|
        eachLink_moves _ _ fun _ _ => lateFault_moves ..

theorem memberLoss_moves (l : Link) (s : State) : SideMoves s (memberLoss l s) := by
  unfold memberLoss
  cases s.pass with
  | none => exact .refl s
  | some p =>
    exact ite_moves (ite_moves ((changePass_moves ..).trans (abortPassNow_moves ..)) (changePass_moves ..)) (.refl s)

theorem tellLosses_moves (before after : State) : SideMoves after (tellLosses before after) := by
  unfold tellLosses
  generalize Link.all = ls
  suffices h : ∀ s, SideMoves s (ls.foldl (fun s l => if faultedIn before after l then memberLoss l s else s) s) from h _
  induction ls with
  | nil => exact .refl
  | cons l ls ih => exact fun s => (ite_moves (memberLoss_moves l s) (.refl s)).trans (ih _)

theorem resolvePass_moves (p : Pass) (s : State) : SideMoves s (resolvePass p s) :=
  ite_moves ((changePass_moves ..).trans (abortPassNow_moves ..)) <|
    (changePass_moves ..).trans <| (eachLink_moves _ _ fun _ _ => releaseRequest_moves ..).trans <|
      (eachLink_moves _ _ fun _ _ => lateFault_moves ..).trans <|
        (eachLink_moves _ _ fun _ _ => setLinkRec_moves ..).trans (changePass_moves ..)

theorem preparePass_moves (p : Pass) (s : State) : SideMoves s (preparePass p s) := by
  have hcues : SideMoves s (issueCues p s) :=
    (changePass_moves ..).trans (eachLink_moves _ _ fun _ _ => cueRequest_moves ..)
  have hcue : SideMoves s (if p.cuesIssued then s else if nonesWaking p s then issueCues p s else s) :=
    ite_moves (.refl s) (ite_moves hcues (.refl s))
  exact ite_moves (hcue.trans (resolvePass_moves ..)) hcue

theorem closePass_moves (p : Pass) (s : State) : SideMoves s (closePass p s) :=
  ite_moves
    ((SideMoves.offer _ _).trans <| (SideMoves.raise _ _).trans <|
      (eachLink_moves _ _ fun _ _ => setLinkRec_moves ..).trans (.pass ..))
    (.refl s)

theorem atIndex_moves (m : FieldMode) {f : Int → State → State} (s : State) (h : ∀ x t, SideMoves t (f x t)) :
    SideMoves s (atIndex m f s) := by
  cases m with
  | locked n x => exact h x s
  | _ => exact .refl s

theorem passByState_moves (p : Pass) (s : State) : SideMoves s (passByState p s) := by
  unfold passByState
  cases p.state with
  | preparing => exact preparePass_moves p s
  | waiting =>
    refine atIndex_moves _ s fun x t => ite_moves ?_ (ite_moves (abortPassNow_moves ..) (.refl t))
    exact (changePass_moves ..).trans (eachLink_moves _ _ fun _ _ => rollRequest_moves ..)
  | rolling => exact atIndex_moves _ s fun x t => ite_moves (workSet_moves ..) (.refl t)
  | recording =>
    refine atIndex_moves _ s fun x t => ite_moves (ite_moves (workSet_moves ..) ?_) (.refl t)
    exact (changePass_moves ..).trans <| (eachLink_moves _ _ fun _ _ => closeEdit_moves ..).trans <|
      eachLink_moves _ _ fun _ _ => lateFault_moves ..
  | closing => exact closePass_moves p s

theorem passField_moves (s : State) : SideMoves s (passField s) := by
  have hstep (p : Pass) : SideMoves s (passStep p s) :=
    (SideMoves.pass _ s).trans <|
      ite_moves (abortPassNow_moves ..) (ite_moves (abortPassNow_moves ..) (passByState_moves ..))
  unfold passField
  refine ite_moves ?_ (.refl s)
  cases s.pass with
  | none => exact .refl s
  | some p => exact (hstep p).trans (tellLosses_moves ..)

/-! ### What a share leaves -/

/-- Between `s` and `t` no pending attention cause is taken back, and the output stays. -/
structure ShareFrame (s t : State) : Prop where
  pending : ∀ c, isPending c s = true → isPending c t = true
  output : t.picture.output = s.picture.output

theorem ShareFrame.refl (s : State) : ShareFrame s s := ⟨fun _ h => h, rfl⟩

theorem ShareFrame.trans {s t u : State} (h : ShareFrame s t) (k : ShareFrame t u) : ShareFrame s u :=
  ⟨fun c hc => k.pending c (h.pending c hc), k.output.trans h.output⟩

theorem ShareFrame.same {s t : State} (ha : t.port.attention = s.port.attention)
    (ho : t.picture.output = s.picture.output) : ShareFrame s t :=
  ⟨fun c hc => by rwa [isPending, ha], ho⟩

theorem raise_share (c : Cause) (s : State) : ShareFrame s (raise c s) :=
  ⟨fun d hd => by rw [isPending, raise_attention, BitVec.getLsbD_or, ← isPending, hd, Bool.true_or], rfl⟩

theorem ite_share {p : Prop} [Decidable p] {s t u : State} (ht : ShareFrame s t) (hu : ShareFrame s u) :
    ShareFrame s (if p then t else u) := by
  split <;> assumption

theorem SideMoves.share {s t : State} (h : SideMoves s t) : ShareFrame s t := by
  induction h with
  | refl s => exact .refl s
  | trans _ _ h k => exact h.trans k
  | raise c s => exact raise_share c s
  | offer e s => exact .same (by rw [offer_port]) (by rw [offer_picture])
  | links x s => exact .same rfl rfl
  | pass p s => exact .same rfl rfl

theorem setLevel_share (l : Level) (s : State) : ShareFrame s { s with level := l } := .same rfl rfl

theorem closeTally_share (s : State) : ShareFrame s (closeTally s) := by
  unfold closeTally
  cases s.level.tally with
  | none => exact .refl s
  | some t => exact ite_share (.same (by rw [offer_port]) (by rw [offer_picture])) (.same rfl rfl)

theorem takeJudgement_share (j : Option AlertFlags) (s : State) : ShareFrame s (takeJudgement j s) := by
  cases j with
  | none => exact .refl s
  | some f => exact ite_share ((setLevel_share _ s).trans (raise_share ..)) (setLevel_share _ s)

theorem statsField_share (m : Measurement) (e : Bool) (s : State) : ShareFrame s (statsField m e s) := by
  unfold statsField
  cases m.start <;> exact .same rfl rfl

theorem tallyField_share (m : Measurement) (j : Option AlertFlags) (s : State) : ShareFrame s (tallyField m j s) := by
  have hclose : ShareFrame s (if tallyDiffers s m then closeTally s else s) := ite_share (closeTally_share s) (.refl s)
  exact ite_share (hclose.trans (setLevel_share ..)) (.refl s)

theorem dealMeasurement_share (m : Measurement) (s : State) : ShareFrame s (dealMeasurement m s) := by
  have hjudged (l : Level) (j : Option AlertFlags) : ShareFrame s (takeJudgement j { s with level := l }) :=
    (setLevel_share l s).trans (takeJudgement_share ..)
  exact .trans (ite_share ((hjudged _ _).trans (statsField_share ..)) (hjudged _ _)) (tallyField_share ..)

theorem levelField_share (s : State) : ShareFrame s (levelField s) := by
  have hfinish : ShareFrame s (finishOpen s) := by
    unfold finishOpen
    cases s.level.openMeas with
    | none => exact .refl s
    | some m => exact (setLevel_share _ s).trans (dealMeasurement_share ..)
  have hclose : ShareFrame (finishOpen s) (closeIfEnded (finishOpen s)) := ite_share (.refl _) (closeTally_share _)
  exact ite_share (hfinish.trans (hclose.trans (setLevel_share ..))) (.refl s)

/-- One block's share of a field event takes back no attention cause and leaves the output. -/
theorem runAct_share (a : FieldAct) (s : State) : ShareFrame s (runAct a s) := by
  cases a with
  | grade | restCount | restEntry | framers | silence | poll => exact ite_share (.same rfl rfl) (.same rfl rfl)
  | measure => exact levelField_share s
  | timer l => exact ((checkTimer_moves l s).trans (tellLosses_moves ..)).share
  | autoDown l => exact ((decideDown_moves l s).trans (tellLosses_moves ..)).share
  | pass => exact (passField_moves s).share
  | report =>
    refine ite_share ?_ (.refl s)
    cases s.reports.setting <;> exact .same rfl rfl

theorem runActs_share (acts : List FieldAct) (s : State) : ShareFrame s (acts.foldl (fun s a => runAct a s) s) := by
  induction acts generalizing s with
  | nil => exact .refl s
  | cons a acts ih => exact (runAct_share a s).trans (ih _)

/-! ### What the follower publishes beside its record -/

theorem offerSlip_moves (slip : Option Int) (tach : Int) (s : State) : SideMoves s (offerSlip slip tach s) := by
  cases slip with
  | none => exact .refl s
  | some e => exact ite_moves (.offer ..) (.refl s)

theorem noteReference_moves (was timer : Bool) (s : State) : SideMoves s (noteReference was timer s) :=
  ite_moves (.refl s) ((SideMoves.raise _ s).trans (.offer ..))

/-- A field event leaves 64 on the output (R87). -/
theorem fieldStep_output (p : Parity) (timer : Bool) (order : List FieldAct) (s : State) :
    (fieldStep p timer order s).picture.output = Rgb.same 64 := by
  unfold fieldStep publish
  rw [(runActs_share ..).output, ((noteReference_moves ..).trans (offerSlip_moves ..)).share.output, blankOutput_output]

theorem isPending_raise (c : Cause) (s : State) : isPending c (raise c s) = true := by
  rw [isPending, raise_attention]
  cases c <;> simp [Cause.word, Cause.bitIndex]

/-- REFERENCE is pending after a field at which stand-in begins or ends (R60, R61). -/
theorem fieldStep_reference {p : Parity} {timer : Bool} {order : List FieldAct} {s : State}
    (h : s.follower.standIn ≠ timer) : isPending .reference (fieldStep p timer order s) = true := by
  have hnote (was : Bool) (hwas : was ≠ timer) (u : State) : isPending .reference (noteReference was timer u) = true := by
    unfold noteReference
    rw [if_neg hwas]
    exact (SideMoves.offer _ _).share.pending _ (isPending_raise _ _)
  have hpublish (u : State) (hu : u.follower.standIn ≠ timer) : isPending .reference (publish p timer u) = true :=
    (offerSlip_moves _ _ _).share.pending _ (hnote _ hu _)
  have hsettled : (settleField s).follower.standIn ≠ timer := by rwa [(settleField_frame s).follower]
  exact (runActs_share (arrange order) _).pending _ (hpublish _ hsettled)

/-! ### The perf counter and the record (R42, R57 to R61) -/

theorem atLimit_iff (f : Follower) : atLimit f = true ↔ f.perf = -10000 * f.ppf ∨ f.perf = 1000000 * f.ppf - 1 := by
  simp only [atLimit, Bool.or_eq_true, beq_iff_eq]
  rfl

/-- LIMIT by its causes (R58). -/
theorem limit_followField (f : Follower) (p : Parity) (timer : Bool) :
    (followField f p timer).record.limit = true
      ↔ (f.heldNote = true ∨ f.perf = -10000 * f.ppf ∨ f.perf = 1000000 * f.ppf - 1)
        ∨ ∃ n, f.mode = .locked 999999 n ∧ fieldCount f 999999 ≤ n + 1 := by
  simp only [followField, makeRecord, Bool.or_eq_true, atLimit_iff, follow_held_iff]

/-- Settles O29: the two perf events by definition; a field command's record is the one that `followField` makes, and REFERENCE
stays pending through the shares. -/
theorem perfAndFieldEventsMakeTheRecord : Obligations.PerfAndFieldEventsMakeTheRecord := by
  unfold Obligations.PerfAndFieldEventsMakeTheRecord
  refine ⟨fun s => ⟨rfl, rfl⟩, fun s c p timer hc => ?_⟩
  intro f limits
  constructor
  · rintro rfl
    rw [fieldCommand_parity hc, standInParity]
    exact ⟨fun hnone => by rw [hnone], fun q hq => by rw [hq]⟩
  · obtain ⟨order, hc⟩ := hc
    have hlimit : (followField f p timer).record.limit = true ↔ limits ∨ _ := limit_followField f p timer
    refine ⟨_, exec_fieldCommand hc, ?_⟩
    rw [fieldStep_follower]
    exact ⟨rfl, rfl, rfl, rfl, rfl, rfl, rfl, fun h => hlimit.mpr (.inl h), fun _ => hlimit, fieldStep_reference, rfl⟩

end Sys2Proof.Machine
end

section
/-!
PROOF. FieldCommands: a field command whole: the order of the shares, and all that the follower publishes (R55, R57, R60, R61, R87).
-/
namespace Sys2Proof.Machine

/-! ### The order of the shares -/

theorem eraseDups_of_nodup {α : Type} [BEq α] [LawfulBEq α] {l : List α} (h : l.Nodup) : l.eraseDups = l := by
  induction l with
  | nil => rfl
  | cons a l ih =>
    obtain ⟨ha, hl⟩ := List.nodup_cons.mp h
    have hkeep : l.filter (fun b => !b == a) = l :=
      List.filter_eq_self.mpr fun b hb => by simpa using fun he : b = a => ha (he ▸ hb)
    rw [List.eraseDups_cons, hkeep, ih hl]

theorem mem_arrange {order : List FieldAct} {a : FieldAct} : a ∈ arrange order ↔ a ∈ order ∨ a ∈ mandatoryActs := by
  simp only [arrange, List.mem_append, List.mem_eraseDups, List.mem_filter, Bool.not_eq_true', List.contains_eq_mem,
    decide_eq_false_iff_not]
  tauto

/-- No share comes twice. -/
theorem nodup_arrange (order : List FieldAct) : (arrange order).Nodup := by
  refine List.Nodup.append (nodup_eraseDups order) (List.Nodup.filter _ (by decide)) fun a ha hmissing => ?_
  rw [List.mem_filter] at hmissing
  simp [List.mem_eraseDups.mp ha] at hmissing

/-- Shares named once each are done in the order that names them. -/
theorem arrange_of_nodup {order : List FieldAct} (h : order.Nodup) : ∃ rest, arrange order = order ++ rest :=
  ⟨_, by rw [arrange, eraseDups_of_nodup h]⟩

/-! ### What the follower publishes -/

/-- Offered entries change the journal alone. -/
theorem offer_eq (e : Entry) (s : State) : offer e s = { s with journal := (offer e s).journal } := by
  unfold offer
  split
  · rfl
  · split <;> rfl

/-- What an entry does to the journal hangs on the journal alone. -/
theorem offer_journal_congr (e : Entry) {s t : State} (h : s.journal = t.journal) :
    (offer e s).journal = (offer e t).journal := by
  unfold offer
  rw [h]
  split
  · exact h
  · split <;> rfl

/-- The entry of the follower's own that a field's record names. -/
def fieldEntry (kind : EntryKind) (regained : Bool) (v1 v2 : Int) (r : PosRecord) : Entry :=
  { kind := kind, link := none, regained := regained, frame := r.frame, field := r.field, timecode := none, scene := 0
    value1 := v1, value2 := v2 }

/-- The REFERENCE entry of a field at which stand-in begins or ends, marked regained when the reference is back (R60, R61). -/
def referenceEntries (was timer : Bool) (r : PosRecord) : List Entry :=
  if was = timer then [] else [fieldEntry .reference (decide (timer = false)) 0 0 r]

/-- The SLIP entry of a field that slips in a pass (R55). -/
def slipEntries (slip : Option Int) (tach : Int) (inPass : Bool) (r : PosRecord) : List Entry :=
  match slip with
  | none => []
  | some e => if inPass = true then [fieldEntry .slip false e tach r] else []

/-- Offers to the staging queue, one after the other. -/
def offerAll (es : List Entry) (s : State) : State := es.foldl (fun s e => offer e s) s

theorem offerAll_eq (es : List Entry) (s : State) : offerAll es s = { s with journal := (offerAll es s).journal } := by
  induction es generalizing s with
  | nil => rfl
  | cons e es ih =>
    have hoffer : offerAll (e :: es) s = offerAll es (offer e s) := rfl
    rw [hoffer, ih, offer_eq e s]

theorem offerAll_journal_congr (es : List Entry) {s t : State} (h : s.journal = t.journal) :
    (offerAll es s).journal = (offerAll es t).journal := by
  induction es generalizing s t with
  | nil => exact h
  | cons e es ih => exact ih (offer_journal_congr e h)

/-- What offers make of the journal is read off any state with the same journal. -/
theorem offerAll_from (es : List Entry) {s t : State} (h : s.journal = t.journal) :
    offerAll es s = { s with journal := (offerAll es t).journal } := by
  rw [← offerAll_journal_congr es h]
  exact offerAll_eq es s

theorem offerAll_append (es fs : List Entry) (s : State) : offerAll (es ++ fs) s = offerAll fs (offerAll es s) :=
  List.foldl_append

/-- The state with REFERENCE raised where stand-in begins or ends (R60, R61). -/
def turnReference (was timer : Bool) (s : State) : State := if was = timer then s else raise .reference s

theorem turnReference_eq (was timer : Bool) (s : State) :
    turnReference was timer s
      = { s with port := if was = timer then s.port else (raise .reference s).port } := by
  unfold turnReference
  split <;> rfl

theorem noteReference_eq (was timer : Bool) (s : State) :
    noteReference was timer s = offerAll (referenceEntries was timer s.follower.record) (turnReference was timer s) := by
  unfold noteReference referenceEntries turnReference
  by_cases h : was = timer
  · simp only [h, if_true]
    rfl
  · have hregained : was = decide (timer = false) := by cases was <;> cases timer <;> simp_all
    simp only [h, if_false, ← hregained]
    rfl

theorem offerSlip_eq (slip : Option Int) (tach : Int) (s : State) :
    offerSlip slip tach s = offerAll (slipEntries slip tach (passExists s) s.follower.record) s := by
  cases slip with
  | none => rfl
  | some e =>
    simp only [offerSlip, slipEntries]
    split <;> rfl

/-- The entries that the follower offers at a field event. -/
def publishedEntries (p : Parity) (timer : Bool) (s : State) : List Entry :=
  referenceEntries s.follower.standIn timer (makeRecord s.follower p timer)
    ++ slipEntries (follow s.follower p).slip (tachFrame s.follower) (passExists s) (makeRecord s.follower p timer)

/-- All that the follower's share of a field event changes. -/
theorem publish_eq (p : Parity) (timer : Bool) (s : State) :
    publish p timer s
      = { s with
          follower := followField s.follower p timer
          picture := { s.picture with output := Rgb.same 64 }
          port := if s.follower.standIn = timer then s.port else (raise .reference s).port
          journal := (offerAll (publishedEntries p timer s) s).journal } := by
  have hslip (es : List Entry) (t : State) (tach : Int) (slip : Option Int) :
      offerSlip slip tach (offerAll es t) = offerAll (es ++ slipEntries slip tach (passExists t) t.follower.record) t := by
    rw [offerSlip_eq, offerAll_append, offerAll_eq es t]
    rfl
  have hpublish : publish p timer s
      = offerSlip (follow s.follower p).slip (tachFrame s.follower)
          (noteReference s.follower.standIn timer (blankOutput { s with follower := followField s.follower p timer })) := rfl
  rw [hpublish, noteReference_eq, hslip, turnReference_eq]
  exact offerAll_from _ rfl

theorem slip_eq_none {f : Follower} (h : ∀ e n, f.mode ≠ .locked e n) (p : Parity) : (follow f p).slip = none := by
  cases hmode : f.mode with
  | free => rw [follow_free hmode]
  | seeking =>
    rw [follow_seeking hmode]
    split <;> rfl
  | locked e n => exact absurd hmode (h e n)

/-- A SLIP entry carries the advanced account's frame (R54, R55). -/
theorem slipEntries_locked {f : Follower} {e : Int} {n : Nat} (h : f.mode = .locked e n) (p : Parity) (tach : Int)
    (inPass : Bool) (r : PosRecord) :
    slipEntries (follow f p).slip tach inPass r
      = if (follow f p).slip.isSome = true ∧ inPass = true then [fieldEntry .slip false (nextFrame f e n) tach r] else [] := by
  by_cases hstep : InStep f p (nextFrame f e n) (nextCount f e n)
  · rw [follow_locked_inStep h hstep]
    rfl
  · rw [follow_locked_slip h hstep]
    simp only [slipEntries, Option.isSome_some, true_and]

/-- Settles O32: the shares are those of `arrange`, and the follower's own change is the one of `publish_eq`. -/
theorem fieldCommandRunsEveryShare : Obligations.FieldCommandRunsEveryShare := by
  unfold Obligations.FieldCommandRunsEveryShare
  refine ⟨fun s c p timer order hc => ?_, fun s => rfl, fun s order => ⟨fun hin => ?_, fun hout => ?_⟩, fun s p timer => ?_⟩
  · exact ⟨arrange order, exec_fieldCommand hc, nodup_arrange order, fun a => mem_arrange, arrange_of_nodup⟩
  · exact congrArg _ (if_pos hin)
  · exact congrArg _ (if_neg (by simp [hout]))
  · intro f tach t entry turned reference account slips offered
    have ht : t = _ := publish_eq p timer s
    have hjournal : t.journal
        = offered (reference ++ slipEntries (follow f p).slip tach (passExists s) (makeRecord f p timer)) := by
      simp only [reference, entry, ht]
      rfl
    refine ⟨by rw [ht], by rw [ht]; rfl, fun h => ?_, fun h => ?_, fun h => ?_, fun e n h => ?_⟩
    · rw [ht]
      exact if_neg h
    · rw [ht]
      exact if_pos (not_not.mp h)
    · rw [hjournal, slip_eq_none h]
      exact congrArg offered (List.append_nil _)
    · have hslips : slipEntries (follow f p).slip tach (passExists s) (makeRecord f p timer) = slips e n := by
        rw [slipEntries_locked h]
        simp only [slips, entry, ht]
        exact if_congr (and_congr_right fun _ => passExists_iff s) rfl rfl
      rw [hjournal, hslips]

end Sys2Proof.Machine
end

section
/-!
PROOF. PassAbort: UNLOCKED, SLIP and a missed roll index abort a pass, and the held links close or are released (R164, R166).
-/
namespace Sys2Proof.Machine

/-! ### What an abort leaves of the pass -/

theorem eachLink_pass (x : LinkSet) {f : Link → State → State} (h : ∀ l t, (f l t).pass = t.pass) (s : State) :
    (eachLink x f s).pass = s.pass := by
  unfold eachLink
  generalize membersOf x = ls
  induction ls generalizing s with
  | nil => rfl
  | cons l ls ih => exact (ih _).trans (h l s)

theorem eachLink_of_fixed (x : LinkSet) {f : Link → State → State} {s : State} (h : ∀ l, f l s = s) :
    eachLink x f s = s := by
  unfold eachLink
  generalize membersOf x = ls
  induction ls with
  | nil => rfl
  | cons l ls ih => rw [List.foldl_cons, h l, ih]

theorem ite_pass {p : Prop} [Decidable p] {s t u : State} (ht : t.pass = s.pass) (hu : u.pass = s.pass) :
    (if p then t else u).pass = s.pass := by
  split <;> assumption

theorem releaseRequest_pass (l : Link) (s : State) : (releaseRequest l s).pass = s.pass :=
  ite_pass (ite_pass rfl rfl) rfl

theorem closeRequest_pass (l : Link) (s : State) : (closeRequest l s).pass = s.pass :=
  ite_pass (ite_pass rfl rfl) rfl

theorem closeEdit_pass (p : Pass) (x : Int) (l : Link) (s : State) : (closeEdit p x l s).pass = s.pass :=
  ite_pass ((offer_pass ..).trans (closeRequest_pass ..)) (closeRequest_pass ..)

theorem lateFault_pass (before : State) (l : Link) (s : State) : (lateFault before l s).pass = s.pass :=
  ite_pass (offer_pass ..) rfl

theorem abortLink_pass (p : Pass) (x : Int) (l : Link) (s : State) : (abortLink p x l s).pass = s.pass :=
  (releaseRequest_pass ..).trans (closeEdit_pass ..)

/-- The record of an aborted pass (R164). -/
def abortedPass (cause : AbortCause) (p : Pass) : Pass := { p with state := .closing, recording := noLinks, cause := some cause }

/-- The last field index that an abort works with (R161). -/
def abortIndex (p : Pass) : Int := p.lastIndex.getD p.inIndex

theorem abortPassNow_eq {cause : AbortCause} {p : Pass} {s : State} (hpass : s.pass = some p) (hopen : p.state ≠ .closing) :
    abortPassNow cause s
      = eachLink (heldLinks s) (lateFault s)
          (eachLink (heldLinks s) (abortLink p (abortIndex p)) { s with pass := some (abortedPass cause p) }) := by
  simp only [abortPassNow, hpass, if_neg hopen, changePass, Option.map_some]
  rfl

theorem abortPassNow_pass {cause : AbortCause} {p : Pass} {s : State} (hpass : s.pass = some p) (hopen : p.state ≠ .closing) :
    (abortPassNow cause s).pass = some (abortedPass cause p) := by
  rw [abortPassNow_eq hpass hopen, eachLink_pass _ (lateFault_pass s), eachLink_pass _ (abortLink_pass p _)]

/-- A pass that is closing takes no member loss (R162). -/
theorem tellLosses_closing {before after : State} {p : Pass} (hpass : after.pass = some p) (hclosing : p.state = .closing) :
    tellLosses before after = after := by
  have hloss (l : Link) : memberLoss l after = after := by
    simp [memberLoss, hpass, hclosing, PassState.recordsOrNears]
  unfold tellLosses
  generalize Link.all = ls
  induction ls with
  | nil => rfl
  | cons l ls ih => rw [List.foldl_cons, hloss, ite_self, ih]

/-! ### What calls for an abort at a field -/

/-- The last field index after a field of some mode (R149). -/
def notedIndex (m : FieldMode) (last : Option Int) : Option Int :=
  match m with
  | .locked _ x => some x
  | .free => last
  | .seeking => last

theorem noteIndex_eq (m : FieldMode) (p : Pass) : noteIndex m p = { p with lastIndex := notedIndex m p.lastIndex } := by
  cases m <;> rfl

/-- The record `r` aborts a pass `p` that is not closing, with the cause (R55, R60, R156, R164). -/
abbrev AbortCalled (r : PosRecord) (p : Pass) (cause : AbortCause) : Prop :=
  (r.unlocked = true ∧ cause = .referenceLost) ∨ (r.unlocked = false ∧ r.slip = true ∧ cause = .slip)
    ∨ (r.unlocked = false ∧ r.slip = false ∧ p.state = .waiting ∧ cause = .lateRoll
        ∧ ∃ n y, r.mode = .locked n y ∧ p.rollIndex < y)

theorem passStep_called {s : State} {p : Pass} {cause : AbortCause} (hopen : p.state ≠ .closing)
    (hcalled : AbortCalled s.follower.record p cause) :
    passStep p s = abortPassNow cause { s with pass := some (noteIndex s.follower.record.mode p) } := by
  have hstate : (noteIndex s.follower.record.mode p).state = p.state := by rw [noteIndex_eq]
  have hroll : (noteIndex s.follower.record.mode p).rollIndex = p.rollIndex := by rw [noteIndex_eq]
  unfold passStep
  obtain ⟨hunlocked, rfl⟩ | ⟨hunlocked, hslip, rfl⟩ | ⟨hunlocked, hslip, hwait, rfl, n, y, hmode, hlate⟩ := hcalled
  · simp [hstate, hopen, hunlocked]
  · simp [hstate, hopen, hunlocked, hslip]
  · simp only [hunlocked, hslip, Bool.and_false, Bool.false_eq_true, if_false]
    rw [passByState, hstate, hwait]
    simp only [atIndex, hmode, waitPass]
    rw [if_neg (by rw [← hmode, hroll]; omega), if_pos (by rw [← hmode, hroll]; exact hlate)]

/-- An abort at a field, whatever the send queues hold. -/
theorem passField_called {s : State} {p : Pass} {cause : AbortCause} (hrun : s.port.running = true) (hpass : s.pass = some p)
    (hopen : p.state ≠ .closing) (hcalled : AbortCalled s.follower.record p cause) :
    passField s = abortPassNow cause { s with pass := some (noteIndex s.follower.record.mode p) } := by
  have hopen' : (noteIndex s.follower.record.mode p).state ≠ .closing := by rwa [noteIndex_eq]
  simp only [passField, hrun, if_true, hpass, passStep_called hopen hcalled]
  exact tellLosses_closing (abortPassNow_pass rfl hopen') rfl

/-! ### What an abort does to a link whose send queue has room (R166) -/

/-- A held link's record after an abort: it closes if it runs, and is released if it is cueing or armed. -/
def abortedRec (field : BitVec 32) (k : LinkRec) : LinkRec :=
  if k.state = .recording ∨ k.state = .rolling then
    { k with
      queue := k.queue ++ [.out], state := .closing, lockedMark := false, timer := some ⟨.close, field, k.closeLimit⟩ }
  else if k.state = .cueing ∨ k.state = .armed then
    { k with queue := k.queue ++ [.standby], state := .idle, timer := none, lockedMark := false }
  else k

theorem abortedRec_fault (field : BitVec 32) (k : LinkRec) : (abortedRec field k).state = .fault ↔ k.state = .fault := by
  unfold abortedRec
  split
  · rename_i h
    rcases h with h | h <;> simp [h]
  · split
    · rename_i h
      rcases h with h | h <;> simp [h]
    · rfl

/-- The EDIT_OUT entry of a link that records (R161). -/
def abortEdits (p : Pass) (x : Int) (l : Link) (s : State) : List Entry :=
  if (linkOf l s).state = .recording then [editOutEntry p l x s] else []

@[simp] theorem linkOf_offerAll (l : Link) (es : List Entry) (s : State) : linkOf l (offerAll es s) = linkOf l s := by
  rw [offerAll_eq]
  rfl

theorem setLinkRec_offerAll (l : Link) (r : LinkRec) (es : List Entry) (s : State) :
    setLinkRec l r (offerAll es s) = offerAll es (setLinkRec l r s) := by
  rw [offerAll_eq es s]
  exact (offerAll_from es (s := setLinkRec l r s) (t := s) rfl).symm

theorem setLinkRec_self (l : Link) (s : State) : setLinkRec l (linkOf l s) s = s := by cases l <;> rfl

theorem issueEarly_room {l : Link} {s : State} (h : Room (linkOf l s)) (d : Directive) (f : LinkRec → LinkRec) :
    issueEarly l d f s = setLinkRec l (f { linkOf l s with queue := (linkOf l s).queue ++ [d] }) s :=
  issueOr_room _ l d f s h

theorem releaseRequest_other {l : Link} {s : State} (h : ¬ ((linkOf l s).state = .cueing ∨ (linkOf l s).state = .armed)) :
    releaseRequest l s = s := if_neg h

theorem closeRequest_other {l : Link} {s : State} (h : ¬ ((linkOf l s).state = .recording ∨ (linkOf l s).state = .rolling)) :
    closeRequest l s = s := by
  rw [or_comm] at h
  exact if_neg (by simpa [rollsOrRecords] using h)

theorem closeRequest_room {l : Link} {s : State} (h : (linkOf l s).state = .recording ∨ (linkOf l s).state = .rolling)
    (hroom : Room (linkOf l s)) : closeRequest l s = setLinkRec l (abortedRec (now s) (linkOf l s)) s := by
  have hrolls : rollsOrRecords (linkOf l s).state = true := by
    rcases h with h | h <;> rw [h] <;> rfl
  rw [closeRequest, if_pos hrolls, issueEarly_room hroom, abortedRec, if_pos h]

theorem closeEdit_room {p : Pass} {x : Int} {l : Link} {s : State}
    (h : (linkOf l s).state = .recording ∨ (linkOf l s).state = .rolling) (hroom : Room (linkOf l s)) :
    closeEdit p x l s = offerAll (abortEdits p x l s) (setLinkRec l (abortedRec (now s) (linkOf l s)) s) := by
  have hclosing : (abortedRec (now s) (linkOf l s)).state = .closing := by rw [abortedRec, if_pos h]
  simp only [closeEdit, closeRequest_room h hroom, linkOf_setLinkRec_same, hclosing, and_true, abortEdits]
  split <;> rfl

theorem closeEdit_other {p : Pass} {x : Int} {l : Link} {s : State}
    (h : ¬ ((linkOf l s).state = .recording ∨ (linkOf l s).state = .rolling)) : closeEdit p x l s = s := by
  rw [not_or] at h
  simp [closeEdit, closeRequest_other (not_or.mpr h), h.1]

/-- A held link at an abort (R166). -/
theorem abortLink_room {p : Pass} {x : Int} {l : Link} {s : State} (hroom : Room (linkOf l s)) :
    abortLink p x l s = offerAll (abortEdits p x l s) (setLinkRec l (abortedRec (now s) (linkOf l s)) s) := by
  unfold abortLink
  by_cases hruns : (linkOf l s).state = .recording ∨ (linkOf l s).state = .rolling
  · rw [closeEdit_room hruns hroom, releaseRequest_other]
    simp [abortedRec, hruns]
  · have hedits : abortEdits p x l s = [] := if_neg fun h => hruns (.inl h)
    rw [closeEdit_other hruns, hedits]
    by_cases hwaits : (linkOf l s).state = .cueing ∨ (linkOf l s).state = .armed
    · rw [releaseRequest, if_pos hwaits, issueEarly_room hroom, abortedRec, if_neg hruns, if_pos hwaits]
      rfl
    · rw [releaseRequest_other hwaits, abortedRec, if_neg hruns, if_neg hwaits]
      exact (setLinkRec_self l s).symm

/-! ### The three links in their order -/

theorem eachLink_eq (x : LinkSet) (f : Link → State → State) (s : State) :
    eachLink x f s
      = (if x.c = true then f .c else id) ((if x.b = true then f .b else id) ((if x.a = true then f .a else id) s)) := by
  obtain ⟨a, b, c⟩ := x
  cases a <;> cases b <;> cases c <;> rfl

/-- A link's record after an abort. -/
def abortedLink (s : State) (l : Link) : LinkRec :=
  if (linkOf l s).held = true then abortedRec (now s) (linkOf l s) else linkOf l s

/-- An abort's EDIT_OUT entry for a link, if it is held and records. -/
def heldEdits (p : Pass) (x : Int) (s : State) (l : Link) : List Entry :=
  if (linkOf l s).held = true then abortEdits p x l s else []

theorem abortLink_held {p : Pass} {x : Int} {l : Link} {s : State} (hroom : (linkOf l s).held = true → Room (linkOf l s)) :
    (if (linkOf l s).held = true then abortLink p x l else id) s
      = offerAll (heldEdits p x s l) (setLinkRec l (abortedLink s l) s) := by
  unfold heldEdits abortedLink
  by_cases hheld : (linkOf l s).held = true
  · simp only [if_pos hheld, abortLink_room (hroom hheld)]
  · simp only [if_neg hheld]
    exact (setLinkRec_self l s).symm

/-- An abort finds link `m` in `t` as it stands in `s`. -/
abbrev AbortSees (p : Pass) (x : Int) (m : Link) (s t : State) : Prop :=
  linkOf m t = linkOf m s ∧ heldEdits p x t m = heldEdits p x s m ∧ abortedLink t m = abortedLink s m

/-- What an abort does to one link does not show in what it does to another. -/
theorem abortSees_other {l m : Link} (h : m ≠ l) (p : Pass) (x : Int) (es : List Entry) (r : LinkRec) (s : State) :
    AbortSees p x m s (offerAll es (setLinkRec l r s)) := by
  have hlink : linkOf m (offerAll es (setLinkRec l r s)) = linkOf m s := by
    rw [linkOf_offerAll, linkOf_setLinkRec_other l m r s h]
  have hfollower : (offerAll es (setLinkRec l r s)).follower = s.follower := by rw [offerAll_eq]; rfl
  refine ⟨hlink, ?_, ?_⟩
  · rw [heldEdits, heldEdits, abortEdits, abortEdits, hlink, editOutEntry, editOutEntry, entryNow, entryNow, editTc, editTc,
      hfollower]
  · rw [abortedLink, abortedLink, now, now, hlink, hfollower]

/-- An abort of held links whose send queues have room (R166): their records, and the EDIT_OUT entries in the order A, B, C. -/
theorem abortLinks_room (p : Pass) (x : Int) {s : State} (hroom : ∀ l, (linkOf l s).held = true → Room (linkOf l s)) :
    eachLink (heldLinks s) (abortLink p x) s
      = offerAll (heldEdits p x s .a ++ heldEdits p x s .b ++ heldEdits p x s .c)
          { s with links := ⟨abortedLink s .a, abortedLink s .b, abortedLink s .c⟩ } := by
  have step (m : Link) (t : State) (h : AbortSees p x m s t) :
      (if (linkOf m s).held = true then abortLink p x m else id) t
        = offerAll (heldEdits p x s m) (setLinkRec m (abortedLink s m) t) := by
    obtain ⟨hlink, hedits, habort⟩ := h
    rw [← hlink, abortLink_held (by rw [hlink]; exact hroom m), hedits, habort]
  have other {l m : Link} (hm : m ≠ l) (t : State) := abortSees_other hm p x (heldEdits p x s l) (abortedLink s l) t
  have ha := step .a s ⟨rfl, rfl, rfl⟩
  have hb := step .b _ (other (l := .a) (by decide) s)
  have hc : AbortSees p x .c s _ := other (l := .a) (by decide) s
  obtain ⟨hlink, hedits, habort⟩ := hc
  obtain ⟨hlink', hedits', habort'⟩ := other (l := .b) (m := .c) (by decide) _
  have hc := step .c _ ⟨hlink'.trans hlink, hedits'.trans hedits, habort'.trans habort⟩
  calc eachLink (heldLinks s) (abortLink p x) s
      = (if (linkOf .c s).held = true then abortLink p x .c else id)
          ((if (linkOf .b s).held = true then abortLink p x .b else id)
            ((if (linkOf .a s).held = true then abortLink p x .a else id) s)) := eachLink_eq ..
    _ = _ := by
      rw [ha, hb, hc]
      simp only [setLinkRec_offerAll, ← offerAll_append]
      rfl

/-- Neither a close nor a release is a fault. -/
theorem faultedIn_aborted {s t : State} {l : Link} (h : linkOf l t = abortedLink s l) : ¬ faultedIn s t l = true := by
  have hfault : (abortedLink s l).state = .fault → (linkOf l s).state = .fault := by
    unfold abortedLink
    split
    · exact (abortedRec_fault ..).mp
    · exact id
  rw [faultedIn, h, Bool.and_eq_true, bne_iff_ne, beq_iff_eq]
  exact fun ⟨hbefore, hafter⟩ => hbefore (hfault hafter)

/-- An abort while the held links' send queues have room (R164, R166). -/
theorem abortPassNow_room {cause : AbortCause} {p : Pass} {s : State} (hpass : s.pass = some p) (hopen : p.state ≠ .closing)
    (hroom : ∀ l, (linkOf l s).held = true → Room (linkOf l s)) :
    abortPassNow cause s
      = offerAll (heldEdits p (abortIndex p) s .a ++ heldEdits p (abortIndex p) s .b ++ heldEdits p (abortIndex p) s .c)
          { s with
            pass := some (abortedPass cause p)
            links := ⟨abortedLink s .a, abortedLink s .b, abortedLink s .c⟩ } := by
  have habort := abortLinks_room p (abortIndex p) (s := { s with pass := some (abortedPass cause p) }) hroom
  rw [abortPassNow_eq hpass hopen]
  refine (congrArg _ habort).trans (eachLink_of_fixed _ fun l => if_neg (faultedIn_aborted ?_))
  rw [linkOf_offerAll]
  cases l <;> rfl

/-- The EDIT_OUT entries of an abort, link by link. -/
theorem heldEdits_all (p : Pass) (x : Int) (s : State) :
    heldEdits p x s .a ++ heldEdits p x s .b ++ heldEdits p x s .c
      = ([Link.a, .b, .c].filter fun l => (linkOf l s).held && decide ((linkOf l s).state = .recording)).map
          fun l => editOutEntry p l x s := by
  have hone (l : Link) : heldEdits p x s l
      = ([l].filter fun l => (linkOf l s).held && decide ((linkOf l s).state = .recording)).map
          fun l => editOutEntry p l x s := by
    unfold heldEdits abortEdits
    by_cases hheld : (linkOf l s).held = true <;> by_cases hrec : (linkOf l s).state = .recording <;> simp [hheld, hrec]
  rw [hone, hone, hone, ← List.map_append, ← List.map_append, ← List.filter_append, ← List.filter_append]
  rfl

/-- Settles O43: the abort that the field calls for, and what it does to each held link. -/
theorem fieldAbortsThePass : Obligations.FieldAbortsThePass := by
  unfold Obligations.FieldAbortsThePass
  intro s p cause hrun hpass hopen r called index x aborted closed scene edit outs hcalled
  have hnoted : noteIndex r.mode p = { p with lastIndex := index } := noteIndex_eq ..
  have hfield : runAct .pass s = abortPassNow cause { s with pass := some { p with lastIndex := index } } := by
    rw [← hnoted]
    exact passField_called hrun hpass hopen hcalled
  refine ⟨?_, fun hroom => ?_⟩
  · rw [hfield, abortPassNow_pass (p := { p with lastIndex := index }) rfl hopen]
    rfl
  · have habort := abortPassNow_room (cause := cause) (s := { s with pass := some { p with lastIndex := index } }) rfl hopen hroom
    rw [heldEdits_all] at habort
    calc runAct .pass s
        = offerAll (outs.map edit) { s with pass := some aborted, links := ⟨closed .a, closed .b, closed .c⟩ } :=
          hfield.trans habort
      _ = _ := by
        refine (offerAll_from _ (t := s) ?_).trans ?_
        · rfl
        · rw [offerAll, List.foldl_map]

end Sys2Proof.Machine
end

section
/-!
PROOF. FollowerAndOutput: the follower and the output stay in range at every step (R42, R44, R46, R51, R53, R98).
-/
namespace Sys2Proof.Machine

/-! ### What a command shows -/

/-- What the follower's and the output's laws are read off: the follower, the picture path and the field grade. -/
def shown (s : State) : Follower × Picture × FieldGrade := (s.follower, s.picture, s.grade)

/-- A step from `s` to `t` keeps the follower and the output in range. -/
structure RangesKept (s t : State) : Prop where
  follower : FollowerOk s.follower → FollowerOk t.follower
  output : OutputOk s → OutputOk t

theorem RangesKept.of_shown {s t : State} (h : shown t = shown s) : RangesKept s t := by
  obtain ⟨hfollower, hpicture, hgrade⟩ : t.follower = s.follower ∧ t.picture = s.picture ∧ t.grade = s.grade := by
    simpa [shown] using h
  constructor
  · rw [hfollower]
    exact id
  · rw [OutputOk, OutputOk, hpicture, hgrade]
    exact id

/-- An order that is refused. -/
theorem RangesKept.of_finish {s t : State} {b : OrderBlock} {o : OutcomeCode} {d : Nat} (h : t = finish b o d s) :
    RangesKept s t := by
  subst h
  exact .of_shown rfl

theorem RangesKept.trans {s t u : State} (h : RangesKept s t) (k : RangesKept t u) : RangesKept s u :=
  ⟨fun hs => k.follower (h.follower hs), fun hs => k.output (h.output hs)⟩

theorem SideFrame.shown_eq {s t : State} (h : SideFrame s t) : shown t = shown s := by
  rw [shown, h.follower, h.picture, h.grade]
  rfl

theorem ite_shown {p : Prop} [Decidable p] {s t u : State} (ht : shown t = shown s) (hu : shown u = shown s) :
    shown (if p then t else u) = shown s := by
  split <;> assumption

/-! ### The orders -/

theorem withOrder_ranges {code : BitVec 8} {s : State} {take : OrderBlock → State} (h : ∀ b, RangesKept s (take b)) :
    RangesKept s (withOrder code s take) := by
  obtain he | ⟨b, -, he⟩ := withOrder_cases code s take <;> rw [he]
  · exact .of_shown rfl
  · exact h b

theorem withOrder_shown {code : BitVec 8} {s : State} {take : OrderBlock → State} (h : ∀ b, shown (take b) = shown s) :
    RangesKept s (withOrder code s take) := withOrder_ranges fun b => .of_shown (h b)

theorem takePutScene_shown (b : OrderBlock) (s : State) : shown (takePutScene b s) = shown s :=
  ite_shown rfl (ite_shown rfl rfl)

theorem takeRemoveScene_shown (b : OrderBlock) (s : State) : shown (takeRemoveScene b s) = shown s :=
  ite_shown rfl (ite_shown rfl (ite_shown rfl rfl))

theorem takeClearScenes_shown (b : OrderBlock) (s : State) : shown (takeClearScenes b s) = shown s := ite_shown rfl rfl

theorem lockRange_shown (flag : Bool) (change : Nat → Nat) (b : OrderBlock) (s : State) :
    shown (lockRange flag change b s) = shown s := ite_shown rfl rfl

theorem takeLoadScenes_shown (b : OrderBlock) (s : State) : shown (takeLoadScenes b s) = shown s := by
  refine ite_shown rfl (ite_shown rfl ?_)
  cases flagCode (param b 18 1) <;> rfl

theorem nextRead_shown (b : OrderBlock) (run : SceneRead) (s : State) : shown (nextRead b run s) = shown s :=
  ite_shown rfl rfl

theorem takeReadScenes_shown (b : OrderBlock) (s : State) : shown (takeReadScenes b s) = shown s :=
  ite_shown rfl (nextRead_shown ..)

theorem takePutLook_shown (b : OrderBlock) (s : State) : shown (takePutLook b s) = shown s :=
  ite_shown rfl (ite_shown rfl (ite_shown rfl (ite_shown rfl (ite_shown rfl rfl))))

theorem takeReadLooks_shown (b : OrderBlock) (s : State) : shown (takeReadLooks b s) = shown s := ite_shown rfl rfl

theorem takeSetHouseArea_shown (b : OrderBlock) (s : State) : shown (takeSetHouseArea b s) = shown s :=
  ite_shown rfl (ite_shown rfl (ite_shown rfl rfl))

theorem takeClearHouseLooks_shown (b : OrderBlock) (s : State) : shown (takeClearHouseLooks b s) = shown s :=
  ite_shown rfl (ite_shown rfl rfl)

theorem takeSetLight_shown (b : OrderBlock) (s : State) : shown (takeSetLight b s) = shown s := by
  have hdecide : shown (decideRest s) = shown s := ite_shown rfl rfl
  exact ite_shown hdecide rfl

theorem takeSetMonitor_shown (b : OrderBlock) (s : State) : shown (takeSetMonitor b s) = shown s := by
  unfold takeSetMonitor
  cases monitorArgs b with
  | none => rfl
  | some a => exact ite_shown rfl rfl

theorem takeAckMonitor_shown (b : OrderBlock) (s : State) : shown (takeAckMonitor b s) = shown s := ite_shown rfl rfl

theorem takeSetRoute_shown (b : OrderBlock) (s : State) : shown (takeSetRoute b s) = shown s := by
  refine ite_shown rfl ?_
  split
  · rfl
  · cases (routeArgs b).mode with
    | none => rfl
    | some mode => exact ite_shown rfl (ite_shown rfl rfl)

theorem takeSetLink_shown (b : OrderBlock) (s : State) : shown (takeSetLink b s) = shown s := by
  unfold takeSetLink
  simp only
  cases (linkArgs b).link with
  | none => rfl
  | some l =>
    cases (linkArgs b).autoWake with
    | none => rfl
    | some w => exact ite_shown (changeLink_frame (linkArgs b) w l s).shown_eq rfl

theorem takeWakeLink_shown (b : OrderBlock) (s : State) : shown (takeWakeLink b s) = shown s := by
  unfold takeWakeLink
  cases linkOfCode (param b 12 1) with
  | none => rfl
  | some l => exact ite_shown rfl (wakeByOrder_frame l s).shown_eq

theorem takeResetLink_shown (b : OrderBlock) (s : State) : shown (takeResetLink b s) = shown s := by
  unfold takeResetLink
  cases linkOfCode (param b 12 1) with
  | none => rfl
  | some l => exact ite_shown rfl rfl

theorem takeStartPass_shown (b : OrderBlock) (s : State) : shown (takeStartPass b s) = shown s := by
  unfold takeStartPass
  simp only
  cases startRefused (passArgs b) s with
  | none => exact (acceptPass_frame (passArgs b) s).shown_eq
  | some r => rfl

theorem takeAbortPass_shown (b : OrderBlock) (s : State) : shown (takeAbortPass b s) = shown s :=
  ite_shown (abortPassNow_frame .order s).shown_eq rfl

theorem takeSetJournal_shown (b : OrderBlock) (s : State) : shown (takeSetJournal b s) = shown s :=
  ite_shown rfl (ite_shown rfl rfl)

theorem takeSetReports_shown (b : OrderBlock) (s : State) : shown (takeSetReports b s) = shown s := by
  unfold takeSetReports
  cases flagCode (param b 17 1) with
  | none => rfl
  | some on =>
    cases on with
    | false => rfl
    | true => exact ite_shown rfl rfl

/-! ### Accesses -/

theorem complete_ranges {isKind : AccessKind → Bool} {s : State} {live stale : Access → State → State}
    (hlive : ∀ a t, shown (live a t) = shown t) (hstale : ∀ a t, shown (stale a t) = shown t) :
    RangesKept s (complete isKind s live stale) := by
  obtain he | ⟨a, -, -, ⟨-, he⟩ | ⟨-, he⟩ | ⟨-, he⟩⟩ := complete_cases isKind s live stale <;> rw [he]
  · exact .of_shown rfl
  · exact .of_shown (hlive a _)
  · exact .of_shown (hstale a _)
  · exact .of_shown rfl

theorem withProgress_shown {s : State} {take : OrderBlock → Progress → State} (h : ∀ b p, shown (take b p) = shown s) :
    shown (withProgress s take) = shown s := by
  obtain he | ⟨b, p, -, he⟩ := withProgress_cases s take <;> rw [he]
  exact h b p

theorem afterSceneFetch_shown (record : BitVec 512) (s : State) : shown (afterSceneFetch record s) = shown s := by
  refine withProgress_shown fun b p => ?_
  cases p with
  | fetchScene o =>
    simp only [putFetched]
    split <;> rfl
  | _ => rfl

theorem afterLoadFetch_shown (record : BitVec 512) (s : State) : shown (afterLoadFetch record s) = shown s := by
  refine withProgress_shown fun b p => ?_
  cases p with
  | fetchLoad run => exact ite_shown rfl rfl
  | _ => rfl

theorem afterLookFetch_shown (record : BitVec 256) (s : State) : shown (afterLookFetch record s) = shown s := by
  refine withProgress_shown fun b p => ?_
  cases p with
  | fetchLook i o =>
    simp only [putLook]
    split <;> rfl
  | _ => rfl

theorem afterSceneSlot_shown (s : State) : shown (afterSceneSlot s) = shown s := by
  refine withProgress_shown fun b p => ?_
  cases p with
  | slotScene run => exact nextRead_shown ..
  | _ => rfl

theorem afterLookSlot_shown (s : State) : shown (afterLookSlot s) = shown s := by
  refine withProgress_shown fun b p => ?_
  cases p with
  | slotLook run => exact ite_shown rfl rfl
  | _ => rfl

theorem judgeLink_shown (v : BitVec 32) (n : Nat) (s : State) : shown (judgeLink v n s) = shown s := by
  rw [judgeLink_port]
  rfl

theorem closeBlock_shown (b : OrderBlock) (s : State) : shown (closeBlock b s) = shown s := by
  rw [closeBlock_port]
  rfl

theorem afterHeader_shown (s : State) : shown (afterHeader s) = shown s := by
  unfold afterHeader
  cases s.port.walker with
  | idle => exact ite_shown (judgeLink_shown ..) rfl
  | _ => rfl

theorem afterBlock_shown (block : BitVec 256) (s : State) : shown (afterBlock block s) = shown s := by
  unfold afterBlock
  cases s.port.walker with
  | reading o n => exact ite_shown rfl (ite_shown rfl (ite_shown (judgeLink_shown ..) rfl))
  | _ => rfl

theorem afterTaken_shown (s : State) : shown (afterTaken s) = shown s := by
  unfold afterTaken
  cases s.port.walker with
  | taking b halted =>
    cases halted with
    | false => exact ite_shown rfl rfl
    | true => rfl
  | _ => rfl

theorem afterAborted_shown (s : State) : shown (afterAborted s) = shown s := by
  unfold afterAborted
  cases s.port.walker with
  | closing b n halted => exact ite_shown (closeBlock_shown ..) ((judgeLink_shown ..).trans (closeBlock_shown ..))
  | aborting b => exact closeBlock_shown ..
  | _ => rfl

theorem afterResultIndex_shown (s : State) : shown (afterResultIndex s) = shown s :=
  withProgress_shown fun _ p => by cases p <;> rfl

theorem afterFinal_shown (s : State) : shown (afterFinal s) = shown s := by
  refine withProgress_shown fun b p => ?_
  cases p with
  | finishing r => exact closeBlock_shown ..
  | _ => rfl

theorem afterJournal_shown (a : Access) (s : State) : shown (afterJournal a s) = shown s := by
  unfold afterJournal
  cases a.kind with
  | journal pops advances =>
    have hadvance (t : State) : shown (advanceFill t) = shown t := ite_shown rfl rfl
    have hpop : shown (if pops then { s with journal := { s.journal with queue := s.journal.queue.tail } } else s) = shown s :=
      ite_shown rfl rfl
    exact ite_shown ((hadvance _).trans hpop) hpop
  | _ => rfl

theorem afterReport_shown (a : Access) (s : State) : shown (afterReport a s) = shown s := by
  unfold afterReport
  cases a.kind <;> rfl

theorem grantAccess_shown (s : State) : shown (grantAccess s) = shown s := by
  obtain he | ⟨r, -, -, he⟩ := grantAccess_cases s <;> rw [he]
  cases r <;> rfl

theorem busErrorNow_shown (s : State) : shown (busErrorNow s) = shown s := by
  have hlet (a : Access) (t : State) : shown (letBlockBe a t) = shown t := ite_shown rfl rfl
  have hdata (t : State) : shown (dataFault t) = shown t := withProgress_shown fun _ p => by cases p <;> rfl
  unfold busErrorNow
  cases s.port.access with
  | none => rfl
  | some a =>
    refine ite_shown rfl (ite_shown ?_ ?_)
    · unfold errorRunning
      cases errorClass a.kind with
      | data => exact ite_shown (hdata _) rfl
      | port => exact hlet a (dropAccess s)
      | journal | report => rfl
    · unfold errorHalted
      cases errorClass a.kind with
      | port => exact hlet a (dropAccess s)
      | data | journal | report => rfl

theorem takeReading_shown (reading : Nat) (s : State) : shown (takeReading reading s) = shown s := by
  have hservice (t : State) : shown (serviceCheck t) = shown t := ite_shown (offer_frame ..).shown_eq rfl
  have hlow : shown (lowReading reading s) = shown s := ite_shown (offer_frame ..).shown_eq rfl
  exact ite_shown rfl (ite_shown rfl (ite_shown hlow (hservice _)))

/-! ### The follower's ranges (R42 to R54) -/

/-- The counter's limits make the tach frame a frame (R42, R43). -/
theorem FollowerOk.tachFrame {f : Follower} (h : FollowerOk f) : FrameOk (f.perf / f.ppf) := by
  obtain ⟨hppf, -, hlow, hhigh, -⟩ := h
  have hpos : (0 : Int) < f.ppf := by omega
  have hbelow : f.perf / f.ppf < 1000000 := Int.ediv_lt_of_lt_mul hpos (by omega)
  exact ⟨Int.le_ediv_of_mul_le hpos hlow, by omega⟩

/-- Following shows a frame and leaves an account within its frame's fields (R50 to R54). -/
theorem FollowerOk.follow {f : Follower} (h : FollowerOk f) (p : Parity) :
    AccountOk f (follow f p).mode ∧ FrameOk (follow f p).frame := by
  have htach := h.tachFrame
  obtain ⟨-, -, -, -, -, hdiv, -, -, haccount, -⟩ := h
  cases hmode : f.mode with
  | free =>
    rw [follow_free hmode]
    exact ⟨trivial, htach⟩
  | seeking =>
    rw [follow_seeking hmode]
    split
    · exact ⟨⟨htach, fieldCount_pos hdiv _⟩, htach⟩
    · exact ⟨trivial, htach⟩
  | locked e n =>
    rw [hmode] at haccount
    obtain ⟨⟨hfirst, hlast⟩, -⟩ := haccount
    have hframe : FrameOk (nextFrame f e n) := by
      unfold nextFrame
      split
      · exact ⟨hfirst, hlast⟩
      · split <;> constructor <;> omega
    have hcount : nextCount f e n < fieldCount f (nextFrame f e n) := by
      by_cases hn : n + 1 < fieldCount f e
      · rw [nextCount, nextFrame, if_pos hn, if_pos hn]
        exact hn
      · rw [nextCount, if_neg hn]
        exact fieldCount_pos hdiv _
    by_cases hstep : InStep f p (nextFrame f e n) (nextCount f e n)
    · rw [follow_locked_inStep hmode hstep]
      exact ⟨⟨hframe, hcount⟩, hframe⟩
    · rw [follow_locked_slip hmode hstep]
      exact ⟨trivial, htach⟩

theorem FollowerOk.followField {f : Follower} (h : FollowerOk f) (p : Parity) (timer : Bool) :
    FollowerOk (followField f p timer) := by
  obtain ⟨hmode, hframe⟩ := h.follow p
  obtain ⟨hppf, hppf', hlow, hhigh, horigin, hdiv, hdiv', hodd, -, -⟩ := h
  exact ⟨hppf, hppf', hlow, hhigh, horigin, hdiv, hdiv', hodd, hmode, hframe⟩

theorem FollowerOk.setPerf {f : Follower} (h : FollowerOk f) {perf : Int} (hlow : -10000 * (f.ppf : Int) ≤ perf)
    (hhigh : perf ≤ 1000000 * (f.ppf : Int) - 1) : FollowerOk { f with perf := perf } := by
  obtain ⟨hppf, hppf', -, -, hrest⟩ := h
  exact ⟨hppf, hppf', hlow, hhigh, hrest⟩

/-- The counter is held at its limits (R42). -/
theorem FollowerOk.countPerf {f : Follower} (h : FollowerOk f) (d : Direction) : FollowerOk (countPerf d f) := by
  have hmax : perfMax f = 1000000 * f.ppf - 1 := rfl
  have hmin : perfMin f = -10000 * f.ppf := rfl
  have hheld : FollowerOk { f with heldNote := true } := h
  obtain ⟨-, -, hlow, hhigh, -⟩ := id h
  cases d with
  | forward =>
    exact iteInduction (motive := FollowerOk) (fun _ => hheld) fun hlimit => h.setPerf (by omega) (by omega)
  | reverse =>
    exact iteInduction (motive := FollowerOk) (fun _ => hheld) fun hlimit => h.setPerf (by omega) (by omega)

/-- A frame's first perforation lies within the counter's limits (R44, R45). -/
theorem perf_of_frame {frame : Int} (h : FrameOk frame) {ppf : Nat} (hppf : 1 ≤ ppf) :
    -10000 * (ppf : Int) ≤ frame * ppf ∧ frame * ppf ≤ 1000000 * (ppf : Int) - 1 := by
  have hlow : -10000 * (ppf : Int) ≤ frame * ppf := Int.mul_le_mul_of_nonneg_right h.1 (by omega)
  have hhigh : frame * ppf ≤ 999999 * (ppf : Int) := Int.mul_le_mul_of_nonneg_right h.2 (by omega)
  omega

theorem FollowerOk.setStandard {f : Follower} (h : FollowerOk f) (hmode : f.mode = .free) (std : Standard) {ppf : Nat}
    (hlow : 1 ≤ ppf) (hhigh : ppf ≤ 4) : FollowerOk (setStandard std ppf f) := by
  have hkept := perf_of_frame h.tachFrame hlow
  obtain ⟨-, -, hmin, hmax, horigin, hdiv, hdiv', hodd, -, hrecord⟩ := h
  have hperf : -10000 * (ppf : Int) ≤ (Machine.setStandard std ppf f).perf
      ∧ (Machine.setStandard std ppf f).perf ≤ 1000000 * (ppf : Int) - 1 := by
    unfold Machine.setStandard
    simp only
    split
    · rename_i hsame
      rw [hsame]
      exact ⟨hmin, hmax⟩
    · exact hkept
  refine ⟨hlow, hhigh, hperf.1, hperf.2, horigin, hdiv, hdiv', hodd, ?_, hrecord⟩
  rw [show (Machine.setStandard std ppf f).mode = .free from hmode]
  trivial

theorem FollowerOk.setPosition {f : Follower} (h : FollowerOk f) {frame : Int} (hframe : FrameOk frame) :
    FollowerOk { f with perf := frame * f.ppf } := by
  obtain ⟨hlow, hhigh⟩ := perf_of_frame hframe h.1
  exact h.setPerf hlow hhigh

/-- A follower that is set free, or to seeking with a cadence in range, counts no account (R46). -/
theorem FollowerOk.setFree {f : Follower} (h : FollowerOk f) : FollowerOk { f with mode := .free } := by
  obtain ⟨hppf, hppf', hlow, hhigh, horigin, hdiv, hdiv', hodd, -, hrecord⟩ := h
  exact ⟨hppf, hppf', hlow, hhigh, horigin, hdiv, hdiv', hodd, trivial, hrecord⟩

theorem FollowerOk.setFollow {f : Follower} (h : FollowerOk f) {o : Int} {div odd : Nat}
    (hcadence : FrameOk o ∧ (1 ≤ div ∧ div ≤ 15) ∧ odd ≤ 1) :
    FollowerOk { f with mode := .seeking, origin := o, div := div, odd := odd } := by
  obtain ⟨hppf, hppf', hlow, hhigh, -, -, -, -, -, hrecord⟩ := h
  obtain ⟨ho, ⟨hdiv, hdiv'⟩, hodd⟩ := hcadence
  exact ⟨hppf, hppf', hlow, hhigh, ho, hdiv, hdiv', hodd, trivial, hrecord⟩

theorem FollowerOk.softFollower {f : Follower} (h : FollowerOk f) : FollowerOk (softFollower f) := h.setFree

theorem takeSetStandard_ranges (b : OrderBlock) (s : State) : RangesKept s (takeSetStandard b s) := by
  by_cases hpass : s.pass = none
  · rw [takeSetStandard_eq hpass]
    split
    · exact .of_shown rfl
    · rename_i hmode
      split
      · rename_i hok
        obtain ⟨-, hlow, hhigh⟩ := hok
        exact ⟨fun h => h.setStandard (not_not.mp hmode) _ hlow hhigh, id⟩
      · exact .of_shown rfl
  · exact .of_finish (if_pos ((passExists_iff s).mpr hpass))

theorem takeSetPosition_ranges (b : OrderBlock) (s : State) : RangesKept s (takeSetPosition b s) := by
  by_cases hpass : s.pass = none
  · rw [takeSetPosition_eq hpass]
    split
    · exact .of_shown rfl
    · split
      · rename_i hframe
        exact ⟨fun h => h.setPosition hframe, id⟩
      · exact .of_shown rfl
  · exact .of_finish (if_pos ((passExists_iff s).mpr hpass))

theorem takeSetFollow_ranges (b : OrderBlock) (s : State) : RangesKept s (takeSetFollow b s) := by
  by_cases hpass : s.pass = none
  · rw [takeSetFollow_eq hpass]
    split
    · exact .of_shown rfl
    · split
      · exact ⟨fun h => h.setFree, id⟩
      · split
        · rename_i hcadence
          exact ⟨fun h => h.setFollow hcadence, id⟩
        · exact .of_shown rfl
  · exact .of_finish (if_pos ((passExists_iff s).mpr hpass))

/-- SET PICTURE changes no flag that is in force (R84, R86). -/
theorem takeSetPicture_ranges (b : OrderBlock) (s : State) : RangesKept s (takeSetPicture b s) := by
  by_cases hpass : s.pass = none
  · rw [takeSetPicture_eq hpass]
    split
    · exact ⟨id, id⟩
    · exact .of_shown rfl
  · exact .of_finish (if_pos ((passExists_iff s).mpr hpass))

/-! ### The output's limits (R87, R98) -/

/-- Code 64 lies within every limit. -/
theorem outputOk_black {s : State} (h : s.picture.output = Rgb.same 64) : OutputOk s := by
  have hblack : SampleOk s.picture.legalInForce s.grade.rest 64 := by simp [SampleOk]
  rw [OutputOk, h]
  exact ⟨hblack, hblack, hblack⟩

theorem clamp_mem {lo hi : Int} (h : lo ≤ hi) (x : Int) : lo ≤ clamp lo hi x ∧ clamp lo hi x ≤ hi := by
  unfold clamp
  split <;> [skip; split] <;> omega

/-- The last stage brings a code value within the limits in force (R95, R96). -/
theorem sampleOk_last (legal rest : Bool) {x : Int} (h : 0 ≤ x ∧ x ≤ 1023) :
    SampleOk legal rest (if rest then 64 else if legal then clamp 64 940 x else x) := by
  have hclip := clamp_mem (lo := 64) (hi := 940) (by decide) x
  cases rest with
  | true => simp [SampleOk]
  | false =>
    cases legal with
    | true => exact ⟨by simp only [Bool.false_eq_true, if_false, if_true]; omega, fun _ => hclip, fun h => nomatch h⟩
    | false => exact ⟨h, fun h => (nomatch h), fun h => nomatch h⟩

theorem outputTriple_eq (legal rest : Bool) (z : Rgb Int) :
    outputTriple legal rest z = z.map fun x => if rest then 64 else if legal then clamp 64 940 x else x := by
  cases rest <;> cases legal <;> rfl

theorem takeTriple_eq (x : Rgb Int) (s : State) :
    takeTriple x s
      = { s with
          level := (tapTriple (gradedTriple s.grade x) s).level
          picture :=
            { s.picture with output := outputTriple s.picture.legalInForce s.grade.rest (gradedTriple s.grade x) } } := by
  unfold takeTriple tapTriple
  simp only
  split <;> rfl

/-- A triple leaves code values within the limits in force (R93 to R96, R98). -/
theorem takeTriple_ranges (x : Rgb Int) (s : State) : RangesKept s (takeTriple x s) := by
  rw [takeTriple_eq, outputTriple_eq]
  have hlast (y : Int) := sampleOk_last s.picture.legalInForce s.grade.rest (clamp_mem (lo := 0) (hi := 1023) (by decide) y)
  exact ⟨id, fun _ => ⟨hlast _, hlast _, hlast _⟩⟩

theorem fieldStep_ranges (p : Parity) (timer : Bool) (order : List FieldAct) (s : State) :
    RangesKept s (fieldStep p timer order s) :=
  ⟨fun h => by rw [fieldStep_follower]; exact h.followField p timer, fun _ => outputOk_black (fieldStep_output ..)⟩

/-- A soft reset lifts the limits of the output, which keeps its codes (R66, R86). -/
theorem softReset_ranges (s : State) : RangesKept s (softReset s) := by
  refine ⟨fun h => h.softFollower, fun h => ?_⟩
  have hlift {legal rest : Bool} {x : Int} (hx : SampleOk legal rest x) : SampleOk false false x :=
    ⟨hx.1, fun h => (nomatch h), fun h => nomatch h⟩
  obtain ⟨hr, hg, hb⟩ := h
  exact ⟨hlift hr, hlift hg, hlift hb⟩

/-! ### Every command -/

/-- Every command keeps the follower and the output in range. -/
theorem exec_ranges (c : Instr) (s : State) : ∃ t, exec c s = .next t ∧ RangesKept s t := by
  have side {t : State} (h : SideFrame s t) : RangesKept s t := .of_shown h.shown_eq
  have same {t : State} (h : shown t = shown s) : RangesKept s t := .of_shown h
  have completion {isKind : AccessKind → Bool} {live : Access → State → State} (h : ∀ a t, shown (live a t) = shown t) :
      RangesKept s (complete isKind s live unused) := complete_ranges h fun _ _ => rfl
  have message (l : Link) (bytes : List Byte) : RangesKept s (tellLosses s (takeBytes l bytes s)) :=
    side ((takeBytes_frame ..).trans (tellLosses_frame ..))
  have expiry (k : TimerKind) (l : Link) : RangesKept s (tellLosses s (expiryOf k l s)) :=
    side ((expiryOf_frame ..).trans (tellLosses_frame ..))
  cases c with
  | putScene => exact ⟨_, rfl, withOrder_shown (takePutScene_shown · s)⟩
  | removeScene => exact ⟨_, rfl, withOrder_shown (takeRemoveScene_shown · s)⟩
  | clearScenes => exact ⟨_, rfl, withOrder_shown (takeClearScenes_shown · s)⟩
  | lockScenes | unlockScenes => exact ⟨_, rfl, withOrder_shown fun b => lockRange_shown ..⟩
  | loadScenes => exact ⟨_, rfl, withOrder_shown (takeLoadScenes_shown · s)⟩
  | readScenes => exact ⟨_, rfl, withOrder_shown (takeReadScenes_shown · s)⟩
  | putLook => exact ⟨_, rfl, withOrder_shown (takePutLook_shown · s)⟩
  | readLooks => exact ⟨_, rfl, withOrder_shown (takeReadLooks_shown · s)⟩
  | setHouseArea => exact ⟨_, rfl, withOrder_shown (takeSetHouseArea_shown · s)⟩
  | clearHouseLooks => exact ⟨_, rfl, withOrder_shown (takeClearHouseLooks_shown · s)⟩
  | setStandard => exact ⟨_, rfl, withOrder_ranges (takeSetStandard_ranges · s)⟩
  | setPosition => exact ⟨_, rfl, withOrder_ranges (takeSetPosition_ranges · s)⟩
  | setFollow => exact ⟨_, rfl, withOrder_ranges (takeSetFollow_ranges · s)⟩
  | setPicture => exact ⟨_, rfl, withOrder_ranges (takeSetPicture_ranges · s)⟩
  | setLight => exact ⟨_, rfl, withOrder_shown (takeSetLight_shown · s)⟩
  | setMonitor => exact ⟨_, rfl, withOrder_shown (takeSetMonitor_shown · s)⟩
  | ackMonitor => exact ⟨_, rfl, withOrder_shown (takeAckMonitor_shown · s)⟩
  | setRoute => exact ⟨_, rfl, withOrder_shown (takeSetRoute_shown · s)⟩
  | setLink => exact ⟨_, rfl, withOrder_shown (takeSetLink_shown · s)⟩
  | wakeLink => exact ⟨_, rfl, withOrder_shown (takeWakeLink_shown · s)⟩
  | resetLink => exact ⟨_, rfl, withOrder_shown (takeResetLink_shown · s)⟩
  | startPass => exact ⟨_, rfl, withOrder_shown (takeStartPass_shown · s)⟩
  | abortPass => exact ⟨_, rfl, withOrder_shown (takeAbortPass_shown · s)⟩
  | setJournal => exact ⟨_, rfl, withOrder_shown (takeSetJournal_shown · s)⟩
  | setReports => exact ⟨_, rfl, withOrder_shown (takeSetReports_shown · s)⟩
  | mark => exact ⟨_, rfl, withOrder_shown fun b => rfl⟩
  | sceneFetchComplete record => exact ⟨_, rfl, completion fun _ => afterSceneFetch_shown record⟩
  | loadRecordFetchComplete record => exact ⟨_, rfl, completion fun _ => afterLoadFetch_shown record⟩
  | lookFetchComplete record => exact ⟨_, rfl, completion fun _ => afterLookFetch_shown record⟩
  | readScenesSlotWritten => exact ⟨_, rfl, completion fun _ => afterSceneSlot_shown⟩
  | readLooksSlotWritten => exact ⟨_, rfl, completion fun _ => afterLookSlot_shown⟩
  | headerReadComplete bytes => exact ⟨_, rfl, complete_ranges (fun _ _ => rfl) fun _ _ => rfl⟩
  | headerWriteComplete => exact ⟨_, rfl, completion fun _ => afterHeader_shown⟩
  | linkReadComplete link => exact ⟨_, rfl, completion fun _ _ => judgeLink_shown ..⟩
  | blockReadComplete block => exact ⟨_, rfl, completion fun _ => afterBlock_shown block⟩
  | takenWriteComplete => exact ⟨_, rfl, completion fun _ => afterTaken_shown⟩
  | resultIndexWriteComplete => exact ⟨_, rfl, completion fun _ => afterResultIndex_shown⟩
  | finalWriteComplete => exact ⟨_, rfl, completion fun _ => afterFinal_shown⟩
  | abortedWriteComplete => exact ⟨_, rfl, completion fun _ => afterAborted_shown⟩
  | journalWriteComplete => exact ⟨_, rfl, completion afterJournal_shown⟩
  | reportWriteComplete => exact ⟨_, rfl, completion afterReport_shown⟩
  | accessGrant => exact ⟨_, rfl, same (grantAccess_shown s)⟩
  | busError => exact ⟨_, rfl, same (busErrorNow_shown s)⟩
  | runWritten1 | runWritten0 | baseWrite | enterRest => exact ⟨_, rfl, same (ite_shown rfl rfl)⟩
  | attentionWrite | noticeMaskWrite => exact ⟨_, rfl, same rfl⟩
  | softReset => exact ⟨_, rfl, softReset_ranges s⟩
  | powerOnReset | boardReset => exact ⟨_, rfl, fun _ => followerOk_reset, fun _ => outputOk_black rfl⟩
  | perfEvent d => exact ⟨_, rfl, fun h => h.countPerf d, id⟩
  | fieldEvent p order => exact ⟨_, rfl, fieldStep_ranges p false order s⟩
  | referenceWatchExpiry order =>
    refine ⟨_, rfl, ?_⟩
    split
    · exact same rfl
    · exact fieldStep_ranges _ true order s
  | standInField order =>
    refine ⟨_, rfl, ?_⟩
    split
    · exact fieldStep_ranges _ true order s
    · exact same rfl
  | sampleTriple x => exact ⟨_, rfl, takeTriple_ranges _ s⟩
  | lightSampleEvent reading =>
    have hshown := takeReading_shown reading.toNat (blankOutput s)
    have hblank : RangesKept s (blankOutput s) := ⟨id, fun _ => outputOk_black rfl⟩
    exact ⟨_, rfl, hblank.trans (.of_shown hshown)⟩
  | awake | cued | locked | written | done | trouble | damagedFrame => exact ⟨_, rfl, message ..⟩
  | wakeTimerExpiry | cueTimerExpiry | watchdogExpiry | closeTimerExpiry => exact ⟨_, rfl, expiry ..⟩
  | startByte l => exact ⟨_, rfl, side ((takeByte_frame ..).trans (tellLosses_frame ..))⟩
  | directiveSent l => exact ⟨_, rfl, side (setLinkRec_frame ..)⟩
  | autoDown l =>
    exact ⟨_, rfl, same (ite_shown ((autoDownNow_frame l s).trans (tellLosses_frame ..)).shown_eq rfl)⟩

theorem step_ranges {s t : State} (h : step s = .next t) : RangesKept s t := by
  unfold step at h
  split at h
  · cases h
    exact ⟨id, fun _ => outputOk_black rfl⟩
  · rename_i c rest _
    obtain ⟨u, hu, hkept⟩ := exec_ranges c { s with pending := rest }
    cases hu.symm.trans h
    exact ⟨hkept.follower, hkept.output⟩

/-- Settles O54: every command keeps both laws. -/
theorem followerAndOutputStayInRange : Obligations.FollowerAndOutputStayInRange := by
  unfold Obligations.FollowerAndOutputStayInRange
  exact ⟨fun s t h hstep => (step_ranges hstep).follower h, fun s t h hstep => (step_ranges hstep).output h⟩

end Sys2Proof.Machine
end

section
/-!
PROOF. SceneOfFrame: the lookup of R3 read off the records of the store, and off the records near the frame alone.
-/
namespace Sys2Proof.Machine

/-! ### The lookup by neighbours -/

theorem lookupFrom_eq_none {f : Int} {p : Option Scene} {store : List Scene} :
    lookupFrom f p store = none ↔ ∀ n, store.head? = some n → f < n.start := by
  cases store with
  | nil => simp [lookupFrom]
  | cons s rest =>
    simp only [lookupFrom, List.head?_cons, Option.some.injEq, forall_eq']
    split
    · cases lookupFrom f (some s) rest <;> simp <;> omega
    · simp
      omega

/-- What the lookup finds is a record whose span holds the frame, with its predecessor. -/
theorem placed_of_lookupFrom {f : Int} {p : Option Scene} {store : List Scene} {x : Scene} {q : Option Scene}
    (h : lookupFrom f p store = some (x, q)) :
    ∃ n, ⟨q, x, n⟩ ∈ placedFrom p store ∧ Placed.covers ⟨q, x, n⟩ f = true := by
  induction store generalizing p with
  | nil => cases h
  | cons s rest ih =>
    simp only [lookupFrom] at h
    split at h
    · rename_i hle
      cases hr : lookupFrom f (some s) rest with
      | some r =>
        rw [hr] at h
        cases h
        obtain ⟨n, hn, hcovers⟩ := ih hr
        exact ⟨n, List.mem_cons_of_mem _ hn, hcovers⟩
      | none =>
        rw [hr] at h
        cases h
        exact ⟨rest.head?, List.mem_cons_self .., covers_iff.mpr ⟨hle, lookupFrom_eq_none.mp hr⟩⟩
    · cases h

theorem lookupFrom_of_placed {f : Int} {p : Option Scene} {store : List Scene} (h : StartsRise store) {y : Placed}
    (hy : y ∈ placedFrom p store) (hcovers : y.covers f = true) : lookupFrom f p store = some (y.scene, y.pred) := by
  obtain ⟨hle, hnext⟩ := covers_iff.mp hcovers
  induction store generalizing p with
  | nil => cases hy
  | cons s rest ih =>
    obtain ⟨hs, hrest⟩ := List.pairwise_cons.mp h
    rcases List.mem_cons.mp hy with rfl | hy
    · have hnone : lookupFrom f (some s) rest = none := lookupFrom_eq_none.mpr hnext
      simp only [lookupFrom, hnone]
      exact if_pos hle
    · have hmem : y.scene ∈ rest := by
        have := List.mem_map_of_mem (f := Placed.scene) hy
        rwa [map_scene_placedFrom] at this
      have hbelow : s.start ≤ f := (hs _ hmem).le.trans hle
      simp only [lookupFrom, hbelow, if_true, ih hrest hy]

/-- The lookup finds the record whose span holds the frame, with its predecessor (R3). -/
theorem lookup_eq_some {f : Int} {store : List Scene} (h : StartsRise store) {x : Scene} {p : Option Scene} :
    lookup f store = some (x, p) ↔ ∃ n, ⟨p, x, n⟩ ∈ placed store ∧ Placed.covers ⟨p, x, n⟩ f = true :=
  ⟨placed_of_lookupFrom, fun ⟨_, hn, hcovers⟩ => lookupFrom_of_placed h hn hcovers⟩

/-- A frame below every scene is a no-scene frame (R3). -/
theorem lookup_eq_none {f : Int} {store : List Scene} (h : ∀ x ∈ store, f < x.start) : lookup f store = none :=
  lookupFrom_eq_none.mpr fun n hn => h n (List.mem_of_mem_head? hn)

/-- The lookup by index: the scene of the frame stands one place above its predecessor. -/
theorem lookup_of_index {f : Int} {store : List Scene} (h : StartsRise store) {i : Nat} {x : Scene}
    (hi : store[i]? = some x) (hle : x.start ≤ f) (hnext : ∀ n, store[i + 1]? = some n → f < n.start) :
    lookup f store = some (x, predFrom none store i) :=
  (lookup_eq_some h).mpr ⟨store[i + 1]?, mem_placed.mpr ⟨i, hi, rfl, rfl⟩, covers_iff.mpr ⟨hle, hnext⟩⟩

theorem mem_of_lookup {f : Int} {store : List Scene} {x : Scene} {p : Option Scene} (hx : lookup f store = some (x, p)) :
    x ∈ store ∧ x.start ≤ f ∧ ∀ q, p = some q → q ∈ store := by
  obtain ⟨n, hplaced, hcovers⟩ := placed_of_lookupFrom hx
  obtain ⟨i, hi, hp, -⟩ := mem_placed.mp hplaced
  refine ⟨List.mem_of_getElem? hi, (covers_iff.mp hcovers).1, fun q hq => ?_⟩
  cases i with
  | zero => cases hp.symm.trans hq
  | succ j => exact List.mem_of_getElem? (hp.symm.trans hq)

theorem lookupFrom_map {g : Scene → Scene} (hg : ∀ x, (g x).start = x.start) (f : Int) (p : Option Scene)
    (store : List Scene) :
    lookupFrom f (p.map g) (store.map g) = (lookupFrom f p store).map fun r => (g r.1, r.2.map g) := by
  induction store generalizing p with
  | nil => rfl
  | cons s rest ih =>
    have ih := ih (some s)
    simp only [Option.map_some] at ih
    simp only [List.map_cons, lookupFrom, hg, ih]
    split
    · cases lookupFrom f (some s) rest <;> rfl
    · rfl

/-- Records changed one by one, none in its start frame, are found as those they come of. -/
theorem lookup_map {g : Scene → Scene} (hg : ∀ x, (g x).start = x.start) (f : Int) (store : List Scene) :
    lookup f (store.map g) = (lookup f store).map fun r => (g r.1, r.2.map g) :=
  lookupFrom_map hg f none store

/-! ### The lookup by the records near a frame -/

/-- The scene that holds a frame: the record with the highest start at or below it (R3). -/
def sceneAt (f : Int) : List Scene → Option Scene
  | [] => none
  | s :: rest => if s.start ≤ f then (sceneAt f rest).or (some s) else none

theorem sceneAt_eq_none {f : Int} {store : List Scene} (h : StartsRise store) :
    sceneAt f store = none ↔ ∀ y ∈ store, f < y.start := by
  cases store with
  | nil => simp [sceneAt]
  | cons s rest =>
    obtain ⟨hs, -⟩ := List.pairwise_cons.mp h
    simp only [sceneAt, List.forall_mem_cons]
    split
    · simp
      omega
    · exact ⟨fun _ => ⟨by omega, fun y hy => by have := hs y hy; omega⟩, fun _ => rfl⟩

theorem sceneAt_eq_some {f : Int} {store : List Scene} (h : StartsRise store) {x : Scene} :
    sceneAt f store = some x ↔ x ∈ store ∧ x.start ≤ f ∧ ∀ y ∈ store, y.start ≤ f → y.start ≤ x.start := by
  induction store with
  | nil => simp [sceneAt]
  | cons s rest ih =>
    obtain ⟨hs, hrest⟩ := List.pairwise_cons.mp h
    simp only [sceneAt]
    split
    · rename_i hle
      rw [Option.or_eq_some_iff, ih hrest, sceneAt_eq_none hrest, List.forall_mem_cons, List.mem_cons, Option.some.injEq]
      constructor
      · rintro (⟨hx, hxf, hmax⟩ | ⟨hnone, rfl⟩)
        · exact ⟨.inr hx, hxf, fun _ => (hs x hx).le, hmax⟩
        · exact ⟨.inl rfl, hle, fun _ => le_rfl, fun y hy hyf => by have := hnone y hy; omega⟩
      · rintro ⟨rfl | hx, hxf, -, hmax⟩
        · exact .inr ⟨fun y hy => by have := hs y hy; have := hmax y hy; omega, rfl⟩
        · exact .inl ⟨hx, hxf, hmax⟩
    · rename_i hgt
      refine iff_of_false (by simp) fun ⟨hx, hxf, _⟩ => ?_
      rcases List.mem_cons.mp hx with rfl | hx
      · exact hgt hxf
      · have := hs x hx
        omega

theorem lookupFrom_eq (f : Int) {store : List Scene} (h : StartsRise store) (p : Option Scene) :
    lookupFrom f p store = (sceneAt f store).map fun x => (x, (sceneAt (x.start - 1) store).or p) := by
  induction store generalizing p with
  | nil => rfl
  | cons s rest ih =>
    obtain ⟨hs, hrest⟩ := List.pairwise_cons.mp h
    simp only [lookupFrom, sceneAt]
    split
    · rw [ih hrest]
      cases hx : sceneAt f rest with
      | none => simp
      | some x =>
        obtain ⟨hmem, -⟩ := (sceneAt_eq_some hrest).mp hx
        simp [hs x hmem]
    · rfl

/-- The lookup finds the scene of the frame, with the scene of the frame before its start. -/
theorem lookup_eq (f : Int) {store : List Scene} (h : StartsRise store) :
    lookup f store = (sceneAt f store).map fun x => (x, sceneAt (x.start - 1) store) := by
  rw [lookup, lookupFrom_eq f h]
  simp only [Option.or_none]

/-- The scene of a frame is the same in two stores that have the same records from its start, or from anywhere, up to the
frame. -/
theorem sceneAt_of_agree {f : Int} {store rest : List Scene} (h : StartsRise store) (h' : StartsRise rest)
    (hagree : ∀ y, y.start ≤ f → (∀ x, sceneAt f store = some x → x.start ≤ y.start) → (y ∈ rest ↔ y ∈ store)) :
    sceneAt f rest = sceneAt f store := by
  cases hx : sceneAt f store with
  | none =>
    have hnone := (sceneAt_eq_none h).mp hx
    refine (sceneAt_eq_none h').mpr fun y hy => ?_
    by_contra hle
    have hmem := (hagree y (by omega) fun x hx' => nomatch hx.symm.trans hx').mp hy
    exact hle (hnone y hmem)
  | some x =>
    have hsame (y : Scene) (hyf : y.start ≤ f) (hxy : x.start ≤ y.start) : y ∈ rest ↔ y ∈ store :=
      hagree y hyf fun z hz => by cases hx.symm.trans hz; exact hxy
    obtain ⟨hmem, hxf, hmax⟩ := (sceneAt_eq_some h).mp hx
    refine (sceneAt_eq_some h').mpr ⟨(hsame x hxf le_rfl).mpr hmem, hxf, fun y hy hyf => ?_⟩
    by_contra hlt
    exact hlt (hmax y ((hsame y hyf (by omega)).mp hy) hyf)

end Sys2Proof.Machine
end

section
/-!
PROOF. LightRanges: the light monitor's moves that change neither the light factor nor the wear, and its working state's ranges under
them (R99 to R110).
-/
namespace Sys2Proof.Machine

/-- Between `l` and `m` the light factor and the wear stand, and the working state stays in its ranges. -/
structure LightKept (l m : Light) : Prop where
  k : m.k = l.k
  wear : m.wear = l.wear
  ok : LightOk l → LightOk m

theorem LightKept.refl (l : Light) : LightKept l l := ⟨rfl, rfl, id⟩

theorem LightKept.of_eq {l m : Light} (h : m = l) : LightKept l m := h ▸ .refl l

theorem LightKept.trans {l m n : Light} (h : LightKept l m) (k : LightKept m n) : LightKept l n :=
  ⟨k.k.trans h.k, k.wear.trans h.wear, fun hl => k.ok (h.ok hl)⟩

theorem isBlockSize_pos {n : Nat} (h : isBlockSize n = true) : 0 < n := by
  refine Nat.pos_of_ne_zero fun h0 => ?_
  rw [h0] at h
  cases h

/-- Without its partial block and its low run the working state is in its ranges all the more (R101, R102). -/
theorem LightOk.drop {l : Light} (h : LightOk l) : LightOk (dropLowRun (dropBlock l)) := by
  obtain ⟨hfloor, hsize, htarget, hlimit, hservice, -, -, hk, -, hwear, hcount⟩ := h
  exact ⟨hfloor, hsize, htarget, hlimit, hservice, isBlockSize_pos hsize, Nat.zero_le _, hk, Nat.zero_le _, hwear, hcount⟩

theorem LightOk.setRestCount {l : Light} (h : LightOk l) {n : Nat} (hn : n ≤ 65535) : LightOk { l with restCount := n } := by
  obtain ⟨hfloor, hsize, htarget, hlimit, hservice, hcount, hsum, hk, hlow, hwear, -⟩ := h
  exact ⟨hfloor, hsize, htarget, hlimit, hservice, hcount, hsum, hk, hlow, hwear, hn⟩

theorem saturate_le (n : Nat) : saturate n ≤ 65535 := Nat.min_le_left ..

/-- A field counts towards REST (R106, R108). -/
theorem countRest_light (frame : Int) (l : Light) : LightKept l (countRest frame l) := by
  have hcount : (if l.lastFrame = some frame then saturate l.restCount else 0) ≤ 65535 := by
    split
    · exact saturate_le _
    · exact Nat.zero_le _
  exact ⟨rfl, rfl, fun h => h.setRestCount hcount⟩

/-- REST is entered (R107). -/
theorem enterRestNow_light (s : State) : LightKept s.light (enterRestNow s).light := ⟨rfl, rfl, fun h => h.drop⟩

theorem decideRest_light (s : State) : LightKept s.light (decideRest s).light := by
  unfold decideRest
  split
  · exact enterRestNow_light s
  · exact ⟨rfl, rfl, id⟩

/-- A halt or a soft reset ends REST and the counts towards it (R110, R111). -/
theorem haltLight_light (l : Light) : LightKept l (haltLight l) :=
  ⟨rfl, rfl, fun h => h.drop.setRestCount (Nat.zero_le _)⟩

end Sys2Proof.Machine
end

section
/-!
PROOF. FieldGrade: the field grade that a field event makes, whatever the order of the blocks (R65, R66, R68, R69, R79, R86).
-/
namespace Sys2Proof.Machine

/-! ### What the shares leave of the grade -/

/-- The field grade, the picture path and the light monitor. -/
def drawn (s : State) : FieldGrade × Picture × Light := (s.grade, s.picture, s.light)

theorem SideFrame.drawn_eq {s t : State} (h : SideFrame s t) : drawn t = drawn s := by
  rw [drawn, h.grade, h.picture, h.light]
  rfl

theorem ite_drawn {p : Prop} [Decidable p] {s t u : State} (ht : drawn t = drawn s) (hu : drawn u = drawn s) :
    drawn (if p then t else u) = drawn s := by
  split <;> assumption

theorem closeTally_drawn (s : State) : drawn (closeTally s) = drawn s := by
  unfold closeTally
  cases s.level.tally with
  | none => rfl
  | some t => exact ite_drawn (offer_frame ..).drawn_eq rfl

theorem takeJudgement_drawn (j : Option AlertFlags) (s : State) : drawn (takeJudgement j s) = drawn s := by
  cases j with
  | none => rfl
  | some f => exact ite_drawn rfl rfl

theorem statsField_drawn (m : Measurement) (e : Bool) (s : State) : drawn (statsField m e s) = drawn s := by
  unfold statsField
  cases m.start <;> rfl

theorem tallyField_drawn (m : Measurement) (j : Option AlertFlags) (s : State) : drawn (tallyField m j s) = drawn s := by
  have hclose : drawn (if tallyDiffers s m then closeTally s else s) = drawn s := ite_drawn (closeTally_drawn s) rfl
  exact ite_drawn hclose rfl

theorem dealMeasurement_drawn (m : Measurement) (s : State) : drawn (dealMeasurement m s) = drawn s := by
  have hjudged (l : Level) (j : Option AlertFlags) : drawn (takeJudgement j { s with level := l }) = drawn s :=
    takeJudgement_drawn ..
  exact (tallyField_drawn ..).trans (ite_drawn ((statsField_drawn ..).trans (hjudged ..)) (hjudged ..))

/-- The level monitor's share draws on nothing that the grade is made of. -/
theorem levelField_drawn (s : State) : drawn (levelField s) = drawn s := by
  have hfinish : drawn (finishOpen s) = drawn s := by
    unfold finishOpen
    cases s.level.openMeas with
    | none => rfl
    | some m => exact dealMeasurement_drawn ..
  have hclose : drawn (closeIfEnded (finishOpen s)) = drawn s := ite_drawn hfinish ((closeTally_drawn _).trans hfinish)
  exact ite_drawn hclose rfl

/-- Between `s` and `t` the grade in force and the picture path stand, and so do the light factor and the wear. -/
structure GradeSpared (s t : State) : Prop where
  grade : t.grade = s.grade
  picture : t.picture = s.picture
  light : LightKept s.light t.light

theorem GradeSpared.of_drawn {s t : State} (h : drawn t = drawn s) : GradeSpared s t := by
  obtain ⟨hgrade, hpicture, hlight⟩ : t.grade = s.grade ∧ t.picture = s.picture ∧ t.light = s.light := by
    simpa [drawn] using h
  exact ⟨hgrade, hpicture, .of_eq hlight⟩

theorem GradeSpared.trans {s t u : State} (h : GradeSpared s t) (k : GradeSpared t u) : GradeSpared s u :=
  ⟨k.grade.trans h.grade, k.picture.trans h.picture, h.light.trans k.light⟩

/-- Every share but the grade engine's spares the grade in force. -/
theorem runAct_spared {a : FieldAct} (ha : a ≠ .grade) (s : State) : GradeSpared s (runAct a s) := by
  cases a with
  | grade => exact absurd rfl ha
  | restCount =>
    simp only [runAct, restField]
    split
    · exact ⟨rfl, rfl, countRest_light ..⟩
    · exact .of_drawn rfl
  | restEntry =>
    have hshown : shown (decideRest s) = shown s := ite_shown rfl rfl
    obtain ⟨-, hpicture, hgrade⟩ : _ ∧ (decideRest s).picture = s.picture ∧ (decideRest s).grade = s.grade := by
      simpa [shown] using hshown
    exact ⟨hgrade, hpicture, decideRest_light s⟩
  | measure => exact .of_drawn (levelField_drawn s)
  | framers | silence | poll => exact .of_drawn (ite_drawn rfl rfl)
  | timer l => exact .of_drawn ((checkTimer_frame l s).trans (tellLosses_frame ..)).drawn_eq
  | autoDown l => exact .of_drawn ((decideDown_frame l s).trans (tellLosses_frame ..)).drawn_eq
  | pass => exact .of_drawn (passField_frame s).drawn_eq
  | report =>
    refine .of_drawn (ite_drawn ?_ rfl)
    cases s.reports.setting <;> rfl

theorem runActs_spared {acts : List FieldAct} (h : .grade ∉ acts) (s : State) :
    GradeSpared s (acts.foldl (fun s a => runAct a s) s) := by
  induction acts generalizing s with
  | nil => exact .of_drawn rfl
  | cons a acts ih =>
    rw [List.mem_cons, not_or] at h
    obtain ⟨ha, hacts⟩ := h
    exact (runAct_spared (Ne.symm ha) s).trans (ih hacts _)

/-! ### The grade engine's share among the others -/

/-- `u` is what the grade engine of `s` finds when it takes a field event of parity `p`, as far as the grade is made of it. -/
structure GradeInputs (p : Parity) (timer : Bool) (s u : State) : Prop where
  running : u.port.running = s.port.running
  follower : u.follower = followField s.follower p timer
  store : u.store.map Scene.bare = s.store.map Scene.bare
  table : u.table = s.table
  picture : u.picture = { s.picture with output := Rgb.same 64 }
  light : LightKept s.light u.light

theorem publish_drawn (p : Parity) (timer : Bool) (s : State) :
    drawn (publish p timer s) = (s.grade, { s.picture with output := Rgb.same 64 }, s.light) := by
  rw [publish_eq]
  rfl

theorem publish_running (p : Parity) (timer : Bool) (s : State) : (publish p timer s).port.running = s.port.running := by
  rw [publish_eq]
  simp only
  split <;> rfl

/-- The shares before the grade engine's leave all that the grade is made of, and the shares after it leave the grade. -/
theorem fieldStep_grades (p : Parity) (timer : Bool) (order : List FieldAct) (s : State) :
    ∃ u, GradeInputs p timer s u ∧ GradeSpared (gradeField u) (fieldStep p timer order s) := by
  have hmem : FieldAct.grade ∈ arrange order := mem_arrange.mpr (.inr (by decide))
  obtain ⟨pre, post, hsplit⟩ := List.append_of_mem hmem
  have hnodup := nodup_arrange order
  rw [hsplit, List.nodup_append] at hnodup
  obtain ⟨-, hpost, hapart⟩ := hnodup
  have hpre : FieldAct.grade ∉ pre := fun h => hapart _ h _ (List.mem_cons_self ..) rfl
  obtain ⟨hpost, -⟩ := List.nodup_cons.mp hpost
  have hsettled : GradeSpared s (settleField s) := runActs_spared (acts := optionalActs) (by decide) s
  obtain ⟨-, hpicture, hlight⟩ : _ ∧ (publish p timer (settleField s)).picture = _ ∧ (publish p timer (settleField s)).light = _ := by
    simpa only [drawn, Prod.mk.injEq] using publish_drawn p timer (settleField s)
  have hshone : LightKept s.light (publish p timer (settleField s)).light := by
    rw [hlight]
    exact hsettled.light
  have hkept := ((runActs_kept optionalActs s).trans (publish_kept p timer _)).trans (runActs_kept pre _)
  have hframe := runActs_frame pre (publish p timer (settleField s))
  have hspared := runActs_spared hpre (publish p timer (settleField s))
  refine ⟨pre.foldl (fun s a => runAct a s) (publish p timer (settleField s)),
    ⟨?_, ?_, hkept.store, hkept.table, ?_, ?_⟩, ?_⟩
  · rw [hframe.running, publish_running, (settleField_frame s).running]
  · rw [hframe.follower, publish_follower, (settleField_frame s).follower]
  · rw [hspared.picture, hpicture, hsettled.picture]
  · exact hshone.trans hspared.light
  · rw [fieldStep, hsplit, List.foldl_append, List.foldl_cons]
    exact runActs_spared hpost _

/-! ### The grade as computed -/

/-- A stored record without its LOCKED flag and its statistics: all that a grade is made of. -/
def Scene.core (x : Scene) : Scene := { x with locked := false, stats := none }

theorem frameGrade_core (t : LookTable) (x : Scene) (p : Option Scene) (f : Int) :
    frameGrade t x.core (p.map Scene.core) f = frameGrade t x p f := by
  cases p <;> rfl

/-- A frame's grade depends on its scene and, while that dissolves, on the predecessor, but not on flags and statistics. -/
theorem frameGrade_congr (t : LookTable) {x y : Scene} {p q : Option Scene} (f : Int) (hx : y.core = x.core)
    (hp : x.transition.dissolves = true → q.map Scene.core = p.map Scene.core) : frameGrade t y q f = frameGrade t x p f := by
  rw [← frameGrade_core t y, ← frameGrade_core t x, hx]
  cases htrans : x.transition with
  | cut => simp only [frameGrade, Scene.core, htrans]
  | dissolve n => rw [hp (by rw [htrans]; rfl)]

/-- Records that differ in statistics alone have the same core. -/
theorem Scene.core_of_bare {x y : Scene} (h : y.bare = x.bare) : y.core = x.core := (congrArg Scene.core h :)

theorem map_core_of_bare {p q : Option Scene} (h : q.map Scene.bare = p.map Scene.bare) :
    q.map Scene.core = p.map Scene.core := by
  have hcore (o : Option Scene) : o.map Scene.core = (o.map Scene.bare).map Scene.core := by cases o <;> rfl
  rw [hcore q, h, ← hcore p]

/-- Stores that differ in statistics alone answer a lookup alike. -/
theorem lookup_of_bare {f : Int} {store rest : List Scene} (h : rest.map Scene.bare = store.map Scene.bare) :
    (lookup f rest).map (fun r => (r.1.bare, r.2.map Scene.bare))
      = (lookup f store).map fun r => (r.1.bare, r.2.map Scene.bare) := by
  rw [← lookup_map (g := Scene.bare) (fun _ => rfl), ← lookup_map (g := Scene.bare) (fun _ => rfl), h]

/-- Where the statistics alone differ, the lookup finds records of the same core and flag. -/
theorem lookup_some_of_bare {f : Int} {store rest : List Scene} (h : rest.map Scene.bare = store.map Scene.bare) {x : Scene}
    {p : Option Scene} (hx : lookup f store = some (x, p)) :
    ∃ y q, lookup f rest = some (y, q) ∧ y.locked = x.locked ∧ y.core = x.core
      ∧ q.map Scene.core = p.map Scene.core := by
  have hsame := lookup_of_bare (f := f) h
  rw [hx, Option.map_some, Option.map_eq_some_iff] at hsame
  obtain ⟨⟨y, q⟩, hlookup, hbare⟩ := hsame
  obtain ⟨hy, hq⟩ : y.bare = x.bare ∧ q.map Scene.bare = p.map Scene.bare := by simpa using hbare
  exact ⟨y, q, hlookup, (congrArg Scene.locked hy :), Scene.core_of_bare hy, map_core_of_bare hq⟩

theorem lookup_none_of_bare {f : Int} {store rest : List Scene} (h : rest.map Scene.bare = store.map Scene.bare)
    (hnone : lookup f store = none) : lookup f rest = none := by
  have hsame := lookup_of_bare (f := f) h
  rwa [hnone, Option.map_none, Option.map_eq_none_iff] at hsame

/-- At a no-scene frame the grade is unity (R68). -/
theorem computeGrade_noScene {s : State} (h : lookup s.follower.record.frame s.store = none) :
    computeGrade s
      = ⟨s.follower.record.field, unityGrade, s.light.k, s.picture.defaultNegative, s.light.rest, 0⟩ := by
  simp only [computeGrade, h]

/-- At a frame of a scene the grade is the frame's under that scene (R69). -/
theorem computeGrade_scene {s : State} {x : Scene} {p : Option Scene}
    (h : lookup s.follower.record.frame s.store = some (x, p)) :
    computeGrade s
      = ⟨s.follower.record.field, frameGrade s.table x p s.follower.record.frame, s.light.k, x.negative, s.light.rest,
          x.number⟩ := by
  simp only [computeGrade, h]

theorem GradeInputs.noScene {p : Parity} {timer : Bool} {s u : State} (h : GradeInputs p timer s u)
    (hnone : lookup u.follower.record.frame s.store = none) :
    computeGrade u
      = ⟨u.follower.record.field, unityGrade, s.light.k, s.picture.defaultNegative, u.light.rest, 0⟩ := by
  rw [computeGrade_noScene (lookup_none_of_bare h.store hnone), h.light.k, h.picture]

theorem GradeInputs.scene {p : Parity} {timer : Bool} {s u : State} (h : GradeInputs p timer s u) {x : Scene}
    {q : Option Scene} (hsome : lookup u.follower.record.frame s.store = some (x, q)) :
    computeGrade u
      = ⟨u.follower.record.field, frameGrade s.table x q u.follower.record.frame, s.light.k, x.negative, u.light.rest,
          x.number⟩ := by
  obtain ⟨y, r, hlookup, -, hy, hr⟩ := lookup_some_of_bare h.store hsome
  have hnumber : y.number = x.number := (congrArg Scene.number hy :)
  have hnegative : y.negative = x.negative := (congrArg Scene.negative hy :)
  rw [computeGrade_scene hlookup, h.table, h.light.k, hnumber, hnegative, frameGrade_congr s.table _ hy fun _ => hr]

theorem gradeField_running {s : State} (h : s.port.running = true) :
    gradeField s
      = { s with
          grade := computeGrade s
          picture := { s.picture with haltPassage := false, legalInForce := s.picture.legalClip } } := if_pos h

theorem gradeField_halted {s : State} (h : s.port.running = false) :
    gradeField s
      = { s with
          grade := haltGrade s.follower.record.field
          picture := { s.picture with haltPassage := true, legalInForce := false } } := if_neg (by simp [h])

/-- Settles O33: the grade engine finds the field's frame, the scenes, the looks and the light factor as they stood. -/
theorem fieldGradeIsMadeForTheFrame : Obligations.FieldGradeIsMadeForTheFrame := by
  unfold Obligations.FieldGradeIsMadeForTheFrame
  rintro s c p timer ⟨order, hc⟩ hstore
  obtain ⟨u, hin, hout⟩ := fieldStep_grades p timer order s
  have hfollower : (fieldStep p timer order s).follower = u.follower := (fieldStep_follower ..).trans hin.follower.symm
  have hfield : u.follower.record.field = s.follower.fields + 1 := by rw [hin.follower]; rfl
  refine ⟨_, exec_fieldCommand hc, ?_⟩
  rw [hout.grade, hout.picture, hfollower]
  cases hrun : s.port.running with
  | false =>
    rw [gradeField_halted (hin.running.trans hrun), hfield]
    exact ⟨rfl, fun _ => ⟨rfl, rfl, rfl⟩, fun h => nomatch h⟩
  | true =>
    rw [gradeField_running (hin.running.trans hrun)]
    have hk : (computeGrade u).k = s.light.k ∧ (computeGrade u).field = s.follower.fields + 1 := by
      cases hlookup : lookup u.follower.record.frame s.store with
      | none => rw [hin.noScene hlookup]; exact ⟨rfl, hfield⟩
      | some r => rw [hin.scene hlookup]; exact ⟨rfl, hfield⟩
    refine ⟨hk.2, fun h => (nomatch h), fun _ => ⟨rfl, by rw [hin.picture], hk.1, fun hnone => ?_, fun i x hi hle hnext => ?_⟩⟩
    · rw [hin.noScene (lookup_eq_none hnone)]
      exact ⟨rfl, rfl, rfl⟩
    · rw [hin.scene (lookup_of_index hstore.startsRise hi hle hnext)]
      refine ⟨rfl, rfl, ?_⟩
      cases i <;> rfl

end Sys2Proof.Machine
end

section
/-!
PROOF. QuietCommands: the commands that leave every scene, the light monitor and the grade in force alone; among them those that move
the exchange port alone.
-/
namespace Sys2Proof.Machine

/-! ### Moves of the port, the journal and the reports -/

/-- Between `s` and `t` nothing has changed but the port, the journal, the reports, the written memory and the count of free
bits. -/
def PortMove (s t : State) : Prop :=
  t = { s with port := t.port, journal := t.journal, reports := t.reports, area := t.area, freeIndex := t.freeIndex }

theorem PortMove.refl (s : State) : PortMove s s := rfl

theorem PortMove.trans {s t u : State} (h : PortMove s t) (k : PortMove t u) : PortMove s u := by
  unfold PortMove at *
  rw [h] at k
  exact k

theorem ite_portMove {p : Prop} [Decidable p] {s t u : State} (ht : PortMove s t) (hu : PortMove s u) :
    PortMove s (if p then t else u) := by
  split <;> assumption

theorem raise_portMove (c : Cause) (s : State) : PortMove s (raise c s) := rfl

theorem finish_portMove (b : OrderBlock) (o : OutcomeCode) (d : Nat) (s : State) : PortMove s (finish b o d s) := rfl

theorem proceed_portMove (b : OrderBlock) (p : Progress) (s : State) : PortMove s (proceed b p s) := rfl

theorem setWalker_portMove (w : Walker) (s : State) : PortMove s (setWalker w s) := rfl

theorem withOrder_portMove {code : BitVec 8} {s : State} {take : OrderBlock → State} (h : ∀ b, PortMove s (take b)) :
    PortMove s (withOrder code s take) := by
  obtain he | ⟨b, -, he⟩ := withOrder_cases code s take <;> rw [he]
  · exact .refl s
  · exact h b

theorem withProgress_portMove {s : State} {take : OrderBlock → Progress → State} (h : ∀ b p, PortMove s (take b p)) :
    PortMove s (withProgress s take) := by
  obtain he | ⟨b, p, -, he⟩ := withProgress_cases s take <;> rw [he]
  · exact .refl s
  · exact h b p

theorem complete_portMove {isKind : AccessKind → Bool} {s : State} {live stale : Access → State → State}
    (hlive : ∀ a t, PortMove t (live a t)) (hstale : ∀ a t, PortMove t (stale a t)) :
    PortMove s (complete isKind s live stale) := by
  have hend (a : Access) : PortMove s (endAccess a s) := rfl
  obtain he | ⟨a, -, -, ⟨-, he⟩ | ⟨-, he⟩ | ⟨-, he⟩⟩ := complete_cases isKind s live stale <;> rw [he]
  · exact .refl s
  · exact (hend a).trans (hlive a _)
  · exact (hend a).trans (hstale a _)
  · exact hend a

/-! ### The accesses of the port, the journal and the reports -/

theorem judgeLink_portMove (v : BitVec 32) (n : Nat) (s : State) : PortMove s (judgeLink v n s) := by
  rw [judgeLink_port]
  rfl

theorem closeBlock_portMove (b : OrderBlock) (s : State) : PortMove s (closeBlock b s) := by
  rw [closeBlock_port]
  rfl

theorem pollComplete_portMove (s : State) : PortMove s (pollComplete s) := rfl

theorem afterHeader_portMove (s : State) : PortMove s (afterHeader s) := by
  unfold afterHeader
  cases s.port.walker with
  | idle => exact ite_portMove ((pollComplete_portMove s).trans (judgeLink_portMove ..)) rfl
  | _ => exact pollComplete_portMove s

theorem afterBlock_portMove (block : BitVec 256) (s : State) : PortMove s (afterBlock block s) := by
  unfold afterBlock
  cases s.port.walker with
  | reading o n =>
    have hfollows (v : BitVec 32) (t : State) : PortMove t (follows v t) := rfl
    exact ite_portMove (setWalker_portMove ..) <| ite_portMove (setWalker_portMove ..) <|
      ite_portMove ((hfollows _ s).trans (judgeLink_portMove ..)) (setWalker_portMove ..)
  | _ => exact .refl s

theorem afterTaken_portMove (s : State) : PortMove s (afterTaken s) := by
  unfold afterTaken
  cases s.port.walker with
  | taking b halted =>
    cases halted with
    | false => exact ite_portMove (proceed_portMove ..) (finish_portMove ..)
    | true => exact setWalker_portMove ..
  | _ => exact .refl s

theorem afterAborted_portMove (s : State) : PortMove s (afterAborted s) := by
  unfold afterAborted
  cases s.port.walker with
  | closing b n halted => exact ite_portMove (closeBlock_portMove ..) ((closeBlock_portMove b s).trans (judgeLink_portMove ..))
  | aborting b => exact closeBlock_portMove ..
  | _ => exact .refl s

theorem afterResultIndex_portMove (s : State) : PortMove s (afterResultIndex s) :=
  withProgress_portMove fun b p => by cases p <;> rfl

theorem afterFinal_portMove (s : State) : PortMove s (afterFinal s) := by
  refine withProgress_portMove fun b p => ?_
  cases p with
  | finishing r => exact closeBlock_portMove ..
  | _ => exact .refl s

theorem nextRead_portMove (b : OrderBlock) (run : SceneRead) (s : State) : PortMove s (nextRead b run s) :=
  ite_portMove (proceed_portMove ..) (finish_portMove ..)

theorem afterSceneSlot_portMove (s : State) : PortMove s (afterSceneSlot s) := by
  refine withProgress_portMove fun b p => ?_
  cases p with
  | slotScene run => exact nextRead_portMove ..
  | _ => exact .refl s

theorem nextLook_portMove (b : OrderBlock) (run : LookRead) (s : State) : PortMove s (nextLook b run s) :=
  ite_portMove (proceed_portMove ..) (finish_portMove ..)

theorem afterLookSlot_portMove (s : State) : PortMove s (afterLookSlot s) := by
  refine withProgress_portMove fun b p => ?_
  cases p with
  | slotLook run => exact nextLook_portMove ..
  | _ => exact .refl s

theorem afterJournal_portMove (a : Access) (s : State) : PortMove s (afterJournal a s) := by
  unfold afterJournal
  cases a.kind with
  | journal pops advances =>
    have hadvance (t : State) : PortMove t (advanceFill t) := ite_portMove rfl rfl
    have hpop : PortMove s (if pops then { s with journal := { s.journal with queue := s.journal.queue.tail } } else s) :=
      ite_portMove rfl rfl
    exact ite_portMove (hpop.trans (hadvance _)) hpop
  | _ => exact .refl s

theorem afterReport_portMove (a : Access) (s : State) : PortMove s (afterReport a s) := by
  unfold afterReport
  cases a.kind <;> rfl

theorem grantAccess_portMove (s : State) : PortMove s (grantAccess s) := by
  obtain he | ⟨r, -, -, he⟩ := grantAccess_cases s <;> rw [he]
  · exact .refl s
  · cases r <;> rfl

/-- A bus error moves the port, and may halt the part then (R177). -/
theorem busErrorNow_cases (s : State) :
    ∃ u, PortMove s u ∧ (busErrorNow s = u ∨ busErrorNow s = haltPart .bus u) := by
  have hlet (a : Access) (t : State) : PortMove t (letBlockBe a t) := ite_portMove (setWalker_portMove ..) (.refl t)
  have hdata (t : State) : PortMove t (dataFault t) := withProgress_portMove fun b p => by cases p <;> rfl
  have hdrop : PortMove s (dropAccess s) := rfl
  unfold busErrorNow
  cases s.port.access with
  | none => exact ⟨s, .refl s, .inl rfl⟩
  | some a =>
    simp only
    split
    · exact ⟨_, hdrop, .inl rfl⟩
    · split
      · unfold errorRunning
        cases errorClass a.kind with
        | data => exact ⟨_, hdrop.trans (ite_portMove (hdata _) (.refl _)), .inl rfl⟩
        | port => exact ⟨_, hdrop.trans ((hlet a _).trans (raise_portMove ..)), .inr rfl⟩
        | journal => exact ⟨_, hdrop.trans (raise_portMove ..), .inr rfl⟩
        | report =>
          have hreports (r : Reports) : PortMove s { dropAccess s with reports := r } := rfl
          exact ⟨_, (hreports _).trans (raise_portMove ..), .inl rfl⟩
      · unfold errorHalted
        cases errorClass a.kind with
        | data => exact ⟨_, hdrop, .inl rfl⟩
        | port => exact ⟨_, hdrop.trans ((hlet a _).trans (raise_portMove ..)), .inl rfl⟩
        | journal | report => exact ⟨_, hdrop.trans (raise_portMove ..), .inl rfl⟩

/-! ### The orders that move the port alone -/

theorem takePutScene_portMove (b : OrderBlock) (s : State) : PortMove s (takePutScene b s) :=
  ite_portMove rfl (ite_portMove rfl rfl)

theorem takeReadScenes_portMove (b : OrderBlock) (s : State) : PortMove s (takeReadScenes b s) :=
  ite_portMove rfl (nextRead_portMove ..)

theorem takePutLook_portMove (b : OrderBlock) (s : State) : PortMove s (takePutLook b s) :=
  ite_portMove rfl (ite_portMove rfl (ite_portMove rfl (ite_portMove rfl (ite_portMove rfl rfl))))

theorem takeReadLooks_portMove (b : OrderBlock) (s : State) : PortMove s (takeReadLooks b s) := ite_portMove rfl rfl

theorem takeSetJournal_portMove (b : OrderBlock) (s : State) : PortMove s (takeSetJournal b s) :=
  ite_portMove rfl (ite_portMove rfl rfl)

theorem takeSetReports_portMove (b : OrderBlock) (s : State) : PortMove s (takeSetReports b s) := by
  unfold takeSetReports
  cases flagCode (param b 17 1) with
  | none => rfl
  | some on =>
    cases on with
    | false => rfl
    | true => exact ite_portMove rfl rfl

/-! ### The other orders that leave the scenes, the light and the grade alone -/

/-- The scenes, the light monitor and the grade in force. -/
def gradeSources (s : State) : List Scene × Light × FieldGrade := (s.store, s.light, s.grade)

theorem PortMove.sources {s t : State} (h : PortMove s t) : gradeSources t = gradeSources s := by
  rw [h]
  rfl

theorem SideFrame.sources {s t : State} (h : SideFrame s t) : gradeSources t = gradeSources s := by
  rw [gradeSources, h.store, h.light, h.grade]
  rfl

theorem ite_sources {p : Prop} [Decidable p] {s t u : State} (ht : gradeSources t = gradeSources s)
    (hu : gradeSources u = gradeSources s) : gradeSources (if p then t else u) = gradeSources s := by
  split <;> assumption

theorem withOrder_sources {code : BitVec 8} {s : State} {take : OrderBlock → State}
    (h : ∀ b, gradeSources (take b) = gradeSources s) : gradeSources (withOrder code s take) = gradeSources s := by
  obtain he | ⟨b, -, he⟩ := withOrder_cases code s take <;> rw [he]
  exact h b

theorem takeSetStandard_sources (b : OrderBlock) (s : State) : gradeSources (takeSetStandard b s) = gradeSources s := by
  refine ite_sources rfl (ite_sources rfl ?_)
  cases standardOf (param b 12 1) with
  | none => rfl
  | some std => exact ite_sources rfl rfl

theorem takeSetPosition_sources (b : OrderBlock) (s : State) : gradeSources (takeSetPosition b s) = gradeSources s :=
  ite_sources rfl (ite_sources rfl (ite_sources rfl rfl))

theorem takeSetFollow_sources (b : OrderBlock) (s : State) : gradeSources (takeSetFollow b s) = gradeSources s := by
  refine ite_sources rfl ?_
  cases flagCode (param b 12 1) with
  | none => rfl
  | some on =>
    cases on with
    | false => rfl
    | true => exact ite_sources rfl rfl

theorem takeSetPicture_sources (b : OrderBlock) (s : State) : gradeSources (takeSetPicture b s) = gradeSources s := by
  refine ite_sources rfl ?_
  cases flagCode (param b 12 1) with
  | none => rfl
  | some clip => cases flagCode (param b 13 1) <;> rfl

theorem takeSetMonitor_sources (b : OrderBlock) (s : State) : gradeSources (takeSetMonitor b s) = gradeSources s := by
  unfold takeSetMonitor
  cases monitorArgs b with
  | none => rfl
  | some a => exact ite_sources rfl rfl

theorem takeAckMonitor_sources (b : OrderBlock) (s : State) : gradeSources (takeAckMonitor b s) = gradeSources s :=
  ite_sources rfl rfl

theorem takeSetRoute_sources (b : OrderBlock) (s : State) : gradeSources (takeSetRoute b s) = gradeSources s := by
  refine ite_sources rfl ?_
  split
  · rfl
  · cases (routeArgs b).mode with
    | none => rfl
    | some mode => exact ite_sources rfl (ite_sources rfl rfl)

theorem takeSetLink_sources (b : OrderBlock) (s : State) : gradeSources (takeSetLink b s) = gradeSources s := by
  unfold takeSetLink
  simp only
  cases (linkArgs b).link with
  | none => rfl
  | some l =>
    cases (linkArgs b).autoWake with
    | none => rfl
    | some w => exact ite_sources (changeLink_frame (linkArgs b) w l s).sources rfl

theorem takeWakeLink_sources (b : OrderBlock) (s : State) : gradeSources (takeWakeLink b s) = gradeSources s := by
  unfold takeWakeLink
  cases linkOfCode (param b 12 1) with
  | none => rfl
  | some l => exact ite_sources rfl (wakeByOrder_frame l s).sources

theorem takeResetLink_sources (b : OrderBlock) (s : State) : gradeSources (takeResetLink b s) = gradeSources s := by
  unfold takeResetLink
  cases linkOfCode (param b 12 1) with
  | none => rfl
  | some l => exact ite_sources rfl rfl

theorem takeStartPass_sources (b : OrderBlock) (s : State) : gradeSources (takeStartPass b s) = gradeSources s := by
  unfold takeStartPass
  simp only
  cases startRefused (passArgs b) s with
  | none => exact (acceptPass_frame (passArgs b) s).sources
  | some r => rfl

theorem takeAbortPass_sources (b : OrderBlock) (s : State) : gradeSources (takeAbortPass b s) = gradeSources s :=
  ite_sources (abortPassNow_frame .order s).sources rfl

/-! ### The quiet commands -/

/-- The commands that can change a scene, a look, the light monitor or the grade in force. -/
def touchesGrade : Instr → Bool
  | .sceneFetchComplete _ | .removeScene | .clearScenes | .lockScenes | .unlockScenes | .loadScenes
  | .loadRecordFetchComplete _ | .lookFetchComplete _ | .setHouseArea | .clearHouseLooks | .setLight | .runWritten0
  | .softReset | .powerOnReset | .boardReset | .fieldEvent .. | .referenceWatchExpiry _ | .standInField _
  | .lightSampleEvent _ | .enterRest | .busError => true
  | _ => false

/-- Every other command leaves the scenes, the light monitor and the grade in force. -/
theorem exec_quiet {c : Instr} (h : touchesGrade c = false) (s : State) :
    ∃ t, exec c s = .next t ∧ gradeSources t = gradeSources s := by
  have completion {isKind : AccessKind → Bool} {live : Access → State → State} (h : ∀ a t, PortMove t (live a t)) :
      gradeSources (complete isKind s live unused) = gradeSources s := (complete_portMove h fun _ t => .refl t).sources
  have portOrder {code : BitVec 8} {take : OrderBlock → State} (h : ∀ b, PortMove s (take b)) :
      gradeSources (withOrder code s take) = gradeSources s := (withOrder_portMove h).sources
  have message (l : Link) (bytes : List Byte) :
      gradeSources (tellLosses s (takeBytes l bytes s)) = gradeSources s :=
    ((takeBytes_frame ..).trans (tellLosses_frame ..)).sources
  have expiry (k : TimerKind) (l : Link) : gradeSources (tellLosses s (expiryOf k l s)) = gradeSources s :=
    ((expiryOf_frame ..).trans (tellLosses_frame ..)).sources
  cases c with
  | putScene => exact ⟨_, rfl, portOrder (takePutScene_portMove · s)⟩
  | readScenes => exact ⟨_, rfl, portOrder (takeReadScenes_portMove · s)⟩
  | putLook => exact ⟨_, rfl, portOrder (takePutLook_portMove · s)⟩
  | readLooks => exact ⟨_, rfl, portOrder (takeReadLooks_portMove · s)⟩
  | setJournal => exact ⟨_, rfl, portOrder (takeSetJournal_portMove · s)⟩
  | setReports => exact ⟨_, rfl, portOrder (takeSetReports_portMove · s)⟩
  | mark => exact ⟨_, rfl, portOrder fun b => finish_portMove b .ok 0 s⟩
  | setStandard => exact ⟨_, rfl, withOrder_sources (takeSetStandard_sources · s)⟩
  | setPosition => exact ⟨_, rfl, withOrder_sources (takeSetPosition_sources · s)⟩
  | setFollow => exact ⟨_, rfl, withOrder_sources (takeSetFollow_sources · s)⟩
  | setPicture => exact ⟨_, rfl, withOrder_sources (takeSetPicture_sources · s)⟩
  | setMonitor => exact ⟨_, rfl, withOrder_sources (takeSetMonitor_sources · s)⟩
  | ackMonitor => exact ⟨_, rfl, withOrder_sources (takeAckMonitor_sources · s)⟩
  | setRoute => exact ⟨_, rfl, withOrder_sources (takeSetRoute_sources · s)⟩
  | setLink => exact ⟨_, rfl, withOrder_sources (takeSetLink_sources · s)⟩
  | wakeLink => exact ⟨_, rfl, withOrder_sources (takeWakeLink_sources · s)⟩
  | resetLink => exact ⟨_, rfl, withOrder_sources (takeResetLink_sources · s)⟩
  | startPass => exact ⟨_, rfl, withOrder_sources (takeStartPass_sources · s)⟩
  | abortPass => exact ⟨_, rfl, withOrder_sources (takeAbortPass_sources · s)⟩
  | runWritten1 | baseWrite | sampleTriple => exact ⟨_, rfl, ite_sources rfl rfl⟩
  | attentionWrite | noticeMaskWrite | perfEvent => exact ⟨_, rfl, rfl⟩
  | awake | cued | locked | written | done | trouble | damagedFrame => exact ⟨_, rfl, message ..⟩
  | wakeTimerExpiry | cueTimerExpiry | watchdogExpiry | closeTimerExpiry => exact ⟨_, rfl, expiry ..⟩
  | startByte l => exact ⟨_, rfl, ((takeByte_frame ..).trans (tellLosses_frame ..)).sources⟩
  | directiveSent l => exact ⟨_, rfl, (setLinkRec_frame ..).sources⟩
  | autoDown l => exact ⟨_, rfl, ite_sources ((autoDownNow_frame l s).trans (tellLosses_frame ..)).sources rfl⟩
  | readScenesSlotWritten => exact ⟨_, rfl, completion fun _ => afterSceneSlot_portMove⟩
  | readLooksSlotWritten => exact ⟨_, rfl, completion fun _ => afterLookSlot_portMove⟩
  | headerReadComplete bytes =>
    have read (a : Access) (t : State) : PortMove t (afterHeaderRead bytes t) := rfl
    have mark (a : Access) (t : State) : PortMove t (takeMark bytes t) := rfl
    exact ⟨_, rfl, (complete_portMove read mark).sources⟩
  | headerWriteComplete => exact ⟨_, rfl, completion fun _ => afterHeader_portMove⟩
  | linkReadComplete link =>
    exact ⟨_, rfl, completion fun _ t => (pollComplete_portMove t).trans (judgeLink_portMove ..)⟩
  | blockReadComplete block => exact ⟨_, rfl, completion fun _ => afterBlock_portMove block⟩
  | takenWriteComplete => exact ⟨_, rfl, completion fun _ => afterTaken_portMove⟩
  | resultIndexWriteComplete => exact ⟨_, rfl, completion fun _ => afterResultIndex_portMove⟩
  | finalWriteComplete => exact ⟨_, rfl, completion fun _ => afterFinal_portMove⟩
  | abortedWriteComplete => exact ⟨_, rfl, completion fun _ => afterAborted_portMove⟩
  | accessGrant => exact ⟨_, rfl, (grantAccess_portMove s).sources⟩
  | journalWriteComplete => exact ⟨_, rfl, completion afterJournal_portMove⟩
  | reportWriteComplete => exact ⟨_, rfl, completion afterReport_portMove⟩
  | _ => cases h

end Sys2Proof.Machine
end

section
/-!
PROOF. LockedGrade: while a scene is locked, its frames stay its own and keep their grade (R9, R29, R83).
-/
namespace Sys2Proof.Machine

/-! ### What span protection keeps of a locked scene's frame (R9) -/

/-- A locked scene that holds frame `f` in `store` holds it in `rest`, with all that its grade is made of: itself, and its
predecessor while it dissolves. `stays` says when it is still locked. -/
def SpanKept (stays : Prop) (f : Int) (store rest : List Scene) : Prop :=
  ∀ x p, lookup f store = some (x, p) → x.locked = true →
    ∃ y q, lookup f rest = some (y, q) ∧ (stays → y.locked = true) ∧ y.core = x.core
      ∧ (x.transition.dissolves = true → q.map Scene.core = p.map Scene.core)

section
variable {stays : Prop} {f : Int}

theorem SpanKept.refl (store : List Scene) : SpanKept stays f store store :=
  fun x p hx hl => ⟨x, p, hx, fun _ => hl, rfl, fun _ => rfl⟩

theorem SpanKept.of_eq {store rest : List Scene} (h : rest = store) : SpanKept stays f store rest := h ▸ .refl _

/-- Statistics do not count. -/
theorem SpanKept.of_bare {store rest : List Scene} (h : rest.map Scene.bare = store.map Scene.bare) :
    SpanKept stays f store rest := by
  intro x p hx hl
  obtain ⟨y, q, hy, hlock, hcore, hpred⟩ := lookup_some_of_bare h hx
  exact ⟨y, q, hy, fun _ => hlock.trans hl, hcore, fun _ => hpred⟩

theorem ScenesKept.span {s t : State} (h : ScenesKept s t) : SpanKept stays f s.store t.store := .of_bare h.store

theorem PortMove.span {s t : State} (h : PortMove s t) : SpanKept stays f s.store t.store := by
  rw [h]
  exact .refl _

theorem core_flagScene (first last : Int) (flag : Bool) (x : Scene) : (flagScene first last flag x).core = x.core := by
  unfold flagScene
  split <;> rfl

/-- A change of flags moves no scene, and a lock order takes no lock away (R15, R16). -/
theorem SpanKept.flagRange (first last : Int) (flag : Bool) (hstays : stays → flag = true) (store : List Scene) :
    SpanKept stays f store (flagRange first last flag store) := by
  intro x p hx hl
  have hstart (y : Scene) : (flagScene first last flag y).start = y.start := by unfold flagScene; split <;> rfl
  have hpred : (p.map (flagScene first last flag)).map Scene.core = p.map Scene.core := by
    rw [Option.map_map]
    exact congrArg (p.map ·) (funext (core_flagScene first last flag))
  refine ⟨_, _, ?_, fun h => ?_, core_flagScene first last flag x, fun _ => hpred⟩
  · rw [flagRange_eq_map, lookup_map hstart, hx, Option.map_some]
  · rw [flagScene_locked, hstays h, hl, ite_self]

/-- The scene of a frame stays its scene when other records go. -/
theorem sceneAt_of_subset {g : Int} {store rest : List Scene} (h : StartsRise store) (h' : StartsRise rest)
    (hsub : ∀ y ∈ rest, y ∈ store) (hkeep : ∀ x, sceneAt g store = some x → x ∈ rest) :
    sceneAt g rest = sceneAt g store := by
  cases hx : sceneAt g store with
  | none => exact (sceneAt_eq_none h').mpr fun y hy => (sceneAt_eq_none h).mp hx y (hsub y hy)
  | some x =>
    obtain ⟨-, hle, hmax⟩ := (sceneAt_eq_some h).mp hx
    exact (sceneAt_eq_some h').mpr ⟨hkeep x hx, hle, fun y hy => hmax y (hsub y hy)⟩

/-- A frame keeps its locked scene when the scene of the frame stays and, for one that dissolves, so does the scene below it. -/
theorem SpanKept.of_sceneAt {store rest : List Scene} (h : StartsRise store) (h' : StartsRise rest)
    (hspan : ∀ p x n, ⟨p, x, n⟩ ∈ placed store → Placed.covers ⟨p, x, n⟩ f = true → x.locked = true →
      sceneAt f store = some x → p = sceneAt (x.start - 1) store →
      sceneAt f rest = some x ∧ (x.transition.dissolves = true → sceneAt (x.start - 1) rest = p)) :
    SpanKept stays f store rest := by
  intro x p hx hl
  obtain ⟨n, hplaced, hcovers⟩ := (lookup_eq_some h).mp hx
  rw [lookup_eq f h, Option.map_eq_some_iff] at hx
  obtain ⟨z, hz, hpair⟩ := hx
  cases hpair
  obtain ⟨hstay, hpred⟩ := hspan _ _ n hplaced hcovers hl hz rfl
  refine ⟨x, sceneAt (x.start - 1) rest, ?_, fun _ => hl, rfl, fun hd => by rw [hpred hd]⟩
  rw [lookup_eq f h', hstay, Option.map_some]

/-- Records that go leave the frames of the locked scenes that stay, when the predecessors of those that dissolve stay too. -/
theorem SpanKept.of_sublist {store rest : List Scene} (h : StartsRise store) (hsub : rest.Sublist store)
    (hkeep : ∀ y ∈ placed store, y.scene.locked = true →
      y.scene ∈ rest ∧ (y.scene.transition.dissolves = true → ∀ q, y.pred = some q → q ∈ rest)) :
    SpanKept stays f store rest := by
  have h' : StartsRise rest := h.sublist hsub
  have hmem (y : Scene) (hy : y ∈ rest) : y ∈ store := hsub.subset hy
  refine .of_sceneAt h h' fun p x n hplaced _ hl hx hp => ?_
  obtain ⟨hstay, hpred⟩ := hkeep ⟨p, x, n⟩ hplaced hl
  constructor
  · rw [← hx]
    exact sceneAt_of_subset h h' hmem fun z hz => by cases hx.symm.trans hz; exact hstay
  · intro hd
    rw [hp]
    exact sceneAt_of_subset h h' hmem fun q hq => hpred hd q (hp.trans hq)

/-- A put that span protection allows leaves a locked scene's frame to it (R9, R12). -/
theorem SpanKept.putRecord {store : List Scene} (h : StartsRise store) (r : RawScene) :
    SpanKept stays f store (putRecord store r) := by
  obtain he | ⟨he, -, hprot, -⟩ := putRecord_cases store r <;> rw [he]
  · exact .refl store
  have h' : StartsRise (insertScene r.stored store) := startsRise_insertScene h
  have hother (y : Scene) (hy : y.start ≠ r.start) : y ∈ insertScene r.stored store ↔ y ∈ store := by
    rw [mem_insertScene h]
    constructor
    · rintro (rfl | ⟨hmem, -⟩)
      · exact absurd rfl hy
      · exact hmem
    · exact fun hmem => .inr ⟨hmem, hy⟩
  refine .of_sceneAt h h' fun p x n hplaced hcovers hl hx hp => ?_
  obtain ⟨hspan, hguard⟩ := not_putProtected (List.any_eq_false.mp hprot) hplaced hl
  obtain ⟨-, hnext⟩ := covers_iff.mp hcovers
  constructor
  · rw [← hx]
    refine sceneAt_of_agree h h' fun y hyf hy => hother y fun hstart => hspan (covers_iff.mpr ⟨?_, fun m hm => ?_⟩)
    · exact hstart ▸ hy x hx
    · have := hnext m hm
      omega
  · intro hd
    rw [hp]
    refine sceneAt_of_agree h h' fun y hyx hy => hother y fun hstart => hguard (guardsPred_iff.mpr ⟨hd, ?_, fun q hq => ?_⟩)
    · simp only
      omega
    · exact hstart ▸ hy q (hp.symm.trans hq)

theorem scene_mem_of_placed {store : List Scene} {y : Placed} (hy : y ∈ placed store) : y.scene ∈ store := by
  obtain ⟨i, hi, -⟩ := mem_placed.mp hy
  exact List.mem_of_getElem? hi

/-- The neighbours of the records of a store name each other. -/
theorem pred_of_mem_placed {store : List Scene} {y : Placed} (hy : y ∈ placed store) {q : Scene} (hq : y.pred = some q) :
    ∃ z ∈ placed store, z.scene = q ∧ z.succ = some y.scene := by
  obtain ⟨i, hi, hp, -⟩ := mem_placed.mp hy
  rw [hp] at hq
  cases i with
  | zero => cases hq
  | succ j => exact ⟨⟨predFrom none store j, q, store[j + 1]?⟩, mem_placed.mpr ⟨j, hq, rfl, rfl⟩, rfl, hi⟩

/-- A removal that span protection allows leaves a locked scene's frame to it (R9, R13). -/
theorem SpanKept.removeAt {store : List Scene} (h : StartsRise store) {g : Int} (hprot : removeProtected store g = false) :
    SpanKept stays f store (removeAt store g) := by
  refine .of_sublist h List.filter_sublist fun y hy hl => ?_
  obtain ⟨hstart, hpred⟩ := not_removeProtected hprot hy hl
  refine ⟨mem_removeAt.mpr ⟨scene_mem_of_placed hy, hstart⟩, fun hd q hq => ?_⟩
  obtain ⟨z, hz, rfl, -⟩ := pred_of_mem_placed hy hq
  exact mem_removeAt.mpr ⟨scene_mem_of_placed hz, hpred hd _ hq⟩

/-- A clear leaves the locked scenes their frames (R14). -/
theorem SpanKept.clearStore {store : List Scene} (h : StartsRise store) : SpanKept stays f store (clearStore store) := by
  have hstay (y : Placed) (hy : y ∈ placed store) (hk : y.kept = true) : y.scene ∈ Machine.clearStore store :=
    List.mem_map_of_mem (List.mem_filter.mpr ⟨hy, hk⟩)
  refine .of_sublist h (clearStore_sublist store) fun y hy hl => ⟨hstay y hy (kept_iff.mpr (.inl hl)), fun hd q hq => ?_⟩
  obtain ⟨z, hz, rfl, hsucc⟩ := pred_of_mem_placed hy hq
  exact hstay z hz (kept_iff.mpr (.inr (.inr ⟨y.scene, hsucc, hl, hd⟩)))

/-! ### What the commands keep of it -/

theorem ite_span {p : Prop} [Decidable p] {store : List Scene} {t u : State} (ht : SpanKept stays f store t.store)
    (hu : SpanKept stays f store u.store) : SpanKept stays f store (if p then t else u).store := by
  split <;> assumption

theorem withOrder_span {code : BitVec 8} {s : State} {take : OrderBlock → State}
    (h : ∀ b, SpanKept stays f s.store (take b).store) : SpanKept stays f s.store (withOrder code s take).store := by
  obtain he | ⟨b, -, he⟩ := withOrder_cases code s take <;> rw [he]
  · exact .refl _
  · exact h b

theorem complete_span {isKind : AccessKind → Bool} {s : State} {live : Access → State → State}
    (h : ∀ a t, t.store = s.store → SpanKept stays f s.store (live a t).store) :
    SpanKept stays f s.store (complete isKind s live unused).store := by
  obtain he | ⟨a, -, -, ⟨-, he⟩ | ⟨-, he⟩ | ⟨-, he⟩⟩ := complete_cases isKind s live unused <;> rw [he]
  · exact .refl _
  · exact h a _ rfl
  · exact .refl _
  · exact .refl _

theorem takeRemoveScene_span (b : OrderBlock) {s : State} (h : StartsRise s.store) :
    SpanKept stays f s.store (takeRemoveScene b s).store := by
  refine ite_span (.refl _) (ite_span (.refl _) ?_)
  split
  · exact .refl _
  · rename_i hprot
    exact .removeAt h (by simpa using hprot)

theorem takeLoadScenes_span (b : OrderBlock) {s : State} (h : StartsRise s.store) :
    SpanKept stays f s.store (takeLoadScenes b s).store := by
  refine ite_span (.refl _) (ite_span (.refl _) ?_)
  cases flagCode (param b 18 1) with
  | none => exact .refl _
  | some replace =>
    cases replace with
    | false => exact .refl _
    | true => exact .clearStore h

theorem afterSceneFetch_span (record : BitVec 512) {s : State} (h : StartsRise s.store) :
    SpanKept stays f s.store (afterSceneFetch record s).store := by
  unfold afterSceneFetch
  obtain he | ⟨b, p, -, he⟩ := withProgress_cases s _ <;> rw [he]
  · exact .refl _
  cases p with
  | fetchScene o =>
    simp only [putFetched_eq]
    exact .putRecord h _
  | _ => exact .refl _

theorem afterLoadFetch_span (record : BitVec 512) {s : State} (h : StartsRise s.store) :
    SpanKept stays f s.store (afterLoadFetch record s).store := by
  unfold afterLoadFetch
  obtain he | ⟨b, p, -, he⟩ := withProgress_cases s _ <;> rw [he]
  · exact .refl _
  cases p with
  | fetchLoad run =>
    simp only [nextLoad_eq]
    exact .putRecord h _
  | _ => exact .refl _

theorem afterLookFetch_store (record : BitVec 256) (s : State) : (afterLookFetch record s).store = s.store := by
  unfold afterLookFetch
  obtain he | ⟨b, p, -, he⟩ := withProgress_cases s _ <;> rw [he]
  cases p with
  | fetchLook i o =>
    simp only [putLook]
    split <;> rfl
  | _ => rfl

end

/-- No command but a power-on and a board reset takes a locked scene's frame from it, and UNLOCK SCENES alone unlocks it. -/
theorem exec_span {c : Instr} {s : State} (h : StartsRise s.store) (hpower : c ≠ .powerOnReset) (hboard : c ≠ .boardReset)
    (f : Int) : ∃ t, exec c s = .next t ∧ SpanKept (c ≠ .unlockScenes) f s.store t.store := by
  cases hquiet : touchesGrade c with
  | false =>
    obtain ⟨t, ht, hsources⟩ := exec_quiet hquiet s
    exact ⟨t, ht, .of_eq (congrArg Prod.fst hsources)⟩
  | true =>
    cases c with
    | powerOnReset => exact absurd rfl hpower
    | boardReset => exact absurd rfl hboard
    | removeScene => exact ⟨_, rfl, withOrder_span (takeRemoveScene_span · h)⟩
    | clearScenes => exact ⟨_, rfl, withOrder_span fun b => ite_span (.refl _) (.clearStore h)⟩
    | loadScenes => exact ⟨_, rfl, withOrder_span (takeLoadScenes_span · h)⟩
    | lockScenes => exact ⟨_, rfl, withOrder_span fun b => ite_span (.refl _) (.flagRange _ _ true (fun _ => rfl) _)⟩
    | unlockScenes =>
      exact ⟨_, rfl, withOrder_span fun b => ite_span (.refl _) (.flagRange _ _ false (fun hno => absurd rfl hno) _)⟩
    | setHouseArea => exact ⟨_, rfl, withOrder_span fun b => ite_span (.refl _) (ite_span (.refl _) (ite_span (.refl _) (.refl _)))⟩
    | clearHouseLooks => exact ⟨_, rfl, withOrder_span fun b => ite_span (.refl _) (ite_span (.refl _) (.refl _))⟩
    | setLight => exact ⟨_, rfl, withOrder_span fun b => (takeSetLight_kept b s).span⟩
    | sceneFetchComplete record =>
      exact ⟨_, rfl, complete_span fun _ t ht => ht ▸ afterSceneFetch_span record (ht ▸ h)⟩
    | loadRecordFetchComplete record =>
      exact ⟨_, rfl, complete_span fun _ t ht => ht ▸ afterLoadFetch_span record (ht ▸ h)⟩
    | lookFetchComplete record =>
      exact ⟨_, rfl, complete_span fun _ t ht => .of_eq ((afterLookFetch_store record t).trans ht)⟩
    | runWritten0 => exact ⟨_, rfl, ite_span (haltPart_kept .order s).span (.refl _)⟩
    | softReset => exact ⟨_, rfl, .refl _⟩
    | fieldEvent p order => exact ⟨_, rfl, (fieldStep_kept p false order s).span⟩
    | referenceWatchExpiry order => exact ⟨_, rfl, ite_span (.refl _) (fieldStep_kept _ true order s).span⟩
    | standInField order => exact ⟨_, rfl, ite_span (fieldStep_kept _ true order s).span (.refl _)⟩
    | lightSampleEvent reading => exact ⟨_, rfl, (takeReading_kept reading.toNat (blankOutput s)).span⟩
    | enterRest => exact ⟨_, rfl, ite_span (.refl _) (.refl _)⟩
    | busError => exact ⟨_, rfl, (busErrorNow_kept s).span⟩
    | _ => cases hquiet

/-! ### The looks under an approval (R29, R31, R36) -/

/-- A change that does not erase the store leaves the grade and the parent of every look under an approval. -/
theorem SceneChange.approvedLook_kept {s t : State} (hc : SceneChange s t) (hopen : PutsOpenLook s) (hstore : t.store ≠ [])
    {i : Fin 64} (hi : (lookAt s.table i).locks ≠ 0) :
    (lookAt t.table i).grade = (lookAt s.table i).grade ∧ (lookAt t.table i).parent = (lookAt s.table i).parent := by
  have same (h : t.table = s.table) :
      (lookAt t.table i).grade = (lookAt s.table i).grade ∧ (lookAt t.table i).parent = (lookAt s.table i).parent := by
    rw [h]
    exact ⟨rfl, rfl⟩
  cases hc with
  | kept hk => exact same hk.table
  | put _ _ htable => exact same htable
  | removed _ _ _ htable => exact same htable
  | cleared _ htable => exact same htable
  | lookAsked _ _ _ _ _ htable => exact same htable
  | locked _ _ _ htable => rw [htable, lookAt_countLocks]; exact ⟨rfl, rfl⟩
  | unlocked _ _ _ htable => rw [htable, lookAt_countLocks]; exact ⟨rfl, rfl⟩
  | houseSet _ _ _ htable => rw [htable]; exact ⟨rfl, rfl⟩
  | lookPut j g parent hasked _ _ htable =>
    obtain ⟨-, -, hfree⟩ := (putsOpenLook_iff s).mp hopen j hasked
    have hij : i ≠ j := fun h => hi (h ▸ hfree)
    rw [htable, lookAt_writeLook]
    simp only [hij, if_false, and_self]
  | houseCleared hlocked _ htable =>
    have hhouse : ¬ isHouse s.table i = true := fun h =>
      List.any_eq_false.mp hlocked i (mem_houseLooks.mpr h) (by simpa using Nat.pos_of_ne_zero hi)
    obtain ⟨-, hgrade, hparent⟩ := lookAt_clearHouse_eq s.table i
    rw [htable, hgrade, hparent, if_neg hhouse, if_neg hhouse]
    exact ⟨rfl, rfl⟩
  | erased hempty _ => exact absurd hempty hstore

/-! ### The grade of a locked scene's frame (R83) -/

section
variable {t u : LookTable}

/-- A composed grade stays when the looks of its chain keep grade and parent (R70). -/
theorem composed_congr {x : Scene}
    (h : ∀ i ∈ lookChain t x.look, (lookAt u i).grade = (lookAt t i).grade ∧ (lookAt u i).parent = (lookAt t i).parent) :
    composed u x = composed t x := by
  unfold composed
  rw [lookChain_congr x.look fun i hi => (h i hi).2]
  exact List.foldl_ext _ _ _ fun g i hi => by rw [(h i hi).1]

theorem sceneGrade_congr {x : Scene}
    (h : ∀ i ∈ lookChain t x.look, (lookAt u i).grade = (lookAt t i).grade ∧ (lookAt u i).parent = (lookAt t i).parent)
    (d : Int) : sceneGrade u x d = sceneGrade t x d := by
  simp only [sceneGrade, composed_congr h]

/-- A frame's grade stays when the looks that its scene depends on keep grade and parent (R10). -/
theorem frameGrade_of_looks {x : Placed}
    (h : ∀ i ∈ dependsOn t x, (lookAt u i).grade = (lookAt t i).grade ∧ (lookAt u i).parent = (lookAt t i).parent) (f : Int) :
    frameGrade u x.scene x.pred f = frameGrade t x.scene x.pred f := by
  have hown (d : Int) : sceneGrade u x.scene d = sceneGrade t x.scene d :=
    sceneGrade_congr (fun i hi => h i (mem_dependsOn.mpr (.inl hi))) d
  cases htrans : x.scene.transition with
  | cut => simp only [frameGrade, htrans, hown]
  | dissolve n =>
    have hd : x.scene.transition.dissolves = true := by rw [htrans]; rfl
    have hout : outgoing u x.scene x.pred = outgoing t x.scene x.pred := by
      cases hp : x.pred with
      | none => rfl
      | some p => exact sceneGrade_congr (fun i hi => h i (mem_dependsOn.mpr (.inr ⟨hd, p, hp, hi⟩))) _
    simp only [frameGrade, htrans, hown, hout]

end

/-- Settles O59: span protection keeps the frame's scene and its predecessor, and the approvals keep the looks. -/
theorem lockedSceneKeepsItsGrade : Obligations.LockedSceneKeepsItsGrade := by
  unfold Obligations.LockedSceneKeepsItsGrade
  intro s t c f x p hstore _ hlocks hopen hexec hpower hboard hx hl
  obtain ⟨t', ht', hspan⟩ := exec_span hstore.startsRise hpower hboard f
  cases ht'.symm.trans hexec
  obtain ⟨y, q, hy, hstays, hcore, hpred⟩ := hspan x p hx hl
  have hstart : y.start = x.start := (congrArg Scene.start hcore :)
  have hnumber : y.number = x.number := (congrArg Scene.number hcore :)
  have hnegative : y.negative = x.negative := (congrArg Scene.negative hcore :)
  refine ⟨y, q, hy, hstays, hstart, hnumber, hnegative, ?_⟩
  obtain ⟨t'', ht'', hchange⟩ := exec_sceneChange c s
  cases ht''.symm.trans hexec
  have hne : t.store ≠ [] := fun h => by rw [h] at hy; cases hy
  obtain ⟨n, hplaced, -⟩ := (lookup_eq_some hstore.startsRise).mp hx
  calc frameGrade t.table y q f
      = frameGrade t.table x p f := frameGrade_congr t.table f hcore hpred
    _ = frameGrade s.table x p f :=
      frameGrade_of_looks (x := ⟨p, x, n⟩)
        (fun i hi => hchange.approvedLook_kept hopen hne (locks_ne_zero hlocks hplaced hl hi)) f

end Sys2Proof.Machine
end

section
/-!
PROOF. FrameGrade: the grade of a frame: look chains, the composed grade, trims and dissolves (R26, R70, R72 to R77).
-/
namespace Sys2Proof.Machine

/-! ### Chains go up level by level (R26) -/

theorem LevelsOk.level_le_of_mem_chain {t : LookTable} (h : LevelsOk t) {n : Nat} {i j : Fin 64} (hj : j ∈ chain t n i) :
    (lookAt t j).level ≤ (lookAt t i).level := by
  induction n generalizing i with
  | zero => cases hj
  | succ n ih =>
    by_cases hi : i = 0
    · simp [chain, hi] at hj
    · simp only [chain, hi, if_false, List.mem_cons] at hj
      rcases hj with rfl | hj
      · exact le_rfl
      · by_cases hp : (lookAt t i).parent = 0
        · rw [hp] at hj
          cases n <;> simp [chain] at hj
        · exact (ih hj).trans (h.down i hi hp).le

theorem LevelsOk.nodup_chain {t : LookTable} (h : LevelsOk t) (n : Nat) (i : Fin 64) : (chain t n i).Nodup := by
  induction n generalizing i with
  | zero => exact .nil
  | succ n ih =>
    by_cases hi : i = 0
    · simp [chain, hi]
    · simp only [chain, hi, if_false, List.nodup_cons]
      refine ⟨fun hmem => ?_, ih _⟩
      by_cases hp : (lookAt t i).parent = 0
      · rw [hp] at hmem
        cases n <;> simp [chain] at hmem
      · exact absurd (h.level_le_of_mem_chain hmem) (Nat.not_le.mpr (h.down i hi hp))

/-- A look's chain is as long as its level (R26, R27). -/
theorem LooksOk.length_lookChain {t : LookTable} (h : LooksOk t) (i : Fin 64) :
    (lookChain t i).length = (lookAt t i).level := by
  by_cases hi : i = 0
  · rw [hi, lookChain_zero, h.zero]
    rfl
  · exact h.levels.length_chain 63 hi ((h.level_le i).trans (by decide))

/-- Each look of a chain is composed onto the grade so far (R70). -/
theorem composed_take_succ (t : LookTable) (x : Scene) {k : Nat} {i : Fin 64} (hi : (lookChain t x.look)[k]? = some i) :
    ((lookChain t x.look).take (k + 1)).foldl (fun g i => composeLook g (lookAt t i).grade) x.own
      = composeLook (((lookChain t x.look).take k).foldl (fun g i => composeLook g (lookAt t i).grade) x.own)
          (lookAt t i).grade := by
  rw [List.take_add_one, hi, List.foldl_append]
  rfl

/-! ### Trims (R72) -/

/-- The trims at and after a key are those of the run that begins with it; `b` stands for the key before the list. -/
theorem trimFrom_drop (chan : Rgb Int → Int) {d : Int} {b k : TrimKey} {keys : List TrimKey} {i : Nat}
    (h : keysRise b.offset keys = true) (hi : (b :: keys)[i]? = some k) (hd : (k.offset : Int) ≤ d) :
    trimFrom chan b.offset (chan b.trim) d keys = trimFrom chan k.offset (chan k.trim) d (keys.drop i)
      ∧ keysRise k.offset (keys.drop i) = true := by
  induction i generalizing b keys with
  | zero =>
    cases hi
    exact ⟨rfl, h⟩
  | succ i ih =>
    cases keys with
    | nil => cases hi
    | cons c keys =>
      simp only [keysRise, Bool.and_eq_true, decide_eq_true_eq] at h
      have hi : (c :: keys)[i]? = some k := hi
      have hck : c.offset ≤ k.offset := by
        rcases List.mem_cons.mp (List.mem_of_getElem? hi) with rfl | hk
        · exact le_rfl
        · exact (((keysRise_iff ..).mp h.2).1 k hk).le
      have hpast : ¬ d < c.offset := by omega
      rw [trimFrom, if_neg hpast]
      exact ih h.2 hi

/-- Where a run begins, its trim is that of its first key. -/
theorem trimFrom_start (chan : Rgb Int → Int) {o : Nat} (v : Int) {keys : List TrimKey} (h : keysRise o keys = true) :
    trimFrom chan o v o keys = v := by
  cases keys with
  | nil => rfl
  | cons k keys =>
    simp only [keysRise, Bool.and_eq_true, decide_eq_true_eq] at h
    rw [trimFrom, if_pos (by omega)]
    simp

/-- The trims between two neighbouring keys lie on the straight line through them. -/
theorem trimFrom_between (chan : Rgb Int → Int) {d : Int} {b k l : TrimKey} {keys : List TrimKey} {i : Nat}
    (h : keysRise b.offset keys = true) (hi : (b :: keys)[i]? = some k) (hl : keys[i]? = some l) (hd : (k.offset : Int) ≤ d)
    (hdl : d < l.offset) :
    trimFrom chan b.offset (chan b.trim) d keys
      = chan k.trim + (chan l.trim - chan k.trim) * (d - k.offset) / ((l.offset : Int) - k.offset) := by
  obtain ⟨hlen, hget⟩ := List.getElem?_eq_some_iff.mp hl
  rw [(trimFrom_drop chan h hi hd).1, List.drop_eq_getElem_cons hlen, hget, trimFrom, if_pos hdl]

/-- The implicit key before a scene's own: offset 0, without trim (R72). -/
def implicitKey : TrimKey := ⟨0, ⟨0, 0, 0⟩⟩

theorem trims_of_chans {x : Scene} {d : Int} {v : Rgb Int}
    (hr : trimFrom Rgb.r implicitKey.offset implicitKey.trim.r d x.keys = v.r)
    (hg : trimFrom Rgb.g implicitKey.offset implicitKey.trim.g d x.keys = v.g)
    (hb : trimFrom Rgb.b implicitKey.offset implicitKey.trim.b d x.keys = v.b) : trims x d = v := by
  have heq : trims x d = ⟨v.r, v.g, v.b⟩ := by
    rw [← hr, ← hg, ← hb]
    rfl
  exact heq

section
variable {x : Scene} {d : Int} {i : Nat} {k : TrimKey} (h : keysRise 0 x.keys = true)
include h

theorem trims_at_key (hi : x.keys[i]? = some k) (hd : d = k.offset) : trims x d = k.trim := by
  have hchan (chan : Rgb Int → Int) :
      trimFrom chan implicitKey.offset (chan implicitKey.trim) d x.keys = chan k.trim := by
    obtain ⟨hrun, hrise⟩ := trimFrom_drop chan (b := implicitKey) (i := i + 1) h hi hd.ge
    rw [hrun, hd, trimFrom_start chan _ hrise]
  exact trims_of_chans (hchan _) (hchan _) (hchan _)

theorem trims_after_last (hi : x.keys[i]? = some k) (hd : (k.offset : Int) ≤ d) (hlast : x.keys.length = i + 1) :
    trims x d = k.trim := by
  have hchan (chan : Rgb Int → Int) :
      trimFrom chan implicitKey.offset (chan implicitKey.trim) d x.keys = chan k.trim := by
    rw [(trimFrom_drop chan (b := implicitKey) (i := i + 1) h hi hd).1, List.drop_eq_nil_of_le hlast.le, trimFrom]
  exact trims_of_chans (hchan _) (hchan _) (hchan _)

theorem trims_between {b : TrimKey} (hb : (implicitKey :: x.keys)[i]? = some b) (hi : x.keys[i]? = some k)
    (hd : (b.offset : Int) ≤ d) (hdk : d < k.offset) :
    trims x d
      = b.trim.zip (fun u v => u + (v - u) * (d - b.offset) / ((k.offset : Int) - b.offset)) k.trim := by
  have hchan (chan : Rgb Int → Int) := trimFrom_between chan (b := implicitKey) h hb hi hd hdk
  exact trims_of_chans (hchan _) (hchan _) (hchan _)

end

/-! ### Dissolves (R74 to R77) -/

theorem frameGrade_cut {x : Scene} (h : x.transition = .cut) (t : LookTable) (p : Option Scene) (f : Int) :
    frameGrade t x p f = sceneGrade t x (f - x.start) := by
  simp only [frameGrade, h]

theorem frameGrade_dissolve {x : Scene} {n : Nat} (h : x.transition = .dissolve n) (t : LookTable) (p : Option Scene)
    (f : Int) :
    frameGrade t x p f
      = if f - x.start < n then
          blendGrade (weight (f - x.start) n) (outgoing t x p) (sceneGrade t x (f - x.start))
        else sceneGrade t x (f - x.start) := by
  simp only [frameGrade, h]

/-- The weights of a dissolve lie between 0 and 255 (R76). -/
theorem weight_range {d : Int} {n : Nat} (hd : 0 ≤ d) (hdn : d < n) : 0 ≤ weight d n ∧ weight d n ≤ 255 := by
  have hpos : (0 : Int) < n + 1 := by omega
  have hlt : weight d n < 256 := Int.ediv_lt_of_lt_mul hpos (by omega)
  exact ⟨Int.ediv_nonneg (by omega) hpos.le, by omega⟩

/-- The first weight of a dissolve of at most 255 frames is above 0 already. -/
theorem weight_pos {d : Int} {n : Nat} (hd : 0 ≤ d) (hn : n ≤ 255) : 1 ≤ weight d n :=
  Int.le_ediv_of_mul_le (by omega) (by omega)

/-- A blend lies between the two values it blends (R77). -/
theorem blend_between {w : Int} (h0 : 0 ≤ w) (h256 : w ≤ 256) (u v : Int) :
    min u v ≤ blend w u v ∧ blend w u v ≤ max u v := by
  unfold blend
  rcases le_total u v with huv | huv
  · have hlow : 0 ≤ (v - u) * w / 256 := Int.ediv_nonneg (mul_nonneg (by omega) h0) (by decide)
    have hhigh : (v - u) * w / 256 ≤ v - u :=
      Int.ediv_le_of_le_mul (by decide) (mul_le_mul_of_nonneg_left h256 (by omega))
    omega
  · have hlow : v - u ≤ (v - u) * w / 256 :=
      Int.le_ediv_of_mul_le (by decide) (mul_le_mul_of_nonpos_left h256 (by omega))
    have hhigh : (v - u) * w / 256 ≤ 0 :=
      Int.ediv_le_of_le_mul (by decide) (by simpa using mul_nonpos_of_nonpos_of_nonneg (show v - u ≤ 0 by omega) h0)
    omega

/-- Settles O34: chains by levels, trims channel by channel, and the rest read off the definitions. -/
theorem frameGradeInterpolates : Obligations.FrameGradeInterpolates := by
  unfold Obligations.FrameGradeInterpolates
  refine ⟨fun t h i => ⟨h.length_lookChain i, h.levels.nodup_chain 63 i, fun hi => ?_⟩, fun x d hrise hd => ⟨fun hnil => ?_, ?_⟩,
    fun t x p f => ⟨⟨rfl, ?_, fun k i hi => ?_⟩, fun d => rfl, fun hcut => frameGrade_cut hcut t p f, fun n hn => ⟨fun hf => ?_,
      fun hle hf => ?_⟩⟩, fun d n u v hd hdn hn => ?_⟩
  · exact lookChain_eq h.levels.pos (fun i => (h.level_le i).trans (by decide)) h.levels.down hi
  · rw [trims, hnil]
    rfl
  · intro i k hi before
    refine ⟨trims_at_key hrise hi, trims_after_last hrise hi, trims_between hrise ?_ hi⟩
    cases i with
    | zero => rfl
    | succ j =>
      obtain ⟨hlen, -⟩ := List.getElem?_eq_some_iff.mp hi
      have hbefore : x.keys[j]? = some before := by simp [before, List.getElem?_eq_getElem (Nat.lt_of_succ_lt hlen)]
      exact hbefore
  · simp only [List.take_length]
    rfl
  · exact composed_take_succ t x hi
  · rw [frameGrade_dissolve hn, if_neg (by omega)]
  · rw [frameGrade_dissolve hn, if_pos (by omega)]
    cases p <;> rfl
  · obtain ⟨hlow, hhigh⟩ := weight_range hd hdn
    exact ⟨⟨weight_pos hd hn, hhigh⟩, blend_between hlow (by omega) u v⟩

end Sys2Proof.Machine
end

section
/-!
PROOF. GradeRanges: grades, light factor and light monitor stay in range at every step, and the wear only rises (R1, R24, R63, R82,
R99 to R104).
-/
namespace Sys2Proof.Machine

/-! ### Grades that are made (R6, R70 to R77) -/

/-- A clamped grade is in range (R6). -/
theorem gradeOk_clampGrade (g : Grade) : GradeOk (clampGrade g) := by
  have lift (v : Int) : -512 ≤ clamp (-512) 511 v ∧ clamp (-512) 511 v ≤ 511 := clamp_mem (by decide) v
  have gain (v : Int) : 0 ≤ clamp 0 4095 v ∧ clamp 0 4095 v ≤ 4095 := clamp_mem (by decide) v
  have mid (v : Int) : 128 ≤ clamp 128 896 v ∧ clamp 128 896 v ≤ 896 := clamp_mem (by decide) v
  exact ⟨lift _, lift _, lift _, gain _, gain _, gain _, mid _, mid _, mid _, clamp_mem (by decide) _⟩

/-- What comes of composing a look is clamped, whatever the grades are (R70). -/
theorem gradeOk_composeLook (g look : Grade) : GradeOk (composeLook g look) :=
  gradeOk_clampGrade
    ⟨g.lift.zip (· + ·) look.lift, g.gain.zip (· * · / 1024) look.gain, g.mid.zip (· + · - 512) look.mid,
      g.sat * look.sat / 1024⟩

theorem gradeOk_composed (t : LookTable) {x : Scene} (h : GradeOk x.own) : GradeOk (composed t x) := by
  unfold composed
  generalize lookChain t x.look = ids
  generalize x.own = g at h
  induction ids generalizing g with
  | nil => exact h
  | cons i ids ih => exact ih _ (gradeOk_composeLook ..)

theorem gradeOk_sceneGrade (t : LookTable) {x : Scene} (h : GradeOk x.own) (d : Int) : GradeOk (sceneGrade t x d) := by
  have gain (v : Int) : 0 ≤ clamp 0 4095 v ∧ clamp 0 4095 v ≤ 4095 := clamp_mem (by decide) v
  obtain ⟨hlr, hlg, hlb, -, -, -, hrest⟩ := gradeOk_composed t h
  exact ⟨hlr, hlg, hlb, gain _, gain _, gain _, hrest⟩

/-- A blend of two values of a range is in the range (R77). -/
theorem blend_mem {w lo hi u v : Int} (h0 : 0 ≤ w) (h256 : w ≤ 256) (hu : lo ≤ u ∧ u ≤ hi) (hv : lo ≤ v ∧ v ≤ hi) :
    lo ≤ blend w u v ∧ blend w u v ≤ hi := by
  have hbetween := blend_between h0 h256 u v
  omega

theorem gradeOk_blendGrade {w : Int} (h0 : 0 ≤ w) (h256 : w ≤ 256) {g h : Grade} (hg : GradeOk g) (hh : GradeOk h) :
    GradeOk (blendGrade w g h) := by
  have mix {lo hi u v : Int} (hu : lo ≤ u ∧ u ≤ hi) (hv : lo ≤ v ∧ v ≤ hi) : lo ≤ blend w u v ∧ blend w u v ≤ hi :=
    blend_mem h0 h256 hu hv
  obtain ⟨g1, g2, g3, g4, g5, g6, g7, g8, g9, g10⟩ := hg
  obtain ⟨h1, h2, h3, h4, h5, h6, h7, h8, h9, h10⟩ := hh
  exact ⟨mix g1 h1, mix g2 h2, mix g3 h3, mix g4 h4, mix g5 h5, mix g6 h6, mix g7 h7, mix g8 h8, mix g9 h9, mix g10 h10⟩

/-- The grade of a frame of a scene is in range when the scene's own grade and its predecessor's are (R82). -/
theorem gradeOk_frameGrade (t : LookTable) {x : Scene} {p : Option Scene} {f : Int} (hx : GradeOk x.own)
    (hp : ∀ q, p = some q → GradeOk q.own) (hf : x.start ≤ f) : GradeOk (frameGrade t x p f) := by
  have hown := gradeOk_sceneGrade t hx
  have hout : GradeOk (outgoing t x p) := by
    cases p with
    | none => exact gradeOk_unity
    | some q => exact gradeOk_sceneGrade t (hp q rfl) _
  cases htrans : x.transition with
  | cut => rw [frameGrade_cut htrans]; exact hown _
  | dissolve n =>
    rw [frameGrade_dissolve htrans]
    split
    · rename_i hd
      obtain ⟨hlow, hhigh⟩ := weight_range (by omega) hd
      exact gradeOk_blendGrade hlow (by omega) hout (hown _)
    · exact hown _

/-! ### Stored grades (R1, R24) -/

/-- Every grade of a store is in range. -/
abbrev OwnGradesOk (store : List Scene) : Prop := ∀ x ∈ store, GradeOk x.own

/-- Every grade of a look table is in range. -/
abbrev LookGradesOk (t : LookTable) : Prop := ∀ i : Fin 64, GradeOk (lookAt t i).grade

theorem mem_of_mem_insertScene {x y : Scene} {store : List Scene} (h : y ∈ insertScene x store) : y = x ∨ y ∈ store := by
  induction store with
  | nil => exact .inl (List.mem_singleton.mp h)
  | cons s rest ih =>
    simp only [insertScene] at h
    split at h
    · exact List.mem_cons.mp h
    · split at h
      · exact (List.mem_cons.mp h).imp id (List.mem_cons_of_mem _)
      · rcases List.mem_cons.mp h with rfl | h
        · exact .inr (List.mem_cons_self ..)
        · exact (ih h).imp id (List.mem_cons_of_mem _)

/-- Records changed one by one, none in its own grade, keep the grades. -/
theorem OwnGradesOk.map {store : List Scene} (h : OwnGradesOk store) {g : Scene → Scene} (hg : ∀ x, (g x).own = x.own) :
    OwnGradesOk (store.map g) := by
  intro x hx
  obtain ⟨y, hy, rfl⟩ := List.mem_map.mp hx
  rw [hg]
  exact h y hy

theorem OwnGradesOk.flagRange {store : List Scene} (h : OwnGradesOk store) (first last : Int) (flag : Bool) :
    OwnGradesOk (flagRange first last flag store) :=
  h.map (g := flagScene first last flag) fun x => by unfold flagScene; split <;> rfl

theorem OwnGradesOk.putRecord {store : List Scene} (h : OwnGradesOk store) (r : RawScene) : OwnGradesOk (putRecord store r) := by
  obtain he | ⟨he, -⟩ := putRecord_cases store r <;> rw [he]
  · exact h
  · intro y hy
    rcases mem_of_mem_insertScene hy with rfl | hy
    · exact gradeOk_clampGrade r.own
    · exact h y hy

/-- Every change keeps the stored scenes' grades in range. -/
theorem SceneChange.ownGradesOk {s t : State} (hc : SceneChange s t) (h : OwnGradesOk s.store) : OwnGradesOk t.store := by
  cases hc with
  | kept hk =>
    have hbare : OwnGradesOk (t.store.map Scene.bare) := hk.store ▸ h.map fun _ => rfl
    exact fun x hx => hbare x.bare (List.mem_map_of_mem hx)
  | put record hstore => exact hstore ▸ h.putRecord _
  | removed f _ hstore => exact hstore ▸ fun x hx => h x (List.mem_of_mem_filter hx)
  | cleared hstore => exact hstore ▸ fun x hx => h x ((clearStore_sublist _).subset hx)
  | locked first last hstore => exact hstore ▸ h.flagRange first last true
  | unlocked first last hstore => exact hstore ▸ h.flagRange first last false
  | lookAsked _ _ _ _ hstore => exact hstore ▸ h
  | lookPut _ _ _ _ _ hstore => exact hstore ▸ h
  | houseSet _ _ hstore => exact hstore ▸ h
  | houseCleared _ hstore => exact hstore ▸ h
  | erased hstore => rw [hstore]; exact fun x hx => nomatch hx

/-- Every change keeps the looks' grades in range. -/
theorem SceneChange.lookGradesOk {s t : State} (hc : SceneChange s t) (h : LookGradesOk s.table) : LookGradesOk t.table := by
  cases hc with
  | kept hk => exact hk.table ▸ h
  | put _ _ htable => exact htable ▸ h
  | removed _ _ _ htable => exact htable ▸ h
  | cleared _ htable => exact htable ▸ h
  | lookAsked _ _ _ _ _ htable => exact htable ▸ h
  | houseSet _ _ _ htable => rw [htable]; exact h
  | locked _ _ _ htable => exact fun i => by rw [htable, lookAt_countLocks]; exact h i
  | unlocked _ _ _ htable => exact fun i => by rw [htable, lookAt_countLocks]; exact h i
  | lookPut j g _ _ _ _ htable =>
    intro i
    rw [htable, lookAt_writeLook]
    simp only
    split
    · exact gradeOk_clampGrade g
    · exact h i
  | houseCleared _ _ htable =>
    intro i
    rw [htable, (lookAt_clearHouse_eq s.table i).2.1]
    split
    · exact gradeOk_unity
    · exact h i
  | erased _ htable =>
    intro i
    rcases htable with htable | htable <;> rw [htable]
    · rw [lookAt_reset]
      exact gradeOk_unity
    · rw [lookAt_unlockAll]
      exact h i

/-! ### Light samples and SET LIGHT (R100 to R105, R109) -/

theorem LightOk.setLowRun {l : Light} (h : LightOk l) {n : Nat} (hn : n ≤ 65535) : LightOk { l with lowRun := n } := by
  obtain ⟨hfloor, hsize, htarget, hlimit, hservice, hcount, hsum, hk, -, hwear, hrest⟩ := h
  exact ⟨hfloor, hsize, htarget, hlimit, hservice, hcount, hsum, hk, hn, hwear, hrest⟩

theorem LightOk.dropLowRun {l : Light} (h : LightOk l) : LightOk (dropLowRun l) := h.setLowRun (Nat.zero_le _)

theorem LightOk.setWear {l : Light} (h : LightOk l) {n : Nat} (hn : n ≤ Config.wearTop) : LightOk { l with wear := n } := by
  obtain ⟨hfloor, hsize, htarget, hlimit, hservice, hcount, hsum, hk, hlow, -, hrest⟩ := h
  exact ⟨hfloor, hsize, htarget, hlimit, hservice, hcount, hsum, hk, hlow, hn, hrest⟩

theorem lowReading_light (reading : Nat) (s : State) : LightKept s.light (lowReading reading s).light := by
  have hrun : LightKept s.light { s.light with lowRun := saturate s.light.lowRun } :=
    ⟨rfl, rfl, fun h => h.setLowRun (saturate_le _)⟩
  have hreported (l : Light) : LightKept l { l with lowReported := true } := ⟨rfl, rfl, id⟩
  unfold lowReading
  simp only
  split
  · rw [offer_light, raise_light]
    exact hrun.trans (hreported _)
  · exact hrun

theorem lowReading_grade (reading : Nat) (s : State) : (lowReading reading s).grade = s.grade := by
  unfold lowReading
  simp only
  split
  · rw [offer_grade, raise_grade]
  · rfl

theorem serviceCheck_grade (s : State) : (serviceCheck s).grade = s.grade := by
  unfold serviceCheck
  split
  · rw [offer_grade, raise_grade]
  · rfl

theorem serviceCheck_light (s : State) : LightKept s.light (serviceCheck s).light := by
  unfold serviceCheck
  split
  · rw [offer_light, raise_light]
    exact ⟨rfl, rfl, id⟩
  · exact .refl _

theorem factorOk_lightFactor (target sum n : Nat) : FactorOk (lightFactor target sum n) := by
  unfold lightFactor
  exact clamp_mem (by decide) _

theorem joinBlock_wear (reading : Nat) (l : Light) : (joinBlock reading l).wear = l.wear := by
  unfold joinBlock
  split <;> rfl

/-- A block that is full gives a new light factor, a block that is not leaves it (R103). -/
theorem factorOk_joinBlock (reading : Nat) {l : Light} (h : FactorOk l.k) : FactorOk (joinBlock reading l).k := by
  unfold joinBlock
  split
  · exact h
  · simp only
    exact factorOk_lightFactor ..

theorem LightOk.newFactor {l : Light} (h : LightOk l) {k : Int} (hk : FactorOk k) : LightOk { dropBlock l with k := k } := by
  obtain ⟨hfloor, hsize, htarget, hlimit, hservice, -, -, -, hlow, hwear, hrest⟩ := h
  exact ⟨hfloor, hsize, htarget, hlimit, hservice, isBlockSize_pos hsize, Nat.zero_le _, hk, hlow, hwear, hrest⟩

/-- An accepted reading is at most 4,094, so that a partial block's sum stays in its range (R99, R102). -/
theorem LightOk.joinBlock {l : Light} (h : LightOk l) {reading : Nat} (hreading : reading ≤ 4094) :
    LightOk (joinBlock reading l) := by
  unfold Machine.joinBlock
  split
  · rename_i hpart
    obtain ⟨hfloor, hsize, htarget, hlimit, hservice, -, hsum, hk, hlow, hwear, hrest⟩ := h
    have hsum' : l.blockSum + reading ≤ 4094 * (l.blockCount + 1) := by omega
    exact ⟨hfloor, hsize, htarget, hlimit, hservice, hpart, hsum', hk, hlow, hwear, hrest⟩
  · exact h.newFactor (factorOk_lightFactor ..)

/-- SET LIGHT in range writes values in range, and drops the block (R109). -/
theorem LightOk.setLightTo {l : Light} (h : LightOk l) {a : LightArgs} (ha : a.inRange = true) (hlimit : a.restLimit ≤ 65535) :
    LightOk (setLightTo a l) := by
  obtain ⟨-, -, -, -, -, -, -, hk, -, hwear, hrest⟩ := h
  simp only [LightArgs.inRange, Bool.and_eq_true, decide_eq_true_eq] at ha
  obtain ⟨⟨⟨⟨⟨⟨hfloor, hfloor'⟩, hsize⟩, htarget⟩, htarget'⟩, hservice⟩, hload⟩ := ha
  have hwear' : a.load.getD l.wear ≤ Config.wearTop := by
    cases hl : a.load with
    | none => exact hwear
    | some load => rwa [hl] at hload
  exact ⟨⟨hfloor, hfloor'⟩, hsize, ⟨htarget, htarget'⟩, hlimit, hservice, isBlockSize_pos hsize, Nat.zero_le _, hk,
    Nat.zero_le _, hwear', hrest⟩

theorem lightArgs_restLimit (b : OrderBlock) : (lightArgs b).restLimit ≤ 65535 := Nat.le_of_lt_succ (bitsOf_lt _ _ 16)

theorem lightOk_reset {w : Nat} (h : w ≤ Config.wearTop) : LightOk { Light.reset with wear := w } := by
  have hreset : LightOk Light.reset := by decide
  exact hreset.setWear h

/-! ### What a command does to the ranges -/

/-- The light monitor and the field grade in force. -/
def lamp (s : State) : Light × FieldGrade := (s.light, s.grade)

/-- From `s` to `t` the grade in force, the light factor and the light monitor stay in range. `rises` says when the wear does not
fall. -/
structure RangeStep (rises : Prop) (s t : State) : Prop where
  inForce : GradesOk s → GradeOk t.grade.grade ∧ FactorOk t.grade.k
  factor : FactorOk s.light.k → FactorOk t.light.k
  light : LightOk s.light → LightOk t.light
  wear : rises → s.light.wear ≤ Config.wearTop → s.light.wear ≤ t.light.wear

/-- A new grade in force in range, beside a move of the light monitor that leaves the light factor and the wear. -/
theorem LightKept.rangeStep {rises : Prop} {s t : State} (h : LightKept s.light t.light)
    (hgrade : GradesOk s → GradeOk t.grade.grade ∧ FactorOk t.grade.k) : RangeStep rises s t :=
  ⟨hgrade, fun hk => h.k ▸ hk, h.ok, fun _ _ => Nat.le_of_eq h.wear.symm⟩

/-- The grade in force stands. -/
theorem LightKept.rangeStep_of_grade {rises : Prop} {s t : State} (h : LightKept s.light t.light) (hgrade : t.grade = s.grade) :
    RangeStep rises s t :=
  h.rangeStep fun ⟨hown, hk, _⟩ => hgrade ▸ ⟨hown, hk⟩

theorem RangeStep.of_lamp {rises : Prop} {s t : State} (h : lamp t = lamp s) : RangeStep rises s t := by
  obtain ⟨hlight, hgrade⟩ : t.light = s.light ∧ t.grade = s.grade := by simpa [lamp] using h
  exact (LightKept.of_eq hlight).rangeStep_of_grade hgrade

theorem RangeStep.refl {rises : Prop} (s : State) : RangeStep rises s s := .of_lamp rfl

/-- What a step starts from is the light monitor, the grade in force, the scenes and the looks. -/
theorem RangeStep.of_source {rises : Prop} {r s t : State} (h : RangeStep rises r t)
    (hr : (lamp r, r.store, r.table) = (lamp s, s.store, s.table)) : RangeStep rises s t := by
  obtain ⟨⟨hlight, hgrade⟩, hstore, htable⟩ :
      (r.light = s.light ∧ r.grade = s.grade) ∧ r.store = s.store ∧ r.table = s.table := by simpa [lamp] using hr
  obtain ⟨hinForce, hfactor, hok, hwear⟩ := h
  rw [GradesOk, hlight, hgrade, hstore, htable] at hinForce
  rw [hlight] at hfactor hok hwear
  exact ⟨hinForce, hfactor, hok, hwear⟩

theorem ite_rangeStep {rises p : Prop} [Decidable p] {s t u : State} (ht : RangeStep rises s t) (hu : RangeStep rises s u) :
    RangeStep rises s (if p then t else u) := by
  split <;> assumption

theorem withOrder_rangeStep {rises : Prop} {code : BitVec 8} {s : State} {take : OrderBlock → State}
    (h : ∀ b, RangeStep rises s (take b)) : RangeStep rises s (withOrder code s take) := by
  obtain he | ⟨b, -, he⟩ := withOrder_cases code s take <;> rw [he]
  · exact .refl s
  · exact h b

/-! ### The orders on scenes and looks -/

theorem ite_lamp {p : Prop} [Decidable p] {s t u : State} (ht : lamp t = lamp s) (hu : lamp u = lamp s) :
    lamp (if p then t else u) = lamp s := by
  split <;> assumption

theorem withOrder_lamp {rises : Prop} {code : BitVec 8} {s : State} {take : OrderBlock → State}
    (h : ∀ b, lamp (take b) = lamp s) : RangeStep rises s (withOrder code s take) :=
  withOrder_rangeStep fun b => .of_lamp (h b)

theorem complete_lamp {rises : Prop} {isKind : AccessKind → Bool} {s : State} {live : Access → State → State}
    (h : ∀ a t, lamp (live a t) = lamp t) : RangeStep rises s (complete isKind s live unused) := by
  obtain he | ⟨a, -, -, ⟨-, he⟩ | ⟨-, he⟩ | ⟨-, he⟩⟩ := complete_cases isKind s live unused <;> rw [he]
  · exact .refl s
  · exact .of_lamp (h a _)
  · exact .of_lamp rfl
  · exact .of_lamp rfl

theorem takeLoadScenes_lamp (b : OrderBlock) (s : State) : lamp (takeLoadScenes b s) = lamp s := by
  refine ite_lamp rfl (ite_lamp rfl ?_)
  cases flagCode (param b 18 1) <;> rfl

theorem afterSceneFetch_lamp (record : BitVec 512) (s : State) : lamp (afterSceneFetch record s) = lamp s := by
  unfold afterSceneFetch
  obtain he | ⟨b, p, -, he⟩ := withProgress_cases s _ <;> rw [he]
  cases p with
  | fetchScene o =>
    simp only [putFetched_eq]
    rfl
  | _ => rfl

theorem afterLoadFetch_lamp (record : BitVec 512) (s : State) : lamp (afterLoadFetch record s) = lamp s := by
  unfold afterLoadFetch
  obtain he | ⟨b, p, -, he⟩ := withProgress_cases s _ <;> rw [he]
  cases p with
  | fetchLoad run =>
    simp only [nextLoad_eq]
    rfl
  | _ => rfl

theorem afterLookFetch_lamp (record : BitVec 256) (s : State) : lamp (afterLookFetch record s) = lamp s := by
  unfold afterLookFetch
  obtain he | ⟨b, p, -, he⟩ := withProgress_cases s _ <;> rw [he]
  cases p with
  | fetchLook i o =>
    simp only [putLook]
    split <;> rfl
  | _ => rfl

/-! ### Halts, the light monitor's commands and the field events -/

theorem haltPart_rangeStep {rises : Prop} (cause : HaltCause) (s : State) : RangeStep rises s (haltPart cause s) :=
  (haltLight_light s.light).rangeStep_of_grade rfl

theorem PortMove.lamp_eq {s t : State} (h : PortMove s t) : lamp t = lamp s := by
  rw [h]
  rfl

theorem busErrorNow_rangeStep {rises : Prop} (s : State) : RangeStep rises s (busErrorNow s) := by
  obtain ⟨u, hmove, he | he⟩ := busErrorNow_cases s <;> rw [he]
  · exact .of_lamp hmove.lamp_eq
  · obtain ⟨hlight, hgrade⟩ : u.light = s.light ∧ u.grade = s.grade := by simpa [lamp] using hmove.lamp_eq
    have hhalt : LightKept s.light (haltLight u.light) := (LightKept.of_eq hlight).trans (haltLight_light u.light)
    exact LightKept.rangeStep_of_grade hhalt hgrade

theorem haltGrade_mem (field : BitVec 32) : GradeOk (haltGrade field).grade ∧ FactorOk (haltGrade field).k :=
  have hk : FactorOk 4096 := by decide
  ⟨gradeOk_unity, hk⟩

/-- SET LIGHT can lower the wear, and nothing else of it is out of range (R109). -/
theorem takeSetLight_rangeStep (b : OrderBlock) (s : State) {rises : Prop} (hno : ¬ rises) :
    RangeStep rises s (takeSetLight b s) := by
  unfold takeSetLight
  simp only
  split
  · rename_i ha
    have hdecided := decideRest_light s
    have hgrade : (decideRest s).grade = s.grade := by
      unfold decideRest
      split <;> rfl
    exact ⟨fun ⟨hown, hk, _⟩ => hgrade ▸ ⟨hown, hk⟩, fun hk => hdecided.k ▸ hk,
      fun h => (hdecided.ok h).setLightTo ha (lightArgs_restLimit b), fun h => absurd h hno⟩
  · exact .of_lamp rfl

/-- An accepted reading joins the block and the wear, which stops at its top (R102 to R105). -/
theorem acceptedReading_rangeStep {rises : Prop} {reading : Nat} (hreading : reading ≤ 4094) (s : State) :
    RangeStep rises s (acceptedReading reading s) := by
  have hjoined : LightOk s.light → LightOk (joinBlock reading (dropLowRun s.light)) := fun h =>
    h.dropLowRun.joinBlock hreading
  have hchecked := serviceCheck_light
    { s with
      light := { joinBlock reading (dropLowRun s.light) with
        wear := min Config.wearTop ((joinBlock reading (dropLowRun s.light)).wear + reading) } }
  have hwear : (joinBlock reading (dropLowRun s.light)).wear = s.light.wear := joinBlock_wear ..
  have hgrade : (acceptedReading reading s).grade = s.grade := serviceCheck_grade _
  refine ⟨fun ⟨hown, hk, _⟩ => hgrade ▸ ⟨hown, hk⟩, fun hk => ?_, fun h => ?_, fun _ htop => ?_⟩
  · rw [acceptedReading, hchecked.k]
    exact factorOk_joinBlock reading (l := dropLowRun s.light) hk
  · exact hchecked.ok ((hjoined h).setWear (Nat.min_le_left ..))
  · rw [acceptedReading, hchecked.wear]
    simp only [hwear]
    omega

/-- The 12 bits of a reading hold at most 4,095, which is no reading (R99). -/
theorem takeReading_rangeStep {rises : Prop} {reading : Nat} (h : reading < 4096) (s : State) :
    RangeStep rises s (takeReading reading s) := by
  unfold takeReading
  refine ite_rangeStep (.refl s) ?_
  split
  · exact .refl s
  · exact ite_rangeStep ((lowReading_light reading s).rangeStep_of_grade (lowReading_grade reading s))
      (acceptedReading_rangeStep (by omega) s)

/-- A field event brings the grade of its frame, or the halt grade, into force (R65, R66, R69). -/
theorem fieldStep_rangeStep {rises : Prop} (p : Parity) (timer : Bool) (order : List FieldAct) (s : State) :
    RangeStep rises s (fieldStep p timer order s) := by
  obtain ⟨u, hin, hout⟩ := fieldStep_grades p timer order s
  have hdrawn : (gradeField u).light = u.light := by
    unfold gradeField
    split <;> rfl
  refine (hin.light.trans ((LightKept.of_eq hdrawn).trans hout.light)).rangeStep fun ⟨_, _, hk, hown, _⟩ => ?_
  rw [hout.grade]
  cases hrun : u.port.running with
  | false =>
    rw [gradeField_halted hrun]
    exact haltGrade_mem _
  | true =>
    rw [gradeField_running hrun]
    cases hlookup : lookup u.follower.record.frame s.store with
    | none =>
      rw [hin.noScene hlookup]
      exact ⟨gradeOk_unity, hk⟩
    | some r =>
      obtain ⟨x, q⟩ := r
      obtain ⟨hx, hle, hq⟩ := mem_of_lookup hlookup
      rw [hin.scene hlookup]
      exact ⟨gradeOk_frameGrade s.table (hown x hx) (fun y hy => hown y (hq y hy)) hle, hk⟩

/-- Every command keeps the grade in force and the light monitor in range, and the wear falls by SET LIGHT and a power-on reset
alone. -/
theorem exec_rangeStep (c : Instr) (s : State) :
    ∃ t, exec c s = .next t ∧ RangeStep (c ≠ .setLight ∧ c ≠ .powerOnReset) s t := by
  cases hquiet : touchesGrade c with
  | false =>
    obtain ⟨t, ht, hsources⟩ := exec_quiet hquiet s
    exact ⟨t, ht, .of_lamp (congrArg Prod.snd hsources)⟩
  | true =>
    cases c with
    | removeScene =>
      exact ⟨_, rfl, withOrder_lamp fun b => ite_lamp rfl (ite_lamp rfl (ite_lamp rfl rfl))⟩
    | clearScenes => exact ⟨_, rfl, withOrder_lamp fun b => ite_lamp rfl rfl⟩
    | loadScenes => exact ⟨_, rfl, withOrder_lamp (takeLoadScenes_lamp · s)⟩
    | lockScenes | unlockScenes => exact ⟨_, rfl, withOrder_lamp fun b => ite_lamp rfl rfl⟩
    | setHouseArea => exact ⟨_, rfl, withOrder_lamp fun b => ite_lamp rfl (ite_lamp rfl (ite_lamp rfl rfl))⟩
    | clearHouseLooks => exact ⟨_, rfl, withOrder_lamp fun b => ite_lamp rfl (ite_lamp rfl rfl)⟩
    | sceneFetchComplete record => exact ⟨_, rfl, complete_lamp fun _ => afterSceneFetch_lamp record⟩
    | loadRecordFetchComplete record => exact ⟨_, rfl, complete_lamp fun _ => afterLoadFetch_lamp record⟩
    | lookFetchComplete record => exact ⟨_, rfl, complete_lamp fun _ => afterLookFetch_lamp record⟩
    | setLight => exact ⟨_, rfl, withOrder_rangeStep fun b => takeSetLight_rangeStep b s fun h => h.1 rfl⟩
    | runWritten0 => exact ⟨_, rfl, ite_rangeStep (haltPart_rangeStep .order s) (.refl s)⟩
    | softReset => exact ⟨_, rfl, (haltLight_light s.light).rangeStep fun _ => haltGrade_mem _⟩
    | powerOnReset =>
      obtain ⟨hgrade, hk, hfactor, -⟩ := gradesOk_reset
      exact ⟨_, rfl, fun _ => ⟨hgrade, hk⟩, fun _ => hfactor, fun _ => lightOk_reset (Nat.zero_le _), fun h => absurd rfl h.2⟩
    | boardReset =>
      obtain ⟨hgrade, hk, hfactor, -⟩ := gradesOk_reset
      exact ⟨_, rfl, fun _ => ⟨hgrade, hk⟩, fun _ => hfactor, fun ⟨_, _, _, _, _, _, _, _, _, hwear, _⟩ => lightOk_reset hwear,
        fun _ _ => Nat.le_refl _⟩
    | fieldEvent p order => exact ⟨_, rfl, fieldStep_rangeStep p false order s⟩
    | referenceWatchExpiry order => exact ⟨_, rfl, ite_rangeStep (.refl s) (fieldStep_rangeStep _ true order s)⟩
    | standInField order => exact ⟨_, rfl, ite_rangeStep (fieldStep_rangeStep _ true order s) (.refl s)⟩
    | lightSampleEvent reading => exact ⟨_, rfl, (takeReading_rangeStep reading.isLt (blankOutput s)).of_source rfl⟩
    | enterRest => exact ⟨_, rfl, ite_rangeStep ((enterRestNow_light s).rangeStep_of_grade rfl) (.refl s)⟩
    | busError => exact ⟨_, rfl, busErrorNow_rangeStep s⟩
    | _ => cases hquiet

theorem step_rangeStep {s t : State} (h : step s = .next t) : ∃ rises, RangeStep rises s t := by
  unfold step at h
  split at h
  · cases h
    exact ⟨True, .of_lamp rfl⟩
  · rename_i c rest _
    obtain ⟨u, hu, hrange⟩ := exec_rangeStep c { s with pending := rest }
    cases hu.symm.trans h
    exact ⟨_, hrange.of_source rfl⟩

/-- Settles O55: every step makes one of the changes of the store and the looks, and keeps what is in force in range. -/
theorem gradesAndLightStayInRange : Obligations.GradesAndLightStayInRange := by
  unfold Obligations.GradesAndLightStayInRange
  refine ⟨fun s t h hnext => ?_, fun s t h hnext => ?_, fun s t c htop hlight hpower hexec => ?_⟩
  · obtain ⟨q, hchange⟩ := step_sceneChange hnext
    obtain ⟨_, hrange⟩ := step_rangeStep hnext
    obtain ⟨hgrade, hk⟩ := hrange.inForce h
    obtain ⟨-, -, hfactor, hown, hlook⟩ := h
    exact ⟨hgrade, hk, hrange.factor hfactor, hchange.ownGradesOk hown, hchange.lookGradesOk hlook⟩
  · obtain ⟨_, hrange⟩ := step_rangeStep hnext
    exact hrange.light h
  · obtain ⟨u, hu, hrange⟩ := exec_rangeStep c s
    cases hu.symm.trans hexec
    exact hrange.wear ⟨hlight, hpower⟩ htop

end Sys2Proof.Machine
end

section
/-!
PROOF. PicturePath: what a sample triple comes to: the stages, the tap's copy, and unity passage under the halt
grade (R88 to R97, R115).
-/
namespace Sys2Proof.Machine

/-! ### The measurement tap (R94, R115) -/

/-- No copy joins a measurement of another field, or none (R115). -/
theorem copyTap_of_field_ne {g : FieldGrade} {l : Level} (h : ∀ m, l.openMeas = some m → m.field ≠ g.field) (z : Rgb Int) :
    copyTap g z l = l := by
  unfold copyTap
  split
  · rfl
  · next m hm => exact if_neg (h m hm)

/-- A copy joins the open measurement of its field (R115). -/
theorem copyTap_of_field_eq {g : FieldGrade} {l : Level} {m : Measurement} (hm : l.openMeas = some m) (h : m.field = g.field)
    (z : Rgb Int) : copyTap g z l = { l with openMeas := some (takeCopy l.set g.rest z m) } := by
  simp only [copyTap, hm, if_pos h]

theorem tapTriple_halted {s : State} (h : s.picture.haltPassage = true) (z : Rgb Int) : tapTriple z s = s := if_pos h

theorem tapTriple_running {s : State} (h : s.picture.haltPassage = false) (z : Rgb Int) :
    tapTriple z s = { s with level := copyTap s.grade z s.level } := if_neg (by simp [h])

/-! ### A sample triple, with and without a copy taken -/

/-- A triple of which no copy is taken changes the output only. -/
theorem takeTriple_of_no_copy {s : State}
    (h : s.picture.haltPassage = true ∨ ∀ m, s.level.openMeas = some m → m.field ≠ s.grade.field) (x : Rgb Int) :
    takeTriple x s
      = { s with
          picture :=
            { s.picture with output := outputTriple s.picture.legalInForce s.grade.rest (gradedTriple s.grade x) } } := by
  have htap : (tapTriple (gradedTriple s.grade x) s).level = s.level := by
    cases hpassage : s.picture.haltPassage with
    | true => rw [tapTriple_halted hpassage]
    | false =>
      have hne := h.resolve_left (by simp [hpassage])
      rw [tapTriple_running hpassage, copyTap_of_field_ne hne]
  rw [takeTriple_eq, htap]

theorem takeTriple_of_copy {s : State} {m : Measurement} (hpassage : s.picture.haltPassage = false)
    (hm : s.level.openMeas = some m) (hfield : m.field = s.grade.field) (x : Rgb Int) :
    takeTriple x s
      = { s with
          level :=
            { s.level with openMeas := some (takeCopy s.level.set s.grade.rest (gradedTriple s.grade x) m) }
          picture :=
            { s.picture with output := outputTriple s.picture.legalInForce s.grade.rest (gradedTriple s.grade x) } } := by
  rw [takeTriple_eq, tapTriple_running hpassage, copyTap_of_field_eq hm hfield]

/-! ### Each stage keeps a code value under the halt grade (R97) -/

theorem clamp_of_mem {lo hi x : Int} (h : lo ≤ x ∧ x ≤ hi) : clamp lo hi x = x := by
  obtain ⟨hlo, hhi⟩ := h
  rw [clamp, if_neg (by omega), if_neg (by omega)]

theorem stageLight_unity {x : Int} (h : x ≤ 1023) : stageLight 4096 x = x := by
  unfold stageLight
  omega

theorem stageGain_unity {x : Int} (h : 0 ≤ x ∧ x ≤ 1023) : stageGain 1024 0 x = x := by
  have hkept : x * 1024 / 1024 + 0 = x := by omega
  rw [stageGain, hkept, clamp_of_mem h]

/-- The mid curve at 512 is straight: both of its branches are the identity (R92). -/
theorem stageMid_unity (y : Int) : stageMid 512 y = y := by
  unfold stageMid
  split <;> omega

/-- At 1024 each component keeps its distance from the luma, whatever the luma is (R93). -/
theorem stageSat_unity {z : Rgb Int} (hr : 0 ≤ z.r ∧ z.r ≤ 1023) (hg : 0 ≤ z.g ∧ z.g ≤ 1023) (hb : 0 ≤ z.b ∧ z.b ≤ 1023) :
    stageSat 1024 z = z := by
  have hkept (c : Int) : luma z + (c - luma z) * 1024 / 1024 = c := by omega
  simp only [stageSat, Rgb.map, hkept, clamp_of_mem hr, clamp_of_mem hg, clamp_of_mem hb]

theorem gradeComponent_haltGrade (field : BitVec 32) {x : Int} (h : 0 ≤ x ∧ x ≤ 1023) :
    gradeComponent (haltGrade field) 1024 0 512 x = x := by
  have hpositive : stageNegative (haltGrade field).negative x = x := rfl
  have hfactor : (haltGrade field).k = 4096 := rfl
  rw [gradeComponent, hpositive, hfactor, stageLight_unity h.2, stageGain_unity h, stageMid_unity]

/-- The 10 bits of a component hold a code value (R87). -/
theorem codeValue_mem (v : BitVec 10) : 0 ≤ (v.toNat : Int) ∧ (v.toNat : Int) ≤ 1023 := by
  have hlt := v.isLt
  omega

/-- The first five stages keep a triple of code values under the halt grade (R97). -/
theorem gradedTriple_haltGrade (field : BitVec 32) (x : Rgb (BitVec 10)) :
    gradedTriple (haltGrade field) (codeValues x) = codeValues x := by
  obtain ⟨r, g, b⟩ := x
  have hkept (v : BitVec 10) := gradeComponent_haltGrade field (codeValue_mem v)
  calc gradedTriple (haltGrade field) (codeValues ⟨r, g, b⟩)
      = stageSat 1024
          ⟨gradeComponent (haltGrade field) 1024 0 512 r.toNat, gradeComponent (haltGrade field) 1024 0 512 g.toNat,
            gradeComponent (haltGrade field) 1024 0 512 b.toNat⟩ := rfl
    _ = stageSat 1024 (codeValues ⟨r, g, b⟩) := by rw [hkept, hkept, hkept, codeValues, Rgb.map]
    _ = codeValues ⟨r, g, b⟩ := stageSat_unity (codeValue_mem r) (codeValue_mem g) (codeValue_mem b)

/-! ### The obligation -/

/-- Settles O35: the two outcomes of the tap give the first two clauses, and the stages' identity under the halt grade
the third. -/
theorem sampleTripleIsGraded : Obligations.SampleTripleIsGraded := by
  unfold Obligations.SampleTripleIsGraded
  intro s x
  refine ⟨fun h => ?_, fun m hpassage hm hfield => ?_, fun hpassage hlegal hgrade => ?_⟩
  · exact congrArg Host.Outcome.next (by rw [takeTriple_of_no_copy h, outputTriple_eq]; rfl)
  · exact congrArg Host.Outcome.next (by rw [takeTriple_of_copy hpassage hm hfield, outputTriple_eq]; rfl)
  · have hrest : s.grade.rest = false := hgrade ▸ rfl
    have hkept : gradedTriple s.grade (codeValues x) = codeValues x := by rw [hgrade, gradedTriple_haltGrade]
    exact congrArg Host.Outcome.next (by rw [takeTriple_of_no_copy (.inl hpassage), hlegal, hrest, hkept]; rfl)

end Sys2Proof.Machine
end

section
/-!
PROOF. Rest: the decisions that a field leaves to the monitor and the links, and to commands of their own: REST is entered (R107)
and an idle link goes down (R142).
-/
namespace Sys2Proof.Machine

/-! ### REST is entered (R107) -/

/-- The conditions of R107 hold at the latest field, whose decision is still to be made. -/
def EntersRest (s : State) : Prop :=
  s.port.running = true ∧ s.light.restDue = true ∧ s.light.rest = false ∧ s.light.restLimit ≠ 0
    ∧ s.light.restLimit ≤ s.light.restCount ∧ ∀ p, s.pass = some p → p.state ≠ .recording

theorem publishedPass_bne_recording_iff (s : State) :
    (publishedPass s != some .recording) = true ↔ ∀ p, s.pass = some p → p.state ≠ .recording := by
  unfold publishedPass
  cases s.pass <;> simp

theorem entersRest_iff (s : State) : entersRest s = true ↔ EntersRest s := by
  simp only [entersRest, EntersRest, Bool.and_eq_true, Bool.not_eq_true', bne_iff_ne (b := 0), decide_eq_true_eq, and_assoc,
    publishedPass_bne_recording_iff]

theorem decideRest_enters {s : State} (h : EntersRest s) : decideRest s = enterRestNow s :=
  if_pos ((entersRest_iff s).mpr h)

theorem decideRest_stays {s : State} (h : ¬ EntersRest s) :
    decideRest s = { s with light := { s.light with restDue := false } } := if_neg ((entersRest_iff s).not.mpr h)

theorem exec_enterRest_enters {s : State} (h : EntersRest s) : exec .enterRest s = .next (enterRestNow s) :=
  congrArg Host.Outcome.next (if_pos ((entersRest_iff s).mpr h))

theorem exec_enterRest_stays {s : State} (h : ¬ EntersRest s) : exec .enterRest s = .next s :=
  congrArg Host.Outcome.next (if_neg ((entersRest_iff s).not.mpr h))

/-! ### Losses that are told of -/

/-- With no link newly in FAULT the pass controller is told of nothing (R141, R162). -/
theorem tellLosses_of_no_fault {before after : State} (h : ∀ l, faultedIn before after l = false) :
    tellLosses before after = after := by
  simp [tellLosses, Link.all, h]

/-- A link record written without a change of its state is no fault. -/
theorem tellLosses_setLinkRec {l : Link} {r : LinkRec} {s : State} (h : r.state = (linkOf l s).state) :
    tellLosses s (setLinkRec l r s) = setLinkRec l r s := by
  refine tellLosses_of_no_fault fun m => ?_
  by_cases hm : m = l
  · subst hm
    rw [faultedIn, linkOf_setLinkRec_same, h, bne, Bool.not_and_self]
  · rw [faultedIn, linkOf_setLinkRec_other l m r s hm, bne, Bool.not_and_self]

theorem tellLosses_self (s : State) : tellLosses s s = s := tellLosses_of_no_fault fun _ => Bool.not_and_self _

/-- Without a pass no link's fault is a member loss (R162). -/
theorem tellLosses_of_no_pass {before after : State} (h : after.pass = none) : tellLosses before after = after := by
  have hloss (l : Link) : memberLoss l after = after := by simp [memberLoss, h]
  simp [tellLosses, Link.all, hloss]

/-! ### An idle link goes down (R142) -/

/-- The conditions of R142 hold for a link at the latest field, whose decision is still to be made. -/
def GoesDown (l : Link) (s : State) : Prop :=
  s.port.running = true ∧ (linkOf l s).downDue = true ∧ (linkOf l s).state = .idle ∧ (linkOf l s).owner = .pass
    ∧ s.pass = none ∧ (linkOf l s).silenceLimit ≠ 0 ∧ (linkOf l s).silenceLimit ≤ (linkOf l s).silence

theorem goesDown_iff (l : Link) (s : State) : goesDown l s = true ↔ GoesDown l s := by
  simp only [goesDown, GoesDown, passExists_eq, Bool.and_eq_true, Bool.not_eq_true', Option.isSome_eq_false_iff,
    Option.isNone_iff_eq_none, beq_iff_eq, bne_iff_ne, decide_eq_true_eq, and_assoc]

theorem exec_autoDown_goes {l : Link} {s : State} (h : GoesDown l s) :
    exec (.autoDown l) s = .next (tellLosses s (autoDownNow l s)) :=
  congrArg Host.Outcome.next (if_pos ((goesDown_iff l s).mpr h))

theorem exec_autoDown_stays {l : Link} {s : State} (h : ¬ GoesDown l s) : exec (.autoDown l) s = .next s :=
  congrArg Host.Outcome.next (if_neg ((goesDown_iff l s).not.mpr h))

/-- Auto-down while the send queue has room (R132, R142). -/
theorem autoDownNow_room {l : Link} {s : State} (h : Room (linkOf l s)) :
    autoDownNow l s
      = setLinkRec l
          { linkOf l s with
            queue := (linkOf l s).queue ++ [.standby], state := .down, owner := .none, silence := 0, downDue := false } s := by
  rw [autoDownNow, issue, issueOr_room _ _ _ _ _ h]

/-- Settles O37: each command decides by its conditions; an auto-down tells no pass of anything, since there is none. -/
theorem restAndAutoDownDecide : Obligations.RestAndAutoDownDecide := by
  unfold Obligations.RestAndAutoDownDecide
  refine ⟨fun s => ⟨exec_enterRest_enters, exec_enterRest_stays⟩, fun s l => ⟨fun (hgoes : GoesDown l s) hroom => ?_,
    exec_autoDown_stays⟩⟩
  have ⟨_, _, _, _, hpass, _⟩ := hgoes
  have hdown := autoDownNow_room hroom
  rw [exec_autoDown_goes hgoes, tellLosses_of_no_pass (by rw [hdown]; exact hpass), hdown]

end Sys2Proof.Machine
end

section
/-!
PROOF. LightSamples: a light sample is ignored, low or accepted (R100 to R105).
-/
namespace Sys2Proof.Machine

/-- A reading is not judged while HALTED or in REST, nor when it is saturated (R100). -/
theorem takeReading_ignored {reading : Nat} {s : State}
    (h : s.port.running = false ∨ s.light.rest = true ∨ reading = 4095) : takeReading reading s = s := by
  rcases h with h | h | h <;> simp [takeReading, h]

theorem takeReading_judged {reading : Nat} {s : State} (hrun : s.port.running = true) (hrest : s.light.rest = false)
    (hread : reading < 4095) :
    takeReading reading s = if reading < s.light.floor then lowReading reading s else acceptedReading reading s := by
  simp [takeReading, hrun, hrest, hread.ne]

/-- The sixteenth low reading of a run is reported once (R101). -/
theorem lowReading_reports {reading : Nat} {s : State} (hrun : saturate s.light.lowRun = 16)
    (hnew : s.light.lowReported = false) :
    lowReading reading s
      = offer (tubeEntry .light reading s.light.floor s)
          (raise .tube
            { s with light := { s.light with lowRun := saturate s.light.lowRun, lowReported := true } }) := by
  simp [lowReading, hrun, hnew]

theorem lowReading_counts {reading : Nat} {s : State}
    (h : saturate s.light.lowRun ≠ 16 ∨ s.light.lowReported = true) :
    lowReading reading s = { s with light := { s.light with lowRun := saturate s.light.lowRun } } := by
  rcases h with h | h <;> simp [lowReading, h]

/-- The light factor, computed on integers (R103). -/
theorem lightFactor_eq (target sum n : Nat) :
    lightFactor target sum n = clamp 2048 8191 (4096 * (target : Int) / ((sum : Int) / (n : Int))) := by
  rw [lightFactor]
  push_cast
  rfl

/-- A block after a reading: complete, with a new light factor, or one reading longer (R102, R103). -/
theorem joinBlock_eq (reading : Nat) (l : Light) :
    joinBlock reading l
      = { l with
          blockCount := if l.blockSize ≤ l.blockCount + 1 then 0 else l.blockCount + 1
          blockSum := if l.blockSize ≤ l.blockCount + 1 then 0 else l.blockSum + reading
          k :=
            if l.blockSize ≤ l.blockCount + 1 then
              clamp 2048 8191 (4096 * (l.target : Int) / (((l.blockSum + reading : Nat) : Int) / (l.blockSize : Int)))
            else l.k } := by
  by_cases hfull : l.blockSize ≤ l.blockCount + 1
  · simp only [joinBlock, if_neg (Nat.not_lt.mpr hfull), if_pos hfull, dropBlock, lightFactor_eq]
  · simp only [joinBlock, if_pos (Nat.lt_of_not_le hfull), if_neg hfull]

/-- The service check is due for a report (R105). -/
abbrev ServiceDue (l : Light) : Prop := l.serviceArmed = true ∧ l.service ≠ 0 ∧ l.service ≤ l.wear

theorem serviceDue_iff (l : Light) : serviceDue l = true ↔ ServiceDue l := by
  simp only [serviceDue, ServiceDue, Bool.and_eq_true, bne_iff_ne, decide_eq_true_eq, and_assoc]

theorem serviceCheck_due {s : State} (h : ServiceDue s.light) :
    serviceCheck s
      = offer (tubeEntry .wear (s.light.wear / 65536) (s.light.service / 65536) s)
          (raise .tube { s with light := { s.light with serviceArmed := false } }) :=
  if_pos ((serviceDue_iff _).mpr h)

theorem serviceCheck_idle {s : State} (h : ¬ ServiceDue s.light) : serviceCheck s = s :=
  if_neg ((serviceDue_iff _).not.mpr h)

/-- The light monitor after an accepted reading, before the service check (R101 to R104). -/
theorem acceptedReading_eq (reading : Nat) (s : State) :
    acceptedReading reading s
      = serviceCheck
          { s with
            light :=
              { joinBlock reading (dropLowRun s.light) with wear := min Config.wearTop (s.light.wear + reading) } } := by
  have hwear : (joinBlock reading (dropLowRun s.light)).wear = s.light.wear := joinBlock_wear ..
  rw [acceptedReading, hwear]

/-- Settles O36: the reading falls under one of R100's cases, and each case says what the monitor makes of it. -/
theorem lightSampleIsJudged : Obligations.LightSampleIsJudged := by
  unfold Obligations.LightSampleIsJudged
  intro s v l u n entry
  have hexec : exec (.lightSampleEvent v) s = .next (takeReading n u) := rfl
  rw [hexec]
  refine ⟨fun h => ?_, fun hrun hrest hread hlow => ?_, fun hrun hrest hread haccepted => ?_⟩
  · rw [takeReading_ignored (s := u) h]
  · rw [takeReading_judged (s := u) hrun hrest hread, if_pos hlow]
    refine ⟨fun h16 hnew => ?_, fun hno => ?_⟩
    · rw [lowReading_reports (s := u) h16 hnew]
      rfl
    · rw [lowReading_counts (s := u) hno]
      rfl
  · rw [takeReading_judged (s := u) hrun hrest hread, if_neg (Nat.not_lt.mpr haccepted), acceptedReading_eq, joinBlock_eq]
    refine ⟨fun hidle => ?_, fun hdue => ?_⟩
    · rw [serviceCheck_idle hidle]
      rfl
    · rw [serviceCheck_due hdue]
      rfl

end Sys2Proof.Machine
end

section
/-!
PROOF. MonitorOrders: SET LIGHT, SET MONITOR and ACK MONITOR as they are taken (R109, R124, R125).
-/
namespace Sys2Proof.Machine

/-! ### What the parameters name -/

theorem isBlockSize_iff (n : Nat) :
    isBlockSize n = true ↔ n = 1 ∨ n = 2 ∨ n = 4 ∨ n = 8 ∨ n = 16 ∨ n = 32 ∨ n = 64 := by
  simp [isBlockSize]

theorem param_lt (b : OrderBlock) (k n : Nat) : param b k n < 2 ^ (8 * n) := bitsOf_lt ..

/-- The load of SET LIGHT, when the load mark is set (R109). -/
theorem lightArgs_load (b : OrderBlock) :
    (lightArgs b).load = if param b 25 1 = 0 then none else some (param b 26 5) := by
  by_cases h : param b 25 1 = 0 <;> simp [lightArgs, markOf, h]

/-- The service level and the load are 40 bits, so that they are never above their limit (R109). -/
theorem lightArgs_inRange_iff (b : OrderBlock) :
    (lightArgs b).inRange = true
      ↔ (1 ≤ param b 12 2 ∧ param b 12 2 ≤ 4094)
        ∧ (param b 14 1 = 1 ∨ param b 14 1 = 2 ∨ param b 14 1 = 4 ∨ param b 14 1 = 8 ∨ param b 14 1 = 16
          ∨ param b 14 1 = 32 ∨ param b 14 1 = 64)
        ∧ (256 ≤ param b 16 2 ∧ param b 16 2 ≤ 4095) := by
  have htop (k : Nat) : param b k 5 ≤ Config.wearTop := Nat.le_of_lt_succ (param_lt b k 5)
  have hload : (lightArgs b).load.getD 0 ≤ Config.wearTop := by
    rw [lightArgs_load]
    split
    · exact Nat.zero_le _
    · exact htop 26
  have hservice : (lightArgs b).service ≤ Config.wearTop := htop 20
  rw [← isBlockSize_iff]
  simp only [LightArgs.inRange, Bool.and_eq_true, decide_eq_true_eq, hload, hservice, and_true, and_assoc]
  rfl

/-- SET MONITOR's parameters, when its three flag-like codes name values (R124). -/
theorem monitorArgs_eq {b : OrderBlock} (hjudge : param b 26 1 ≤ 1) (hmode : param b 28 1 ≤ 1) (hon : param b 29 1 ≤ 1) :
    monitorArgs b
      = some
          { high := ⟨param b 12 2, param b 14 2, param b 16 2⟩, low := ⟨param b 18 2, param b 20 2, param b 22 2⟩
            countLimit := param b 24 2, judge := if param b 26 1 = 1 then .averaged else .field, m := param b 27 1
            flagMode := if param b 28 1 = 1 then .latch else .follow, on := param b 29 1 == 1 } := by
  simp [monitorArgs, flagCode_eq_some hjudge, flagCode_eq_some hmode, flagCode_eq_some hon]

theorem monitorArgs_eq_none {b : OrderBlock} (h : ¬ (param b 26 1 ≤ 1 ∧ param b 28 1 ≤ 1 ∧ param b 29 1 ≤ 1)) :
    monitorArgs b = none := by
  by_cases hjudge : param b 26 1 ≤ 1
  · by_cases hmode : param b 28 1 ≤ 1
    · have hon : ¬ param b 29 1 ≤ 1 := fun hon => h ⟨hjudge, hmode, hon⟩
      simp [monitorArgs, flagCode_eq_some hjudge, flagCode_eq_some hmode, flagCode_eq_none.mpr hon]
    · simp [monitorArgs, flagCode_eq_some hjudge, flagCode_eq_none.mpr hmode]
  · simp [monitorArgs, flagCode_eq_none.mpr hjudge]

/-- The checks of R124 on parameters whose codes name values: the limits are never negative. -/
theorem monitorArgs_inRange {b : OrderBlock} {a : LevelSettings} (h : monitorArgs b = some a) :
    a.inRange = true
      ↔ ((param b 12 2 : Int) ≤ 1023 ∧ (param b 14 2 : Int) ≤ 1023 ∧ (param b 16 2 : Int) ≤ 1023)
        ∧ ((param b 18 2 : Int) ≤ param b 12 2 ∧ (param b 20 2 : Int) ≤ param b 14 2 ∧ (param b 22 2 : Int) ≤ param b 16 2)
        ∧ (param b 27 1 = 1 ∨ param b 27 1 = 2 ∨ param b 27 1 = 4 ∨ param b 27 1 = 8 ∨ param b 27 1 = 16
          ∨ param b 27 1 = 32 ∨ param b 27 1 = 64)
        ∧ param b 26 1 ≤ 1 ∧ param b 28 1 ≤ 1 ∧ param b 29 1 ≤ 1 := by
  have hcodes : param b 26 1 ≤ 1 ∧ param b 28 1 ≤ 1 ∧ param b 29 1 ≤ 1 := by
    by_contra hno
    rw [monitorArgs_eq_none hno] at h
    cases h
  obtain ⟨hjudge, hmode, hon⟩ := hcodes
  rw [monitorArgs_eq hjudge hmode hon, Option.some.injEq] at h
  subst h
  simp only [LevelSettings.inRange, Bool.and_eq_true, decide_eq_true_eq, isBlockSize_iff, Int.natCast_nonneg, and_true,
    hjudge, hmode, hon, and_assoc]

/-! ### The orders as they are taken -/

theorem takeSetLight_refused {b : OrderBlock} {s : State} (h : ¬ (lightArgs b).inRange = true) :
    takeSetLight b s = finish b .range 0 s := if_neg h

theorem takeSetLight_accepted {b : OrderBlock} {s : State} (h : (lightArgs b).inRange = true) :
    takeSetLight b s = finish b .ok 0 { decideRest s with light := setLightTo (lightArgs b) (decideRest s).light } :=
  if_pos h

/-- What SET LIGHT makes of the monitor: five settings, an empty block, no low run, service armed, and a load when there is one;
REST stays unless the new limit is 0 (R109). -/
theorem setLightTo_lightArgs (b : OrderBlock) (l : Light) :
    setLightTo (lightArgs b) l
      = { l with
          floor := param b 12 2, blockSize := param b 14 1, target := param b 16 2, restLimit := param b 18 2
          service := param b 20 5, blockCount := 0, blockSum := 0, lowRun := 0, lowReported := false, serviceArmed := true
          wear := if param b 25 1 = 0 then l.wear else param b 26 5
          rest := if param b 18 2 = 0 then false else l.rest } := by
  have hwear : (lightArgs b).load.getD l.wear = if param b 25 1 = 0 then l.wear else param b 26 5 := by
    rw [lightArgs_load]
    split <;> rfl
  have hrest : (l.rest && (lightArgs b).restLimit != 0) = if param b 18 2 = 0 then false else l.rest := by
    by_cases hlimit : param b 18 2 = 0 <;> simp [lightArgs, hlimit]
  rw [setLightTo, hwear, ← hrest]
  rfl

theorem takeSetMonitor_refused {b : OrderBlock} {s : State} (h : ∀ a, monitorArgs b = some a → ¬ a.inRange = true) :
    takeSetMonitor b s = finish b .range 0 s := by
  unfold takeSetMonitor
  split
  · rfl
  · next a ha => exact if_neg (h a ha)

theorem takeSetMonitor_accepted {b : OrderBlock} {s : State} {a : LevelSettings} (ha : monitorArgs b = some a)
    (hok : a.inRange = true) :
    takeSetMonitor b s
      = finish b .ok s.level.flags.code
          { s with level := { s.level with set := a, block := LevelBlock.empty, flags := AlertFlags.clear } } := by
  simp only [takeSetMonitor, ha, if_pos hok]

theorem takeAckMonitor_accepted {b : OrderBlock} {s : State} (h : param b 12 1 ≤ 63) :
    takeAckMonitor b s
      = finish b .ok s.level.flags.code
          { s with
            level := { s.level with flags := s.level.flags.zip (fun f c => f && !c) (flagsOfCode (param b 12 1)) } } :=
  if_neg (Nat.not_lt.mpr h)

/-- A flag stays when its weight is no part of the code (R125). -/
theorem not_bitsOf_beq_one (v i : Nat) : (!(bitsOf v i 1 == 1)) = decide (v / 2 ^ i % 2 = 0) := by
  rw [bitsOf, Nat.shiftRight_eq_div_pow, pow_one, ← bne, Bool.eq_iff_iff, bne_iff_ne, decide_eq_true_eq]
  omega

theorem clearFlags_eq (f : AlertFlags) (v : Nat) :
    f.zip (fun f c => f && !c) (flagsOfCode v)
      = ⟨⟨f.high.r && decide (v / 1 % 2 = 0), f.high.g && decide (v / 2 % 2 = 0), f.high.b && decide (v / 4 % 2 = 0)⟩,
          ⟨f.low.r && decide (v / 8 % 2 = 0), f.low.g && decide (v / 16 % 2 = 0), f.low.b && decide (v / 32 % 2 = 0)⟩⟩ := by
  simp only [AlertFlags.zip, Rgb.zip, flagsOfCode, not_bitsOf_beq_one]
  rfl

/-- Settles O17: the checks of each order, and what it writes; SET LIGHT writes over the decision made by the old limit. -/
theorem lightAndMonitorOrdersWriteTheirSettings : Obligations.LightAndMonitorOrdersWriteTheirSettings := by
  unfold Obligations.LightAndMonitorOrdersWriteTheirSettings
  constructor
  · intro s b hb floor n target limit ok enters changed
    have hexec : exec .setLight s = .next (takeSetLight b s) := next_withOrder hb _
    have hrange : (lightArgs b).inRange = true ↔ ok := lightArgs_inRange_iff b
    rw [hexec]
    refine ⟨fun hno => ?_, fun hok henters => ?_, fun hok hstays => ?_⟩
    · rw [takeSetLight_refused (hrange.not.mpr hno)]
    · rw [takeSetLight_accepted (hrange.mpr hok), decideRest_enters (s := s) henters, setLightTo_lightArgs]
      rfl
    · rw [takeSetLight_accepted (hrange.mpr hok), decideRest_stays (s := s) hstays, setLightTo_lightArgs]
  · intro s b flags
    constructor
    · intro hb high low m ok
      have hexec : exec .setMonitor s = .next (takeSetMonitor b s) := next_withOrder hb _
      rw [hexec]
      refine ⟨fun hno => ?_, fun ⟨hhigh, hlow, hm, hjudge, hmode, hon⟩ => ?_⟩
      · rw [takeSetMonitor_refused fun a ha hrange => hno ((monitorArgs_inRange ha).mp hrange)]
      · have hargs := monitorArgs_eq hjudge hmode hon
        rw [takeSetMonitor_accepted hargs ((monitorArgs_inRange hargs).mpr ⟨hhigh, hlow, hm, hjudge, hmode, hon⟩)]
        rfl
    · intro hb code keep
      have hexec : exec .ackMonitor s = .next (takeAckMonitor b s) := next_withOrder hb _
      rw [hexec]
      refine ⟨fun hcode => ?_, fun hcode => ?_⟩
      · rw [takeAckMonitor, if_pos hcode]
      · rw [takeAckMonitor_accepted hcode, clearFlags_eq]

end Sys2Proof.Machine
end

section
/-!
PROOF. FieldReport: the 32 bytes of a field report hold its fields side by side (R182; Layouts, Field report).
-/
namespace Sys2Proof.Machine

/-- The bits at the places of a run of fields are that run. -/
theorem bitsOf_pack_run {fields : List (Nat × Int)} (k n : Nat) {pos len : Nat} (hpos : width (fields.take k) = pos)
    (hlen : width ((fields.drop k).take n) = len) : bitsOf (pack fields) pos len = pack ((fields.drop k).take n) := by
  have hlt := pack_lt ((fields.drop k).take n)
  conv_lhs => rw [bitsOf, ← hpos, pack_shiftRight, ← List.take_append_drop n (fields.drop k), pack_append]
  rw [← hlen, Nat.add_mul_mod_self_left, Nat.mod_eq_of_lt hlt]

/-- A field report's fields from bit 0 up: the position record, the grade summary, and the measured values (Layouts, Field
report). -/
def reportFields (r : PosRecord) (g : FieldGrade) (mean max : Rgb Int) : List (Nat × Int) :=
  [(32, r.field.toNat), (24, r.frame), (1, parityBit r.parity), (2, r.mode.number), (1, bit r.limit), (1, bit r.slip),
    (1, bit r.unlocked), (1, bit g.rest), (1, bit g.negative), (16, g.scene), (12, g.grade.gain.r), (12, g.grade.gain.g),
    (12, g.grade.gain.b), (10, g.grade.lift.r), (10, g.grade.mid.r), (11, g.grade.sat), (13, g.k), (16, mean.r),
    (16, mean.g), (16, mean.b), (16, max.r), (16, max.g), (16, max.b)]

/-- The lengths of a field report's fields, from bit 0 up. -/
def reportLengths : List Nat :=
  [32, 24, 1, 2, 1, 1, 1, 1, 1, 16, 12, 12, 12, 10, 10, 11, 13, 16, 16, 16, 16, 16, 16]

section
variable (r : PosRecord) (g : FieldGrade) (mean max : Rgb Int)

theorem reportFields_lengths : (reportFields r g mean max).map Prod.fst = reportLengths := rfl

/-- A field report's bits are its fields packed from bit 0 up, and fill its 32 bytes. -/
theorem toNat_encodeReport : (encodeReport r g mean max).toNat = pack (reportFields r g mean max) := by
  have hplace := placeAll_eq 0 (reportFields r g mean max)
  have hwidth : width (reportFields r g mean max) = 256 := by
    rw [width_eq_sum, reportFields_lengths]
    decide
  have hlt := pack_lt (reportFields r g mean max)
  rw [hwidth] at hlt
  rw [pow_zero, Nat.one_mul] at hplace
  have hbytes : encodeReport r g mean max = BitVec.ofNat 256 (pack (reportFields r g mean max)) := by
    rw [← hplace]
    simp only [encodeReport, reportFields, placeAll, Nat.reduceAdd, Nat.add_zero, Nat.add_assoc]
  rw [hbytes, BitVec.toNat_ofNat, Nat.mod_eq_of_lt hlt]

variable {r g mean max}

/-- The bits at a field's place in a field report are the field. -/
theorem report_field (k pos : Nat) {len : Nat} {v : Int} (hk : (reportFields r g mean max)[k]? = some (len, v))
    (hpos : (reportLengths.take k).sum = pos) :
    (encodeReport r g mean max).toNat / 2 ^ pos % 2 ^ len = (v % 2 ^ len).toNat := by
  rw [← Nat.shiftRight_eq_div_pow, toNat_encodeReport]
  exact bitsOf_pack hk (by rw [width_eq_sum, List.map_take, reportFields_lengths, hpos])

/-- A natural number that fits its field reads back. -/
theorem report_natCast (k pos : Nat) {len n : Nat} (hk : (reportFields r g mean max)[k]? = some (len, (n : Int)))
    (hpos : (reportLengths.take k).sum = pos) (hn : n < 2 ^ len) :
    (encodeReport r g mean max).toNat / 2 ^ pos % 2 ^ len = n := by
  rw [report_field k pos hk hpos, toNat_emod_natCast hn]

/-- A value that is not negative and fits its field reads back. -/
theorem report_value (k pos : Nat) {len : Nat} {v : Int} (hk : (reportFields r g mean max)[k]? = some (len, v))
    (hpos : (reportLengths.take k).sum = pos) (h0 : 0 ≤ v) (hv : v < 2 ^ len) :
    (((encodeReport r g mean max).toNat / 2 ^ pos % 2 ^ len : Nat) : Int) = v := by
  rw [report_field k pos hk hpos, toNat_emod_of_fits h0 hv]

/-- The five flags stand side by side from bit 59 up. -/
theorem report_flags :
    (encodeReport r g mean max).toNat / 2 ^ 59 % 32
      = bit r.limit + 2 * bit r.slip + 4 * bit r.unlocked + 8 * bit g.rest + 16 * bit g.negative := by
  have hrun := bitsOf_pack_run (fields := reportFields r g mean max) 4 5 (pos := 59) (len := 5) rfl rfl
  have hflags : pack [(1, (bit r.limit : Int)), (1, bit r.slip), (1, bit r.unlocked), (1, bit g.rest), (1, bit g.negative)]
      = bit r.limit + 2 * bit r.slip + 4 * bit r.unlocked + 8 * bit g.rest + 16 * bit g.negative := by
    simp only [pack, toNat_emod_bit]
    omega
  rw [← toNat_encodeReport, bitsOf, Nat.shiftRight_eq_div_pow] at hrun
  exact hrun.trans hflags

/-- A grade and a light factor in their ranges read back from the grade summary; the lift of R by its low ten bits. -/
theorem report_summary (hg : GradeOk g.grade) (hk : FactorOk g.k) :
    let summary (pos len : Nat) : Nat := (encodeReport r g mean max).toNat / 2 ^ (80 + pos) % 2 ^ len
    (summary 0 12 : Int) = g.grade.gain.r ∧ (summary 12 12 : Int) = g.grade.gain.g ∧ (summary 24 12 : Int) = g.grade.gain.b
      ∧ summary 36 10 = (g.grade.lift.r % 1024).toNat ∧ (summary 46 10 : Int) = g.grade.mid.r
      ∧ (summary 56 11 : Int) = g.grade.sat ∧ (summary 67 13 : Int) = g.k := by
  obtain ⟨-, -, -, ⟨r0, r1⟩, ⟨g0, g1⟩, ⟨b0, b1⟩, ⟨m0, m1⟩, -, -, s0, s1⟩ := hg
  exact ⟨report_value 10 80 rfl rfl r0 (by omega), report_value 11 92 rfl rfl g0 (by omega),
    report_value 12 104 rfl rfl b0 (by omega), report_field 13 116 rfl rfl, report_value 14 126 rfl rfl (by omega) (by omega),
    report_value 15 136 rfl rfl s0 (by omega), report_value 16 147 rfl rfl (by omega) (by omega)⟩

/-- Without a measurement the measured values are 0 (R116). -/
theorem report_measured_zero : (encodeReport r g (Rgb.same 0) (Rgb.same 0)).toNat / 2 ^ 160 = 0 := by
  have htop := pack_shiftRight (reportFields r g (Rgb.same 0) (Rgb.same 0)) 17
  have hwidth : width ((reportFields r g (Rgb.same 0) (Rgb.same 0)).take 17) = 160 := by
    rw [width_eq_sum, List.map_take, reportFields_lengths]
    rfl
  have hzero : pack ((reportFields r g (Rgb.same 0) (Rgb.same 0)).drop 17) = 0 := by
    simp [reportFields, pack, Rgb.same]
  rw [hwidth, hzero, ← toNat_encodeReport, Nat.shiftRight_eq_div_pow] at htop
  exact htop

end

end Sys2Proof.Machine
end

section
/-!
PROOF. FieldShares: what the shares of a field event count, decide, report and poll (R106 to R108, R133, R135, R142, R172, R182,
R183).
-/
namespace Sys2Proof.Machine

/-! ### While HALTED (R147, R171) -/

section
variable {s : State} (h : s.port.running = false)
include h

theorem checkTimer_halted (l : Link) : checkTimer l s = s := by simp [checkTimer, timerDue, h]

theorem timerField_halted (l : Link) : timerField l s = s := by rw [timerField, checkTimer_halted h, tellLosses_self]

/-- These shares do nothing while HALTED. -/
theorem runAct_halted {a : FieldAct} (ha : a ∈ [FieldAct.restCount, .measure, .framers, .silence, .pass, .report, .timer .a,
    .timer .b, .timer .c]) : runAct a s = s := by
  have hno : ¬ s.port.running = true := by simp [h]
  cases a with
  | timer l => exact timerField_halted h l
  | restCount | measure | framers | silence | pass | report => exact if_neg hno
  | grade | restEntry | autoDown l | poll => simp at ha

theorem not_entersRest_halted : ¬ EntersRest s := fun ⟨hrun, _⟩ => by simp [h] at hrun

theorem not_goesDown_halted (l : Link) : ¬ GoesDown l s := fun ⟨hrun, _⟩ => by simp [h] at hrun

theorem pollField_halted : pollField s = { s with port := { s.port with holdoff := .clear } } := if_neg (by simp [h])

end

/-! ### The decisions as shares of the field (R107, R135, R142) -/

/-- The share decides on REST as ENTER_REST does, and the mark goes (R107). -/
theorem decideRest_as_command (s : State) :
    ∃ t, exec .enterRest s = .next t ∧ decideRest s = { t with light := { t.light with restDue := false } } := by
  by_cases henters : EntersRest s
  · exact ⟨_, exec_enterRest_enters henters, decideRest_enters henters⟩
  · exact ⟨_, exec_enterRest_stays henters, decideRest_stays henters⟩

/-- The share decides on auto-down as AUTO_DOWN does (R142). -/
theorem downField_goes {l : Link} {s : State} (h : GoesDown l s) : exec (.autoDown l) s = .next (downField l s) := by
  rw [exec_autoDown_goes h, downField, decideDown, if_pos ((goesDown_iff l s).mpr h)]

theorem downField_stays {l : Link} {s : State} (h : ¬ GoesDown l s) :
    downField l s = setLinkRec l { linkOf l s with downDue := false } s := by
  rw [downField, decideDown, if_neg ((goesDown_iff l s).not.mpr h)]
  exact tellLosses_setLinkRec rfl

theorem timerField_untimed {l : Link} {s : State} (h : (linkOf l s).timer = none) : timerField l s = s := by
  have hcheck : checkTimer l s = s := by simp [checkTimer, timerDue, h]
  rw [timerField, hcheck, tellLosses_self]

/-- The share looks at the link's timer as the expiry command of its kind does (R135). -/
theorem expireTimer_of_kind {l : Link} {s : State} {t : LinkTimer} (h : (linkOf l s).timer = some t) :
    expireTimer t.kind l s = timerField l s := by
  rw [expireTimer, expiryOf, if_pos (by rw [h]; rfl), timerField]

/-! ### The counts and the framers (R106, R108, R133, R142) -/

theorem countRest_eq (frame : Int) (l : Light) :
    countRest frame l
      = { l with
          restCount := if l.lastFrame = some frame then min 65535 (l.restCount + 1) else 0
          lastFrame := some frame
          rest := l.rest && decide ((if l.lastFrame = some frame then min 65535 (l.restCount + 1) else 0) ≠ 0)
          restDue := true } := by
  have hne (n : Nat) : (n != 0) = decide (n ≠ 0) := by cases n <;> rfl
  rw [← hne]
  rfl

/-- A link's silence counts while it idles, woken by a pass, and no pass exists (R142). -/
theorem countSilence_eq (s : State) (k : LinkRec) :
    countSilence (!passExists s) k
      = if k.state = .idle ∧ k.owner = .pass ∧ s.pass = none then
          { k with silence := min 65535 (k.silence + 1), downDue := true }
        else { k with silence := 0, downDue := false } := by
  have hcond : (k.state == .idle && k.owner == .pass && !passExists s) = true
      ↔ k.state = .idle ∧ k.owner = .pass ∧ s.pass = none := by
    simp only [passExists_eq, Bool.and_eq_true, Bool.not_eq_true', Option.isSome_eq_false_iff, Option.isNone_iff_eq_none,
      beq_iff_eq, and_assoc]
  rw [countSilence]
  exact if_congr hcond rfl rfl

/-! ### The field poll (R172, R183) -/

theorem isPoll_iff (k : AccessKind) : k.isPoll = true ↔ k = .headerRead ∨ k = .headerWrite ∨ k = .linkRead := by
  simp only [AccessKind.isPoll, Bool.or_eq_true, beq_iff_eq, or_assoc]

/-- A live access of the poll before no longer serves it (R172). -/
theorem givenUp_eq (a : Access) :
    (if a.kind.isPoll then a.giveUp else a)
      = if (a.kind = .headerRead ∨ a.kind = .headerWrite ∨ a.kind = .linkRead) ∧ a.status = .live then
          { a with status := .stale }
        else a := by
  by_cases hpoll : a.kind.isPoll = true <;> simp [Access.giveUp, hpoll, ← isPoll_iff]

/-! ### The field report (R182) -/

theorem parityBit_lt (p : Parity) : parityBit p < 2 ^ 1 := by cases p <;> decide

theorem modeNumber_lt (m : FieldMode) : m.number < 2 ^ 2 := by
  cases m with
  | free | seeking | locked => simp [FieldMode.number]

theorem measured_of_none {s : State} (h : s.level.last = none) : measured s = (Rgb.same 0, Rgb.same 0) := by
  simp only [measured, h]

theorem measured_of_some {s : State} {m : Measurement} (h : s.level.last = some m) :
    measured s = (m.chans.map ChanMeas.mean, m.chans.map ChanMeas.max) := by
  simp only [measured, h]

theorem reportField_off {s : State} (h : s.reports.setting = none) : reportField s = s := by simp [reportField, h]

theorem reportField_on {s : State} {x : ReportSet} (hrun : s.port.running = true) (h : s.reports.setting = some x) :
    reportField s = { s with reports := { s.reports with waiting := some (formReport x s) } } := by
  simp [reportField, hrun, h]

/-- Settles O41: each share by its own rule, and the report by its fields. -/
theorem fieldCountsReportsAndPolls : Obligations.FieldCountsReportsAndPolls := by
  unfold Obligations.FieldCountsReportsAndPolls
  intro s r l count heard silent
  refine ⟨fun hhalt => ⟨fun a ha => runAct_halted hhalt ha, decideRest_stays (not_entersRest_halted hhalt),
    fun l => downField_stays (not_goesDown_halted hhalt l), pollField_halted hhalt⟩, fun hrun => ?_⟩
  refine ⟨?_, ?_, ?_, fun l => ⟨fun htimer => timerField_untimed htimer, fun t htimer => ?_⟩, decideRest_as_command s,
    fun l => ?_, fun hoff => reportField_off hoff, fun x hon => ?_, ?_⟩
  · rw [runAct, restField, if_pos hrun, countRest_eq]
  · exact if_pos hrun
  · rw [runAct, silenceField, if_pos hrun]
    simp only [PerLink.map, countSilence_eq]
    rfl
  · rw [runAct, ← expireTimer_of_kind htimer]
    cases t.kind with
    | wake | cue | watchdog | close => rfl
  · intro k goes
    exact ⟨fun hgoes => downField_goes ⟨hrun, hgoes⟩, fun hstays => downField_stays fun ⟨_, hgoes⟩ => hstays hgoes⟩
  · intro slot
    have hfield := report_natCast (r := r) (g := s.grade) (mean := (measured s).1) (max := (measured s).2) 0 0 rfl rfl
      r.field.isLt
    rw [pow_zero, Nat.div_one] at hfield
    refine ⟨encodeReport r s.grade (measured s).1 (measured s).2, reportField_on hrun hon, hfield, report_field 1 32 rfl rfl,
      report_natCast 2 56 rfl rfl (parityBit_lt _), report_natCast 3 57 rfl rfl (modeNumber_lt _), report_flags,
      fun hscene => report_natCast 9 64 rfl rfl (Nat.lt_succ_of_le hscene), report_summary, fun hnone => ?_, fun m hm => ?_⟩
    · rw [measured_of_none hnone]
      exact report_measured_zero
    · intro mean code
      have hcode (k pos : Nat) {v : Int}
          (hk : (reportFields r s.grade (m.chans.map ChanMeas.mean) (m.chans.map ChanMeas.max))[k]? = some (16, v))
          (hpos : (reportLengths.take k).sum = 160 + pos) : code pos v := by
        intro h0 h1
        rw [measured_of_some hm]
        exact report_value k (160 + pos) hk hpos h0 (Int.lt_of_le_of_lt h1 (by decide))
      exact ⟨hcode 17 0 rfl rfl, hcode 18 16 rfl rfl, hcode 19 32 rfl rfl, hcode 20 48 rfl rfl, hcode 21 64 rfl rfl,
        hcode 22 80 rfl rfl⟩
  · rw [runAct, pollField, if_pos hrun, beginPoll, funext givenUp_eq]
    rfl

end Sys2Proof.Machine
end

section
/-!
PROOF. LevelField: a field event at the level monitor: the open measurement is finished, judged, written to its scene and
tallied, the tally ends with the recording, and a measurement opens for the new field (R113 to R123).
-/
namespace Sys2Proof.Machine

/-! ### The entry of a tally that closes (R123) -/

/-- A tally's EXCURSION entry is offered, unless its count is 0 (R123). -/
def offerTally (y : Tally) (u : State) : State := if y.count = 0 then u else offer (excursionEntry y) u

/-- The entry of the tally that closes, if there is one. -/
def offerClosing (o : Option Tally) (u : State) : State := match o with | none => u | some y => offerTally y u

theorem offerClosing_journal_congr (o : Option Tally) {s t : State} (h : s.journal = t.journal) :
    (offerClosing o s).journal = (offerClosing o t).journal := by
  cases o with
  | none => exact h
  | some y =>
    simp only [offerClosing, offerTally]
    split
    · exact h
    · exact offer_journal_congr _ h

theorem offerClosing_journal (o : Option Tally) (u : State) :
    (offerClosing o u).journal = match o with | none => u.journal | some y => (offerTally y u).journal := by
  cases o <;> rfl

theorem closeTally_eq (s : State) :
    closeTally s
      = { s with level := { s.level with tally := none }, journal := (offerClosing s.level.tally s).journal } := by
  unfold closeTally
  cases h : s.level.tally with
  | none =>
    have hlevel : { s.level with tally := none } = s.level := by rw [← h]
    rw [hlevel]
    rfl
  | some y =>
    simp only [offerClosing, offerTally, Nat.pos_iff_ne_zero, ite_not]
    split
    · rfl
    · exact offerAll_from [excursionEntry y] (t := s) rfl

/-! ### The tally takes a recorded measurement (R122) -/

/-- The measurement is recorded, and its scene is not that of the open tally (R122, step 1). -/
def TallySteps (o : Option Tally) (m : Measurement) : Prop := m.recorded = true ∧ ∃ y, o = some y ∧ y.start ≠ m.start

theorem tallySteps_iff (m : Measurement) (s : State) :
    (m.recorded && tallyDiffers s m) = true ↔ TallySteps s.level.tally m := by
  simp only [TallySteps, tallyDiffers, Bool.and_eq_true, Option.any_eq_true, bne_iff_ne]

/-- The tally that takes a recorded measurement: the open one of its scene, or one just opened (R122). -/
def baseTally (o : Option Tally) (m : Measurement) : Tally :=
  match o with
  | none => openTally m
  | some y => if y.start = m.start then y else openTally m

/-- The tally after a measurement, recorded or not (R122). -/
def tallyAfter (o : Option Tally) (m : Measurement) (j : Option AlertFlags) : Option Tally :=
  if m.recorded = true then some ((baseTally o m).take m j) else o

/-- The journal after a measurement: the tally of another scene has closed (R122, step 1). -/
def tallyJournal (m : Measurement) (s : State) : Journal :=
  if m.recorded && tallyDiffers s m then (offerClosing s.level.tally s).journal else s.journal

theorem tallyJournal_steps {m : Measurement} {s : State} (h : TallySteps s.level.tally m) :
    tallyJournal m s = (offerClosing s.level.tally s).journal := if_pos ((tallySteps_iff m s).mpr h)

theorem tallyJournal_stays {m : Measurement} {s : State} (h : ¬ TallySteps s.level.tally m) :
    tallyJournal m s = s.journal := if_neg ((tallySteps_iff m s).not.mpr h)

theorem tallyJournal_congr (m : Measurement) {s t : State} (hlevel : s.level.tally = t.level.tally)
    (hjournal : s.journal = t.journal) : tallyJournal m s = tallyJournal m t := by
  rw [tallyJournal, tallyJournal, tallyDiffers, tallyDiffers, hlevel, hjournal, offerClosing_journal_congr _ hjournal]

theorem tallyField_eq (m : Measurement) (j : Option AlertFlags) (s : State) :
    tallyField m j s
      = { s with level := { s.level with tally := tallyAfter s.level.tally m j }, journal := tallyJournal m s } := by
  unfold tallyField tallyAfter tallyJournal
  cases m.recorded with
  | false => rfl
  | true =>
    cases h : s.level.tally with
    | none => simp [tallyDiffers, h, baseTally]
    | some y =>
      by_cases hsame : y.start = m.start
      · simp [tallyDiffers, h, baseTally, hsame]
      · simp [tallyDiffers, h, baseTally, hsame, closeTally_eq]

theorem Tally.take_eq (t : Tally) (m : Measurement) (j : Option AlertFlags) :
    t.take m j
      = { t with
          field := m.field, frame := m.frame
          count := if excursion j = true then min 65535 (t.count + 1) else t.count
          union := if excursion j = true then t.union.zip (· || ·) (j.getD AlertFlags.clear) else t.union } := by
  unfold Tally.take
  split <;> rfl

/-! ### The judgement (R117 to R120) -/

/-- A finished measurement is eligible: the monitor is on, REST did not touch it, and every channel is whole (R115, R117). -/
theorem eligible_iff (l : Level) (m : Measurement) :
    eligible l m = true ↔
      l.set.on = true ∧ m.rest = false ∧ m.chans.r.count = m.expected ∧ m.chans.g.count = m.expected
        ∧ m.chans.b.count = m.expected := by
  simp only [eligible, Measurement.regular, Bool.and_eq_true, Bool.not_eq_true', beq_iff_eq]
  constructor
  · rintro ⟨⟨hon, ⟨hr, hg⟩, hb⟩, hrest⟩
    exact ⟨hon, hrest, hr, hg, hb⟩
  · rintro ⟨hon, hrest, hr, hg, hb⟩
    exact ⟨⟨hon, ⟨hr, hg⟩, hb⟩, hrest⟩

section
variable {l : Level} {m : Measurement}

theorem judgeFinished_ineligible (h : ¬ eligible l m = true) : judgeFinished l m = (l.block, none) := if_neg h

theorem judgeFinished_field (h : eligible l m = true) (hjudge : l.set.judge = .field) :
    judgeFinished l m = (l.block, some (judgeField l.set.countLimit m)) := by
  rw [judgeFinished, if_pos h, judge, hjudge]

theorem judgeFinished_block_field (hjudge : l.set.judge = .field) : (judgeFinished l m).1 = l.block := by
  by_cases h : eligible l m = true
  · rw [judgeFinished_field h hjudge]
  · rw [judgeFinished_ineligible h]

theorem judgeFinished_partial (h : eligible l m = true) (hjudge : l.set.judge = .averaged)
    (hfull : ¬ l.set.m ≤ l.block.fields + 1) : judgeFinished l m = (gather m l.block, none) := by
  rw [judgeFinished, if_pos h, judge, hjudge]
  exact if_pos (Nat.lt_of_not_le hfull)

theorem judgeFinished_full (h : eligible l m = true) (hjudge : l.set.judge = .averaged)
    (hfull : l.set.m ≤ l.block.fields + 1) :
    judgeFinished l m = (LevelBlock.empty, some (judgeBlock l.set (gather m l.block))) := by
  rw [judgeFinished, if_pos h, judge, hjudge]
  exact if_neg (Nat.not_lt_of_le hfull)

/-- The rules of R117 to R119, case by case, leave one judgement. -/
theorem judgeFinished_eq_of_rules {j : Option AlertFlags} (hno : ¬ eligible l m = true → j = none)
    (hfield : eligible l m = true → l.set.judge = .field → j = some (judgeField l.set.countLimit m))
    (hpartial : eligible l m = true → l.set.judge = .averaged → ¬ l.set.m ≤ l.block.fields + 1 → j = none)
    (hfull : eligible l m = true → l.set.judge = .averaged → l.set.m ≤ l.block.fields + 1 →
      j = some (judgeBlock l.set (gather m l.block))) :
    (judgeFinished l m).2 = j := by
  by_cases he : eligible l m = true
  · cases hmode : l.set.judge with
    | field => rw [judgeFinished_field he hmode, hfield he hmode]
    | averaged =>
      by_cases hf : l.set.m ≤ l.block.fields + 1
      · rw [judgeFinished_full he hmode hf, hfull he hmode hf]
      · rw [judgeFinished_partial he hmode hf, hpartial he hmode hf]
  · rw [judgeFinished_ineligible he, hno he]

end

theorem excursion_eq (j : Option AlertFlags) :
    excursion j = match j with | none => false | some f => decide (f ≠ AlertFlags.clear) := by
  cases j with
  | none => rfl
  | some f => exact (decide_not ..).symm

/-- The flags after a judgement, or after none (R120). -/
def flagsAfter (l : Level) (j : Option AlertFlags) : AlertFlags :=
  match j with
  | none => l.flags
  | some f => applyJudgement l.set.flagMode l.flags f

theorem rises_iff (old new : AlertFlags) :
    rises old new = true ↔ old.zip (fun o n => !o && n) new ≠ AlertFlags.clear := bne_iff_ne

theorem rises_self (f : AlertFlags) : rises f f = false := by
  simp [rises, AlertFlags.any, AlertFlags.zip, Rgb.zip, AlertFlags.clear, Rgb.same]

/-- The port after the flags have been written: ALERT is raised when one has risen (R120). -/
def alertPort (old new : AlertFlags) (s : State) : Port := if rises old new then (raise .alert s).port else s.port

theorem takeJudgement_eq (j : Option AlertFlags) (s : State) :
    takeJudgement j s
      = { s with
          level := { s.level with flags := flagsAfter s.level j }
          port := alertPort s.level.flags (flagsAfter s.level j) s } := by
  cases j with
  | none => simp [takeJudgement, flagsAfter, alertPort, rises_self]
  | some f =>
    unfold takeJudgement alertPort
    cases hrise : rises s.level.flags (flagsAfter s.level (some f)) with
    | false => exact if_neg (ne_true_of_eq_false hrise)
    | true => exact if_pos hrise

/-! ### The finished measurement -/

/-- The store after a finished measurement: the statistics of an eligible one go to its scene (R121). -/
def statsStore (elig : Bool) (m : Measurement) (e : Bool) (store : List Scene) : List Scene :=
  if elig then match m.start with | none => store | some f => writeStats f (statsOf m e) store else store

theorem ite_statsField (elig : Bool) (m : Measurement) (e : Bool) (s : State) :
    (if elig then statsField m e s else s) = { s with store := statsStore elig m e s.store } := by
  unfold statsStore statsField
  cases elig with
  | false => rfl
  | true => cases m.start <;> rfl

theorem statsStore_stays {elig : Bool} {m : Measurement} (h : ¬ elig = true ∨ m.start = none) (e : Bool)
    (store : List Scene) : statsStore elig m e store = store := by
  unfold statsStore
  split
  · next helig => rw [h.resolve_left (not_not_intro helig)]
  · rfl

theorem statsStore_writes {elig : Bool} {m : Measurement} {f : Int} (h : elig = true) (hf : m.start = some f) (e : Bool)
    (store : List Scene) : statsStore elig m e store = writeStats f (statsOf m e) store := by
  rw [statsStore, if_pos h, hf]

/-- The monitor after a finished measurement `m` (R116 to R122). -/
def levelAfter (l : Level) (m : Measurement) : Level :=
  { l with
    openMeas := none, last := some m, block := (judgeFinished l m).1
    flags := flagsAfter l (judgeFinished l m).2, tally := tallyAfter l.tally m (judgeFinished l m).2 }

theorem finishOpen_none {s : State} (h : s.level.openMeas = none) : finishOpen s = s := by rw [finishOpen, h]

/-- The whole state after the open measurement is finished: the monitor, the store, the port and the journal have changed. -/
theorem finishOpen_some {s : State} {m : Measurement} (h : s.level.openMeas = some m) :
    finishOpen s
      = { s with
          level := levelAfter s.level (finishMeasurement m)
          store :=
            statsStore (eligible s.level (finishMeasurement m)) (finishMeasurement m)
              (excursion (judgeFinished s.level (finishMeasurement m)).2) s.store
          port := alertPort s.level.flags (flagsAfter s.level (judgeFinished s.level (finishMeasurement m)).2) s
          journal := tallyJournal (finishMeasurement m) s } := by
  rw [finishOpen, h]
  simp only [dealMeasurement, takeJudgement_eq, ite_statsField, tallyField_eq]
  rw [tallyJournal_congr (t := s)] <;> rfl

theorem finishOpen_pass (s : State) : (finishOpen s).pass = s.pass := by
  cases h : s.level.openMeas with
  | none => rw [finishOpen_none h]
  | some m => rw [finishOpen_some h]

/-! ### The recording ends, and the new field's measurement opens (R114, R122) -/

theorem publishedPass_recording_iff (s : State) :
    publishedPass s = some .recording ↔ ∃ p, s.pass = some p ∧ p.state = .recording := Option.map_eq_some_iff

/-- What a measurement is opened with is read off the record, the pass and the scenes, statistics aside. -/
theorem openMeasurement_congr {s t : State} (hfollower : t.follower = s.follower) (hpass : t.pass = s.pass)
    (hstore : t.store.map Scene.bare = s.store.map Scene.bare) : openMeasurement t = openMeasurement s := by
  have hscene {α : Type} (g : Scene → α) (hg : ∀ x, g x.bare = g x) (f : Int) :
      (lookup f t.store).map (fun y => g y.1) = (lookup f s.store).map fun y => g y.1 := by
    have := congrArg (Option.map fun y : Scene × Option Scene => g y.1) (lookup_of_bare (f := f) hstore)
    simpa only [Option.map_map, Function.comp_def, hg] using this
  simp only [openMeasurement, publishedPass, hfollower, hpass, hscene Scene.start fun _ => rfl,
    hscene Scene.number fun _ => rfl]

/-- The measurement of a no-scene frame names no scene (R114). -/
theorem openMeasurement_noScene {s : State} (h : ∀ x ∈ s.store, s.follower.record.frame < x.start) :
    (openMeasurement s).start = none ∧ (openMeasurement s).number = 0 := by
  simp only [openMeasurement, lookup_eq_none h, Option.map_none, Option.getD_none, and_self]

/-- The measurement of a scene's frame names the scene (R114). -/
theorem openMeasurement_scene {s : State} (hstore : StartsRise s.store) {i : Nat} {x : Scene} (hi : s.store[i]? = some x)
    (hle : x.start ≤ s.follower.record.frame) (hnext : ∀ y, s.store[i + 1]? = some y → s.follower.record.frame < y.start) :
    (openMeasurement s).start = some x.start ∧ (openMeasurement s).number = x.number := by
  simp only [openMeasurement, lookup_of_index hstore hi hle hnext, Option.map_some, Option.getD_some, and_self]

/-- The tally closes unless the pass is RECORDING (R122). -/
theorem closeIfEnded_eq (s : State) :
    closeIfEnded s
      = { s with
          level := { s.level with tally := if publishedPass s = some .recording then s.level.tally else none }
          journal := (if publishedPass s = some .recording then s else offerClosing s.level.tally s).journal } := by
  unfold closeIfEnded
  split
  · rfl
  · exact closeTally_eq s

/-- The monitor's share of a field: the open measurement is finished, the tally closes unless the pass is RECORDING, and a
measurement opens (R113). -/
theorem runAct_measure {s : State} (hrun : s.port.running = true) :
    runAct .measure s
      = { finishOpen s with
          level :=
            { (finishOpen s).level with
              openMeas := some (openMeasurement s)
              tally := if publishedPass s = some .recording then (finishOpen s).level.tally else none }
          journal :=
            (if publishedPass s = some .recording then finishOpen s
              else offerClosing (finishOpen s).level.tally (finishOpen s)).journal } := by
  have hpass : publishedPass (finishOpen s) = publishedPass s := congrArg (Option.map Pass.state) (finishOpen_pass s)
  have hopen : openMeasurement (closeIfEnded (finishOpen s)) = openMeasurement s := by
    rw [closeIfEnded_eq]
    exact openMeasurement_congr (finishOpen_frame s).follower (finishOpen_pass s) (finishOpen_kept s).store
  rw [← hopen, ← hpass, runAct, levelField, if_pos hrun, closeIfEnded_eq]

/-- Settles O40: the share is the finish of the open measurement, the end of the tally and the new measurement; the judgement
that the statement describes case by case is that of the finished measurement. -/
theorem levelMonitorJudgesTheField : Obligations.LevelMonitorJudgesTheField := by
  unfold Obligations.LevelMonitorJudgesTheField
  intro s hrun hstore r l t recording clear both closing
  have hrec : publishedPass s = some .recording ↔ recording := publishedPass_recording_iff s
  have ht : t = _ := runAct_measure hrun
  rw [ht]
  refine ⟨⟨openMeasurement s, rfl, rfl, rfl, rfl, beq_iff_eq.trans hrec, ?_, rfl, openMeasurement_noScene,
    fun i x hi hle hnext => openMeasurement_scene hstore.startsRise hi hle hnext⟩, fun hnone => ?_, fun m hm => ?_⟩
  · show expectedSamples s.follower.standard = _
    cases s.follower.standard <;> rfl
  · rw [finishOpen_none hnone]
    refine ⟨rfl, rfl, rfl, rfl, rfl, fun h => ?_, fun h => ?_⟩
    · rw [if_pos (hrec.mpr h), if_pos (hrec.mpr h)]
      exact ⟨rfl, rfl⟩
    · rw [if_neg (hrec.not.mpr h), if_neg (hrec.not.mpr h)]
      exact ⟨rfl, offerClosing_journal l.tally s⟩
  · rw [finishOpen_some hm]
    intro fin z mean elig full maxSum minSum exceeds falls j hno hfield hpartial hfull exc flags steps base stepped first
    have helig : eligible l (finishMeasurement m) = true ↔ elig := eligible_iff ..
    have hj : (judgeFinished l (finishMeasurement m)).2 = j :=
      judgeFinished_eq_of_rules (fun he => hno (helig.not.mp he)) (fun he => hfield (helig.mp he))
        (fun he => hpartial (helig.mp he)) fun he => hfull (helig.mp he)
    have hexc : excursion j = exc := excursion_eq j
    have hflags : flagsAfter l (judgeFinished l (finishMeasurement m)).2 = flags := by rw [hj]; rfl
    have hstepped : tallyAfter l.tally (finishMeasurement m) (judgeFinished l (finishMeasurement m)).2 = stepped := by
      rw [hj, tallyAfter, Tally.take_eq, hexc]
      rfl
    have hsteps (h : steps) : tallyJournal (finishMeasurement m) s = first.journal := tallyJournal_steps h
    have hstays (h : ¬ steps) : tallyJournal (finishMeasurement m) s = s.journal := tallyJournal_stays h
    refine ⟨rfl, hflags, ?_, ?_, ?_, ?_, ?_, ?_, ?_, fun h => ?_, fun h => ?_⟩
    · rintro (he | hmode)
      · exact congrArg Prod.fst (judgeFinished_ineligible (helig.not.mpr he))
      · exact judgeFinished_block_field hmode
    · exact fun he hmode hf => congrArg Prod.fst (judgeFinished_partial (helig.mpr he) hmode hf)
    · exact fun he hmode hf => congrArg Prod.fst (judgeFinished_full (helig.mpr he) hmode hf)
    · exact fun hrise => if_pos ((rises_iff ..).mpr (hflags ▸ hrise))
    · exact fun hrise => if_neg ((rises_iff ..).not_left.mpr (hflags ▸ hrise))
    · exact fun hstay => statsStore_stays (m := finishMeasurement m) (hstay.imp_left helig.not.mpr) _ _
    · intro f he hf
      rw [← hexc, ← hj]
      exact statsStore_writes (m := finishMeasurement m) (helig.mpr he) hf _ _
    · rw [if_pos (hrec.mpr h), if_pos (hrec.mpr h)]
      exact ⟨hstepped, hsteps, hstays⟩
    · rw [if_neg (hrec.not.mpr h), if_neg (hrec.not.mpr h), ← hstepped]
      exact ⟨rfl, fun h => offerClosing_journal_congr _ (hsteps h), fun h => offerClosing_journal_congr _ (hstays h)⟩

end Sys2Proof.Machine
end

section
/-!
PROOF. RouteOrder: SET ROUTE as it is taken (R128, R129).
-/
namespace Sys2Proof.Machine

/-- A bit of a code, read by its weight (Layouts). -/
theorem bitsOf_beq_one (v i : Nat) : (bitsOf v i 1 == 1) = (v / 2 ^ i % 2 == 1) := by
  rw [bitsOf, Nat.shiftRight_eq_div_pow, pow_one]

theorem setOfCode_eq (v : Nat) : setOfCode v = ⟨v % 2 == 1, v / 2 % 2 == 1, v / 4 % 2 == 1⟩ := by
  simp [setOfCode, bitsOf_beq_one]

theorem markOf_iff (v : Nat) : markOf v = true ↔ v ≠ 0 := by simp [markOf]

/-- A check of R129 fails, but for the pass: the group, the mode, SAFETY without ALL, or a valid entry without a link. -/
abbrev RouteFaulty (a : RouteArgs) : Prop :=
  16 ≤ a.group ∨ a.mode = none ∨ (a.mode = some .any ∧ a.safety = true) ∨ (a.valid = true ∧ a.dest = noLinks)

theorem takeSetRoute_refused {b : OrderBlock} {s : State} (hpass : s.pass = none) (h : RouteFaulty (routeArgs b)) :
    takeSetRoute b s = finish b .range 0 s := by
  simp only [takeSetRoute, passExists_eq, hpass, Option.isSome_none, Bool.false_eq_true, if_false]
  split
  · rfl
  · rename_i hgroup
    split
    · rfl
    · rename_i mode hmode
      obtain hg | hm | ⟨hany, hsafe⟩ | hempty := h
      · exact absurd hg hgroup
      · exact nomatch hm.symm.trans hmode
      · cases hmode.symm.trans hany
        exact if_pos ⟨rfl, hsafe⟩
      · rw [if_pos hempty, ite_self]

theorem takeSetRoute_accepted {b : OrderBlock} {s : State} {mode : RouteMode} (hpass : s.pass = none)
    (h : ¬ RouteFaulty (routeArgs b)) (hmode : (routeArgs b).mode = some mode) :
    takeSetRoute b s
      = finish b .ok (linkCount (routeEntry (routeArgs b) mode).dest)
          { s with
            routes := s.routes.set (routeArgs b).group (routeEntry (routeArgs b) mode)
              (Nat.lt_of_not_le fun hg => h (.inl hg)) } := by
  simp only [RouteFaulty, not_or] at h
  obtain ⟨hgroup, -, hsafe, hempty⟩ := h
  have hany : ¬ (mode = .any ∧ (routeArgs b).safety = true) := fun ⟨hm, hs⟩ => hsafe ⟨hm ▸ hmode, hs⟩
  simp only [takeSetRoute, passExists_eq, hpass, Option.isSome_none, Bool.false_eq_true, if_false, dif_neg hgroup, hmode,
    if_neg hany, if_neg hempty]

/-- The mode that SET ROUTE's parameter names. -/
theorem routeArgs_mode {b : OrderBlock} (h : param b 14 1 ≤ 1) :
    (routeArgs b).mode = some (if param b 14 1 = 1 then .any else .all) := by
  simp only [routeArgs, flagCode_eq_some h, Option.map_some, beq_iff_eq]

theorem routeFaulty_iff (b : OrderBlock) :
    RouteFaulty (routeArgs b)
      ↔ 16 ≤ param b 12 1 ∨ 1 < param b 14 1 ∨ (param b 14 1 = 1 ∧ param b 15 1 ≠ 0)
        ∨ (param b 16 1 ≠ 0
            ∧ (⟨param b 13 1 % 2 == 1, param b 13 1 / 2 % 2 == 1, param b 13 1 / 4 % 2 == 1⟩ : LinkSet) = noLinks) := by
  have hsafe : (routeArgs b).safety = true ↔ param b 15 1 ≠ 0 := markOf_iff _
  have hvalid : (routeArgs b).valid = true ↔ param b 16 1 ≠ 0 := markOf_iff _
  rw [RouteFaulty, hsafe, hvalid, ← setOfCode_eq]
  by_cases hle : param b 14 1 ≤ 1
  · have hany : (routeArgs b).mode = some .any ↔ param b 14 1 = 1 := by
      rw [routeArgs_mode hle]
      split <;> simp_all
    rw [hany, routeArgs_mode hle]
    simp [routeArgs, Nat.not_lt.mpr hle]
  · have hnone : (routeArgs b).mode = none := by simp [routeArgs, flagCode_eq_none.mpr hle]
    simp [hnone, Nat.lt_of_not_le hle]

/-- Settles O18: a faulty order is refused, and any other writes its group's entry. -/
theorem setRouteChecksInOrder : Obligations.SetRouteChecksInOrder := by
  unfold Obligations.SetRouteChecksInOrder
  intro s b hb group set mode safety valid empty bad
  have htake : exec .setRoute s = .next (takeSetRoute b s) := next_withOrder hb _
  have hbad : RouteFaulty (routeArgs b) ↔ bad := routeFaulty_iff b
  rw [htake]
  refine ⟨fun hpass => ?_, fun hpass h => ?_, fun hpass h => ?_⟩
  · exact congrArg _ (if_pos ((passExists_iff s).mpr hpass))
  · rw [takeSetRoute_refused hpass (hbad.mpr h)]
  · have hmode := routeArgs_mode (b := b) (Nat.not_lt.mp fun hm => h (.inr (.inl hm)))
    have hentry : routeEntry (routeArgs b) (if mode = 1 then .any else .all)
        = if valid then ⟨set, if mode = 1 then .any else .all, decide safety, true⟩ else ⟨empty, .all, false, false⟩ := by
      have hset : (routeArgs b).dest = set := setOfCode_eq _
      have hsafe : (routeArgs b).safety = decide safety := Bool.eq_iff_iff.mpr ((markOf_iff _).trans decide_eq_true_iff.symm)
      have hvalid : (routeArgs b).valid = true ↔ valid := markOf_iff _
      simp only [routeEntry, hset, hsafe, hvalid]
      rfl
    rw [takeSetRoute_accepted hpass (hbad.not.mpr h) hmode]
    refine ⟨_, congrArg (fun d => Host.Outcome.next (finish b .ok d _)) ?_, fun g => ?_⟩
    · rw [hentry]
      split <;> rfl
    · rw [hentry, Vector.getElem_set]
      simp only [eq_comm (a := g.val)]
      rfl

end Sys2Proof.Machine
end

section
/-!
PROOF. LinkOrders: SET LINK, RESET LINK and WAKE LINK as they are taken (R132, R142 to R144, R146).
-/
namespace Sys2Proof.Machine

/-! ### Link records -/

@[simp] theorem setLinkRec_setLinkRec (l : Link) (r k : LinkRec) (s : State) :
    setLinkRec l r (setLinkRec l k s) = setLinkRec l r s := by cases l <;> rfl

theorem rollsOrRecords_iff (x : LinkState) : rollsOrRecords x = true ↔ x = .rolling ∨ x = .recording := by
  simp [rollsOrRecords]

theorem linkOfCode_eq_some {v : Nat} {l : Link} : linkOfCode v = some l ↔ linkCode l = v := by
  unfold linkOfCode
  cases l <;> (split <;> [skip; split <;> [skip; split]]) <;> simp [linkCode, *] <;> omega

theorem linkOfCode_eq_none {v : Nat} : linkOfCode v = none ↔ ∀ l, linkCode l ≠ v := by
  simp only [Option.eq_none_iff_forall_ne_some, ne_eq, linkOfCode_eq_some]

/-! ### SET LINK (R142, R143) -/

/-- The checks of R143, but for the link. -/
abbrev SettingsOk (b : OrderBlock) : Prop :=
  param b 13 1 ≤ 1 ∧ 1 ≤ param b 14 2 ∧ 1 ≤ param b 16 2 ∧ 1 ≤ param b 18 2 ∧ 1 ≤ param b 22 1 ∧ param b 22 1 ≤ 15

/-- The settings that SET LINK writes into a link's record (R143). -/
def newSettings (b : OrderBlock) (k : LinkRec) : LinkRec :=
  { k with
    autoWake := param b 13 1 == 1, wakeLimit := param b 14 2, cueLimit := param b 16 2, closeLimit := param b 18 2
    silenceLimit := param b 20 2, watchdogLimit := param b 22 1 }

theorem linkArgs_inRange_iff (b : OrderBlock) :
    (linkArgs b).inRange = true
      ↔ 1 ≤ param b 14 2 ∧ 1 ≤ param b 16 2 ∧ 1 ≤ param b 18 2 ∧ 1 ≤ param b 22 1 ∧ param b 22 1 ≤ 15 := by
  simp only [LinkArgs.inRange, Bool.and_eq_true, decide_eq_true_eq, and_assoc]
  rfl

theorem takeSetLink_refused {b : OrderBlock} {s : State} (h : ¬ SettingsOk b ∨ ∀ l, linkCode l ≠ param b 12 1) :
    takeSetLink b s = finish b .range 0 s := by
  unfold takeSetLink
  simp only
  split
  · rename_i l w hlink hwake
    rw [if_neg fun hrange => ?_]
    obtain hbad | hno := h
    · refine hbad ⟨?_, (linkArgs_inRange_iff b).mp hrange⟩
      by_contra hle
      exact nomatch (flagCode_eq_none.mpr hle).symm.trans hwake
    · exact hno l (linkOfCode_eq_some.mp hlink)
  · rfl
  · rfl

theorem takeSetLink_accepted {b : OrderBlock} {s : State} {l : Link} (hlink : linkCode l = param b 12 1) (h : SettingsOk b) :
    takeSetLink b s
      = finish b .ok 0 (setLinkRec l (newSettings b (linkOf l (decideDown l s))) (decideDown l s)) := by
  obtain ⟨hwake, hrange⟩ := h
  have hl : (linkArgs b).link = some l := linkOfCode_eq_some.mpr hlink
  have hw : (linkArgs b).autoWake = some (param b 13 1 == 1) := flagCode_eq_some hwake
  simp only [takeSetLink, hl, hw, if_pos ((linkArgs_inRange_iff b).mpr hrange)]
  rfl

theorem decideDown_goes {l : Link} {s : State} (h : GoesDown l s) : decideDown l s = autoDownNow l s :=
  if_pos ((goesDown_iff l s).mpr h)

theorem decideDown_stays {l : Link} {s : State} (h : ¬ GoesDown l s) :
    decideDown l s = setLinkRec l { linkOf l s with downDue := false } s := if_neg ((goesDown_iff l s).not.mpr h)

/-! ### RESET LINK (R132, R146) -/

theorem takeResetLink_free {b : OrderBlock} {s : State} {l : Link} (hlink : linkCode l = param b 12 1)
    (h : (linkOf l s).held = false) :
    takeResetLink b s
      = finish b .ok (((linkOf l s).cause.map FaultCause.number).getD 0)
          (setLinkRec l (resetByOrder (linkOf l s)) s) := by
  simp only [takeResetLink, linkOfCode_eq_some.mpr hlink, h, Bool.false_eq_true, if_false]

/-- The detail count of RESET LINK: the number of the cause held, 0 for none. -/
theorem causeNumber_eq (o : Option FaultCause) :
    (o.map FaultCause.number).getD 0 = match o with | none => 0 | some c => c.number := by
  cases o <;> rfl

theorem takeResetLink_held {b : OrderBlock} {s : State} {l : Link} (hlink : linkCode l = param b 12 1)
    (h : (linkOf l s).held = true) : takeResetLink b s = finish b .passActive 0 s := by
  simp only [takeResetLink, linkOfCode_eq_some.mpr hlink, h, if_true]

/-- The record of a link that a reset puts DOWN, with the directives that the reset issues (R146). -/
def resetRec (issued : List Directive) (r : LinkRec) : LinkRec :=
  { r with
    queue := r.queue.take 1 ++ issued, state := .down, cause := none, recorderCode := 0, owner := .none
    lockedMark := false, timer := none, silence := 0, downDue := false }

theorem resetByOrder_down {r : LinkRec} (h : r.state = .down) : resetByOrder r = { r with queue := r.queue.take 1 } :=
  if_pos h

theorem resetByOrder_runs {r : LinkRec} (h : r.state = .rolling ∨ r.state = .recording) :
    resetByOrder r = resetRec [.out, .standby] r := by
  have hdown : r.state ≠ .down := by rcases h with h | h <;> simp [h]
  simp only [resetByOrder, if_neg hdown, downRec, resetQueue, resetDirectives, if_pos ((rollsOrRecords_iff _).mpr h)]
  rfl

theorem resetByOrder_stands {r : LinkRec} (hdown : r.state ≠ .down) (hroll : r.state ≠ .rolling) (hrec : r.state ≠ .recording) :
    resetByOrder r = resetRec [.standby] r := by
  have hruns : ¬ rollsOrRecords r.state = true := (rollsOrRecords_iff _).not.mpr (by simp [hroll, hrec])
  simp only [resetByOrder, if_neg hdown, downRec, resetQueue, resetDirectives, if_neg hruns]
  rfl

/-! ### WAKE LINK (R144) -/

theorem takeWakeLink_fault {b : OrderBlock} {s : State} {l : Link} (hlink : linkCode l = param b 12 1)
    (h : (linkOf l s).state = .fault) : takeWakeLink b s = finish b .mode 8 s := by
  simp only [takeWakeLink, linkOfCode_eq_some.mpr hlink, h, if_true]

theorem takeWakeLink_down {b : OrderBlock} {s : State} {l : Link} (hlink : linkCode l = param b 12 1)
    (h : (linkOf l s).state = .down) :
    takeWakeLink b s = finish b .ok 0 (tellLosses s (wakeRequest l .order s)) := by
  simp only [takeWakeLink, linkOfCode_eq_some.mpr hlink, h, reduceCtorEq, if_false, wakeByOrder, if_true]
  rfl

theorem takeWakeLink_awake {b : OrderBlock} {s : State} {l : Link} (hlink : linkCode l = param b 12 1)
    (hfault : (linkOf l s).state ≠ .fault) (hdown : (linkOf l s).state ≠ .down) :
    takeWakeLink b s
      = finish b .ok (linkOf l s).state.number (setLinkRec l { linkOf l s with owner := .order } s) := by
  simp only [takeWakeLink, linkOfCode_eq_some.mpr hlink, if_neg hfault, wakeByOrder, if_neg hdown]

theorem wakeRequest_room {l : Link} {s : State} (owner : WakeOwner) (h : (linkOf l s).state = .down)
    (hroom : Room (linkOf l s)) :
    wakeRequest l owner s
      = setLinkRec l
          { linkOf l s with
            queue := (linkOf l s).queue ++ [.wake], state := .waking, owner := owner
            timer := some ⟨.wake, now s, (linkOf l s).wakeLimit⟩ } s := by
  rw [wakeRequest, if_pos h, issue, issueOr_room _ _ _ _ _ hroom]

/-- A link record written without its link entering FAULT tells the pass controller of nothing (R141, R162). -/
theorem tellLosses_no_fault {l : Link} {r : LinkRec} {s : State} (h : r.state ≠ .fault) :
    tellLosses s (setLinkRec l r s) = setLinkRec l r s := by
  refine tellLosses_of_no_fault fun m => ?_
  by_cases hm : m = l
  · subst hm
    simp [faultedIn, h]
  · rw [faultedIn, linkOf_setLinkRec_other l m r s hm, bne, Bool.not_and_self]

/-- Settles O19: each order's refusals, and what it makes of the link in the state that the link holds. -/
theorem linkOrdersActByState : Obligations.LinkOrdersActByState := by
  unfold Obligations.LinkOrdersActByState
  refine ⟨fun s b => ⟨fun hb => ?_, fun hb => ?_⟩, fun s b hb => ?_⟩
  · intro ok
    have htake : exec .setLink s = .next (takeSetLink b s) := next_withOrder hb _
    rw [htake]
    refine ⟨fun h => by rw [takeSetLink_refused h], fun l hl hok => ?_⟩
    intro r goes changed
    rw [takeSetLink_accepted hl hok]
    refine ⟨fun (hstays : ¬ GoesDown l s) => ?_, fun (hgoes : GoesDown l s) hroom => ?_⟩
    · rw [decideDown_stays hstays, linkOf_setLinkRec_same, setLinkRec_setLinkRec]
      rfl
    · rw [decideDown_goes hgoes, autoDownNow_room hroom, linkOf_setLinkRec_same, setLinkRec_setLinkRec]
      rfl
  · have htake : exec .resetLink s = .next (takeResetLink b s) := next_withOrder hb _
    rw [htake]
    refine ⟨fun h => by simp only [takeResetLink, linkOfCode_eq_none.mpr h], fun l hl => ?_⟩
    intro r code down
    have hcode : ((linkOf l s).cause.map FaultCause.number).getD 0 = code := causeNumber_eq _
    refine ⟨fun hheld => ?_, fun hfree hdown => ?_, fun hfree hruns => ?_, fun hfree hdown hroll hrec => ?_⟩
    · rw [takeResetLink_held hl hheld]
    · rw [takeResetLink_free hl hfree, hcode, resetByOrder_down hdown]
    · rw [takeResetLink_free hl hfree, hcode, resetByOrder_runs hruns]
      rfl
    · rw [takeResetLink_free hl hfree, hcode, resetByOrder_stands hdown hroll hrec]
      rfl
  · have htake : exec .wakeLink s = .next (takeWakeLink b s) := next_withOrder hb _
    rw [htake]
    refine ⟨fun h => by simp only [takeWakeLink, linkOfCode_eq_none.mpr h], fun l hl => ?_⟩
    intro r
    refine ⟨fun hfault => ?_, fun hdown hroom => ?_, fun hfault hdown => ?_⟩
    · rw [takeWakeLink_fault hl hfault]
    · rw [takeWakeLink_down hl hdown, wakeRequest_room .order hdown hroom, tellLosses_no_fault]
      · rfl
      · simp
    · rw [takeWakeLink_awake hl hfault hdown]

end Sys2Proof.Machine
end

section
/-!
PROOF. LineEvents: what the line brings to a link: bytes, frames that are discarded, reports that move the link on, sent
directives, and timers that are not yet due (R130, R132 to R140).
-/
namespace Sys2Proof.Machine

/-! ### Bytes (R133) -/

theorem takeByte_hunting_start {l : Link} {s : State} (h : (linkOf l s).framer = .hunting) :
    takeByte l 165 s = setFramer l (.assembling (now s) [165]) s := by
  simp [takeByte, h, Config.startByte]

theorem takeByte_hunting_other {l : Link} {x : Byte} {s : State} (h : (linkOf l s).framer = .hunting) (hx : x ≠ 165) :
    takeByte l x s = s := by
  simp only [takeByte, h]
  exact if_neg hx

/-- A hunting framer drops every byte that starts no frame. -/
theorem takeBytes_hunting {l : Link} {bytes : List Byte} {s : State} (h : (linkOf l s).framer = .hunting)
    (hbytes : ∀ x ∈ bytes, x ≠ 165) : takeBytes l bytes s = s := by
  unfold takeBytes
  induction bytes with
  | nil => rfl
  | cons x bytes ih =>
    obtain ⟨hx, hrest⟩ := List.forall_mem_cons.mp hbytes
    rw [List.foldl_cons, takeByte_hunting_other h hx, ih hrest]

/-- A framer's move is no fault of its link. -/
theorem tellLosses_setFramer (l : Link) (f : Framer) (s : State) : tellLosses s (setFramer l f s) = setFramer l f s :=
  tellLosses_setLinkRec rfl

theorem tellLosses_huntAgain (l : Link) (s : State) : tellLosses s (huntAgain l s) = huntAgain l s :=
  tellLosses_setFramer ..

@[simp] theorem linkOf_huntAgain (l : Link) (s : State) : linkOf l (huntAgain l s) = { linkOf l s with framer := .hunting } :=
  linkOf_setFramer ..

@[simp] theorem setLinkRec_huntAgain (l : Link) (r : LinkRec) (s : State) :
    setLinkRec l r (huntAgain l s) = setLinkRec l r s := setLinkRec_setLinkRec ..

/-! ### Frames (R131, R133) -/

@[simp] theorem reportOfCode_code (k : ReportKind) : reportOfCode k.code = some k := by cases k <;> rfl

theorem reportOfCode_eq_none {kind : BitVec 8} (h : kind.toNat < 17 ∨ 22 < kind.toNat) : reportOfCode kind = none := by
  have other (n : BitVec 8) (hn : 17 ≤ n.toNat ∧ n.toNat ≤ 22) : kind ≠ n := by
    rintro rfl
    omega
  simp only [reportOfCode, other 17 (by decide), other 18 (by decide), other 19 (by decide), other 20 (by decide),
    other 21 (by decide), other 22 (by decide), if_false]

/-- The framer's judgement of a report with a good sum. -/
theorem judgeFrame_code (std : Standard) (k : ReportKind) (v : BitVec 24) :
    judgeFrame std k.code v (messageSum k.code v) = if valuePasses std k v = true then some k else none := by
  simp [judgeFrame, Option.filter]

/-- Whatever its sum, a frame is discarded when its value does not pass for its kind. -/
theorem judgeFrame_value {std : Standard} {k : ReportKind} {v : BitVec 24} (h : valuePasses std k v = false)
    (sum : BitVec 8) : judgeFrame std k.code v sum = none := by
  simp [judgeFrame, Option.filter, h]

theorem messageSum_eq (kind : BitVec 8) (v : BitVec 24) :
    messageSum kind v
      = 165 + kind + BitVec.ofNat 8 v.toNat + BitVec.ofNat 8 (v.toNat / 256) + BitVec.ofNat 8 (v.toNat / 65536) := by
  rw [messageSum, Nat.shiftRight_eq_div_pow, Nat.shiftRight_eq_div_pow]
  rfl

/-- The frames that R133 discards. -/
theorem judgeFrame_eq_none {std : Standard} {kind sum : BitVec 8} {v : BitVec 24}
    (h : sum ≠ messageSum kind v ∨ kind.toNat < 17 ∨ 22 < kind.toNat ∨ (kind = 17 ∧ 1 < v.toNat)
      ∨ ((kind = 18 ∨ kind = 19 ∨ kind = 20) ∧ tcRange std ≤ v.toNat) ∨ (kind = 22 ∧ 65535 < v.toNat)) :
    judgeFrame std kind v sum = none := by
  obtain hsum | hlow | hhigh | ⟨rfl, hv⟩ | ⟨rfl | rfl | rfl, hv⟩ | ⟨rfl, hv⟩ := h
  · exact if_pos hsum
  · simp [judgeFrame, reportOfCode_eq_none (.inl hlow)]
  · simp [judgeFrame, reportOfCode_eq_none (.inr hhigh)]
  · exact judgeFrame_value (k := .awake) (decide_eq_false (Nat.not_le.mpr hv)) sum
  · exact judgeFrame_value (k := .cued) (decide_eq_false (Nat.not_lt.mpr hv)) sum
  · exact judgeFrame_value (k := .locked) (decide_eq_false (Nat.not_lt.mpr hv)) sum
  · exact judgeFrame_value (k := .written) (decide_eq_false (Nat.not_lt.mpr hv)) sum
  · exact judgeFrame_value (k := .trouble) (decide_eq_false (Nat.not_le.mpr hv)) sum

/-! ### Reports (R134) -/

/-- The states that take a report (R136 to R141). -/
def Takes : ReportKind → LinkState → Prop
  | .awake, x => x = .waking
  | .cued, x => x = .cueing
  | .locked, x => x = .rolling ∨ x = .recording
  | .written, x => x = .recording
  | .done, x => x = .closing
  | .trouble, x => ¬ (x = .down ∨ x = .fault)

theorem takeReport_ignored {l : Link} {k : ReportKind} {s : State} (h : ¬ Takes k (linkOf l s).state) (v : Nat) :
    takeReport l k v s = s := by
  cases k with
  | locked => exact if_neg ((rollsOrRecords_iff _).not.mpr h)
  | trouble => exact if_pos (not_not.mp h)
  | awake | cued | written | done => exact if_neg h

section
variable {l : Link} {k : ReportKind} {v : BitVec 24} {s : State} {noted : BitVec 32}
  (hframer : (linkOf l s).framer = .assembling noted [165])
include hframer

theorem takeFrame_eq :
    takeFrame l k v s
      = if valuePasses s.follower.standard k v = true then tellLosses s (takeReport l k v.toNat (huntAgain l s))
        else huntAgain l s := by
  rw [takeFrame, reportFrame, takeBytes_message l _ v _ s noted 165 hframer, completeFrame, judgeFrame_code]
  cases valuePasses s.follower.standard k v with
  | true => rfl
  | false => exact tellLosses_huntAgain l s

/-- A report that the link's state does not take, or whose value does not pass, ends its frame and nothing more. -/
theorem takeFrame_ignored (h : ¬ Takes k (linkOf l s).state) : takeFrame l k v s = huntAgain l s := by
  rw [takeFrame_eq hframer, takeReport_ignored (by rw [linkOf_huntAgain]; exact h), tellLosses_huntAgain, ite_self]

/-- A report that writes the link's record without a fault. -/
theorem takeFrame_moves {r : LinkRec} (hv : valuePasses s.follower.standard k v = true)
    (htake : takeReport l k v.toNat (huntAgain l s) = setLinkRec l r (huntAgain l s)) (hr : r.state ≠ .fault) :
    takeFrame l k v s = setLinkRec l r s := by
  rw [takeFrame_eq hframer, if_pos hv, htake, setLinkRec_huntAgain, tellLosses_no_fault hr]

theorem damagedFrame_discarded {kind sum : BitVec 8} (h : judgeFrame s.follower.standard kind v sum = none) :
    exec (.damagedFrame l kind v sum) s = .next (huntAgain l s) := by
  have hbytes : takeBytes l (messageBytes kind v sum) s = huntAgain l s := by
    rw [takeBytes_message l kind v sum s noted 165 hframer, completeFrame, h]
  exact congrArg Host.Outcome.next ((congrArg (tellLosses s) hbytes).trans (tellLosses_huntAgain l s))

end

theorem takeAwake_tape {l : Link} {v : Nat} {s : State} (h : (linkOf l s).state = .waking) (hv : v = 1) :
    takeAwake l v s = setLinkRec l { linkOf l s with state := .idle, timer := none } s := by
  simp [takeAwake, h, hv]

theorem takeCued_requested {l : Link} {v : Nat} {s : State} (h : (linkOf l s).state = .cueing)
    (hv : v = (linkOf l s).requestedTc) :
    takeCued l v s = setLinkRec l { linkOf l s with state := .armed, timer := none } s := by
  simp [takeCued, h, hv]

theorem takeLocked_marks {l : Link} {s : State} (h : (linkOf l s).state = .rolling ∨ (linkOf l s).state = .recording) :
    takeLocked l s = setLinkRec l { linkOf l s with lockedMark := true } s := if_pos ((rollsOrRecords_iff _).mpr h)

theorem takeWritten_expected {l : Link} {v : Nat} {s : State} (h : (linkOf l s).state = .recording)
    (hv : v = (linkOf l s).expectedTc) :
    takeWritten l v s
      = setLinkRec l
          { linkOf l s with
            expectedTc := tcAdd s.follower.standard (linkOf l s).expectedTc 1
            timer := (linkOf l s).timer.map (restart s) } s := by
  simp [takeWritten, h, hv]

theorem takeDone_closes {l : Link} {s : State} (h : (linkOf l s).state = .closing) :
    takeDone l s = setLinkRec l { linkOf l s with state := .idle, timer := none } s := if_pos h

/-- A timecode one video frame on (00_scope.md, Field standards). -/
theorem tcAdd_one (std : Standard) (tc : Nat) : tcAdd std tc 1 = (tc + 1) % tcRange std := by
  rw [tcAdd, ← Nat.cast_succ, ← Int.natCast_mod, Int.toNat_natCast]

/-! ### Timers that are not yet due (R135) -/

theorem checkTimer_early {l : Link} {s : State}
    (h : ∀ t, (linkOf l s).timer = some t → (s.follower.record.field - t.start).toNat < t.limit) : checkTimer l s = s := by
  refine if_neg fun hdue => ?_
  unfold timerDue at hdue
  cases htimer : (linkOf l s).timer with
  | none => simp [htimer] at hdue
  | some t =>
    simp only [htimer, Bool.and_eq_true, decide_eq_true_eq] at hdue
    exact absurd (h t htimer) (Nat.not_lt.mpr hdue.2)

theorem expireTimer_early {l : Link} {s : State}
    (h : ∀ t, (linkOf l s).timer = some t → (s.follower.record.field - t.start).toNat < t.limit) (k : TimerKind) :
    expireTimer k l s = s := by
  rw [expireTimer, expiryOf, checkTimer_early h, ite_self, tellLosses_self]

/-- The bytes of a message none of which starts a frame (Layouts, Link message). -/
theorem messageBytes_ne_start {kind sum : BitVec 8} {v : BitVec 24} (hkind : kind ≠ 165) (hlow : v.toNat % 256 ≠ 165)
    (hmid : v.toNat / 256 % 256 ≠ 165) (hhigh : v.toNat / 65536 ≠ 165) (hsum : sum ≠ 165) :
    ∀ x ∈ messageBytes kind v sum, x ≠ 165 := by
  have byte (i : Nat) (h : v.toNat / 2 ^ i % 256 ≠ 165) : v.extractLsb' i 8 ≠ 165 := fun he => h <| by
    have := congrArg BitVec.toNat he
    rwa [BitVec.extractLsb'_toNat, Nat.shiftRight_eq_div_pow] at this
  have hlast : v.toNat / 2 ^ 16 % 256 ≠ 165 := by
    have := v.isLt
    omega
  simp only [messageBytes, List.forall_mem_cons]
  exact ⟨hkind, byte 0 (by simpa using hlow), byte 8 hmid, byte 16 hlast, hsum, by simp⟩

/-- Settles O38: the reports that the link's state takes, and what the line brings that is no report to take. -/
theorem lineEventsMoveTheLink : Obligations.LineEventsMoveTheLink := by
  unfold Obligations.LineEventsMoveTheLink
  refine ⟨fun s l v noted hframer => ?_, fun s l => ?_⟩
  · intro r range heard
    have move {k : ReportKind} {x : LinkRec} (hv : valuePasses s.follower.standard k v = true)
        (htake : takeReport l k v.toNat (huntAgain l s) = setLinkRec l x (huntAgain l s)) (hx : x.state ≠ .fault) :
        (.next (takeFrame l k v s) : Host.Outcome State Fault Refusal) = .next (setLinkRec l x s) :=
      congrArg _ (takeFrame_moves hframer hv htake hx)
    have hheard : linkOf l (huntAgain l s) = heard := linkOf_huntAgain l s
    refine ⟨fun hstate hv => ?_, fun hstate hlt hv => ?_, fun hstate hlt => ?_, fun hstate hlt hv => ?_, fun hstate => ?_⟩
    · have htake := takeAwake_tape (l := l) (s := huntAgain l s) (by rw [hheard]; exact hstate) hv
      rw [hheard] at htake
      exact move (k := .awake) (decide_eq_true hv.le) htake fun h => nomatch h
    · have htake := takeCued_requested (l := l) (v := v.toNat) (s := huntAgain l s) (by rw [hheard]; exact hstate)
        (by rw [hheard]; exact hv)
      rw [hheard] at htake
      exact move (k := .cued) (decide_eq_true hlt) htake fun h => nomatch h
    · have htake := takeLocked_marks (l := l) (s := huntAgain l s) (by rw [hheard]; exact hstate)
      rw [hheard] at htake
      refine move (k := .locked) (decide_eq_true hlt) htake ?_
      rcases hstate with h | h <;> exact fun hf => nomatch h.symm.trans hf
    · have htake := takeWritten_expected (l := l) (v := v.toNat) (s := huntAgain l s) (by rw [hheard]; exact hstate)
        (by rw [hheard]; exact hv)
      rw [hheard, tcAdd_one] at htake
      exact move (k := .written) (decide_eq_true hlt) htake fun h => nomatch hstate.symm.trans h
    · have htake := takeDone_closes (l := l) (s := huntAgain l s) (by rw [hheard]; exact hstate)
      rw [hheard] at htake
      exact move (k := .done) rfl htake fun h => nomatch h
  · intro r range heard
    refine ⟨fun hhunt => ⟨?_, fun kind sum v hkind hlow hmid hhigh hsum => ?_⟩, fun noted bytes hframer hlen => ?_, ?_,
      fun noted kind sum v hframer => ?_, fun hearly => ?_⟩
    · have hstart : takeByte l 165 s = setFramer l (.assembling (now s) [165]) s := takeByte_hunting_start hhunt
      exact congrArg _ ((congrArg (tellLosses s) hstart).trans (tellLosses_setFramer ..))
    · have hbytes := takeBytes_hunting hhunt (messageBytes_ne_start hkind hlow hmid hhigh hsum)
      exact congrArg _ ((congrArg (tellLosses s) hbytes).trans (tellLosses_self s))
    · have hgather := takeByte_gather l 165 s noted bytes hframer hlen
      exact congrArg _ ((congrArg (tellLosses s) hgather).trans (tellLosses_setFramer ..))
    · rw [List.drop_one]
      rfl
    · have ignore {k : ReportKind} (h : ¬ Takes k r.state) :
          (.next (takeFrame l k v s) : Host.Outcome State Fault Refusal) = .next heard :=
        congrArg _ (takeFrame_ignored hframer h)
      refine ⟨fun h => damagedFrame_discarded hframer (judgeFrame_eq_none ?_), ignore (k := .awake), ignore (k := .cued),
        fun hroll hrec => ignore (k := .locked) (not_or.mpr ⟨hroll, hrec⟩), ignore (k := .written), ignore (k := .done),
        fun h => ignore (k := .trouble) (not_not.mpr h)⟩
      rw [messageSum_eq]
      exact h
    · have early (k : TimerKind) : (.next (expireTimer k l s) : Host.Outcome State Fault Refusal) = .next s :=
        congrArg _ (expireTimer_early hearly k)
      exact ⟨early .wake, early .cue, early .watchdog, early .close⟩

end Sys2Proof.Machine
end

section
/-!
PROOF. LinkFaults: a link enters FAULT by a report or a timer, and the pass controller deals with the loss in the same step (R135
to R137, R139 to R141, R162, R166).
-/
namespace Sys2Proof.Machine

/-! ### A link enters FAULT (R141) -/

theorem faultRec_eq (cause : FaultCause) (code : Nat) (r : LinkRec) :
    faultRec cause code r
      = { r with
          state := .fault, cause := some cause, recorderCode := code, lockedMark := false, timer := none
          queue := r.queue.take 1 ++ (if r.state = .rolling ∨ r.state = .recording then [.out] else []) } := by
  simp only [faultRec, rollsOrRecords_iff]
  rfl

/-- Behind the directive on the line stands an OUT at most. -/
theorem faultRec_room (cause : FaultCause) (code : Nat) (r : LinkRec) : Room (faultRec cause code r) := by
  have hline : (keepLine r.queue).length ≤ 1 := by simp [keepLine]
  have hout : (if rollsOrRecords r.state then [Directive.out] else []).length ≤ 1 := by split <;> simp
  rw [Room, faultRec, List.length_append]
  omega

/-- From `s` to `f` the link `l` has entered FAULT, and of the links, the pass and the follower nothing else has changed. -/
structure FaultOf (l : Link) (s f : State) : Prop where
  before : (linkOf l s).state ≠ .fault
  after : (linkOf l f).state = .fault
  held : (linkOf l f).held = (linkOf l s).held
  room : Room (linkOf l f)
  other : ∀ m, m ≠ l → linkOf m f = linkOf m s
  pass : f.pass = s.pass
  follower : f.follower = s.follower

theorem linkOf_enterFault (l : Link) (c : FaultCause) (code value : Nat) (tc : Option Nat) (s : State) :
    linkOf l (enterFault l c code value tc s) = faultRec c code (linkOf l s) :=
  (linkOf_congr l _ (faultLink l c code s) (offer_links ..)).trans (linkOf_setLinkRec_same ..)

theorem linkOf_enterFault_other {l m : Link} (h : m ≠ l) (c : FaultCause) (code value : Nat) (tc : Option Nat) (s : State) :
    linkOf m (enterFault l c code value tc s) = linkOf m s :=
  (linkOf_congr m _ (faultLink l c code s) (offer_links ..)).trans (linkOf_setLinkRec_other l m _ s h)

theorem faultOf_enterFault {l : Link} {s : State} (h : (linkOf l s).state ≠ .fault) (c : FaultCause) (code value : Nat)
    (tc : Option Nat) : FaultOf l s (enterFault l c code value tc s) where
  before := h
  after := by rw [linkOf_enterFault]; rfl
  held := by rw [linkOf_enterFault]; rfl
  room := by rw [linkOf_enterFault]; exact faultRec_room ..
  other m hm := linkOf_enterFault_other hm ..
  pass := offer_pass ..
  follower := (enterFault_frame ..).follower

/-- The end of the report's frame does not show. -/
theorem FaultOf.of_huntAgain {l : Link} {s f : State} (h : FaultOf l (huntAgain l s) f) : FaultOf l s f where
  before := by simpa using h.before
  after := h.after
  held := by simpa using h.held
  room := h.room
  other m hm := (h.other m hm).trans (linkOf_setLinkRec_other l m _ s hm)
  pass := h.pass
  follower := h.follower

/-- The pass controller is told of this link, and of no other (R141, R162). -/
theorem FaultOf.tellLosses_eq {l : Link} {s f : State} (h : FaultOf l s f) : tellLosses s f = memberLoss l f := by
  have hself : faultedIn s f l = true := by simp [faultedIn, h.before, h.after]
  have hother (m : Link) (hm : m ≠ l) : faultedIn s f m = false := by
    rw [faultedIn, h.other m hm, bne, Bool.not_and_self]
  cases l with
  | a => simp [tellLosses, Link.all, hself, hother .b, hother .c]
  | b => simp [tellLosses, Link.all, hself, hother .a, hother .c]
  | c => simp [tellLosses, Link.all, hself, hother .a, hother .b]

/-! ### The loss of a member (R162) -/

theorem withoutFault_get (x : LinkSet) (s : State) (m : Link) :
    (withoutFault x s).get m = (x.get m && (linkOf m s).state != .fault) := by cases m <;> rfl

theorem ne_noLinks_iff (x : LinkSet) : x ≠ noLinks ↔ ∃ m, x.get m = true := by
  constructor
  · intro h
    by_contra hno
    have hfalse (m : Link) : x.get m = false := by
      rw [← Bool.not_eq_true]
      exact fun hm => hno ⟨m, hm⟩
    refine h ?_
    obtain ⟨a, b, c⟩ := x
    have ha : a = false := hfalse .a
    have hb : b = false := hfalse .b
    have hc : c = false := hfalse .c
    rw [ha, hb, hc]
    rfl
  · rintro ⟨m, hm⟩ rfl
    cases m <;> cases hm

/-- Some resolved group has the link, and is not one that is ALL with SAFETY and keeps another member (R162). -/
def MemberLost (l : Link) (p : Pass) (s : State) : Prop :=
  ∃ (g : Fin 16) (set : LinkSet) (mode : RouteMode) (safety : Bool),
    p.groups[g.val] = .resolved set mode safety ∧ set.get l = true
      ∧ ¬ (mode = .all ∧ safety = true ∧ ∃ m, m ≠ l ∧ set.get m = true ∧ (linkOf m s).state ≠ .fault)

theorem groupLost_resolved_iff {l : Link} {f : State} (hfault : (linkOf l f).state = .fault) (set : LinkSet) (mode : RouteMode)
    (safety : Bool) :
    groupLost l f (.resolved set mode safety) = true
      ↔ set.get l = true
        ∧ ¬ (mode = .all ∧ safety = true ∧ ∃ m, m ≠ l ∧ set.get m = true ∧ (linkOf m f).state ≠ .fault) := by
  have hkeeps : withoutFault set f ≠ noLinks ↔ ∃ m, m ≠ l ∧ set.get m = true ∧ (linkOf m f).state ≠ .fault := by
    rw [ne_noLinks_iff]
    refine exists_congr fun m => ?_
    rw [withoutFault_get, Bool.and_eq_true, bne_iff_ne]
    refine ⟨fun hm => ⟨?_, hm⟩, And.right⟩
    rintro rfl
    exact hm.2 hfault
  simp only [groupLost, Bool.and_eq_true, Bool.not_eq_true', ← Bool.not_eq_true, beq_iff_eq, bne_iff_ne, hkeeps, and_assoc]

theorem groupsLost_iff {l : Link} {p : Pass} {f : State} (hfault : (linkOf l f).state = .fault) :
    p.groups.toList.any (groupLost l f) = true ↔ MemberLost l p f := by
  simp only [List.any_eq_true, Vector.mem_toList_iff, Vector.mem_iff_getElem]
  constructor
  · rintro ⟨x, ⟨i, hi, rfl⟩, hlost⟩
    cases hx : p.groups[i] with
    | resolved set mode safety =>
      rw [hx] at hlost
      exact ⟨⟨i, hi⟩, set, mode, safety, hx, (groupLost_resolved_iff hfault ..).mp hlost⟩
    | _ =>
      rw [hx] at hlost
      cases hlost
  · rintro ⟨g, set, mode, safety, hx, hlost⟩
    exact ⟨_, ⟨g, g.isLt, rfl⟩, hx ▸ (groupLost_resolved_iff hfault ..).mpr hlost⟩

/-- The lost link's own state does not count. -/
theorem FaultOf.memberLost_iff {l : Link} {s f : State} (h : FaultOf l s f) (p : Pass) :
    MemberLost l p f ↔ MemberLost l p s := by
  have hstays (set : LinkSet) : (∃ m, m ≠ l ∧ set.get m = true ∧ (linkOf m f).state ≠ .fault)
      ↔ ∃ m, m ≠ l ∧ set.get m = true ∧ (linkOf m s).state ≠ .fault :=
    exists_congr fun m => and_congr_right fun hm => by rw [h.other m hm]
  simp only [MemberLost, hstays]

theorem recordsOrNears_iff (x : PassState) : x.recordsOrNears = true ↔ x = .waiting ∨ x = .rolling ∨ x = .recording := by
  simp [PassState.recordsOrNears, or_assoc]

/-- The pass without the link in its recording set. -/
def leftPass (l : Link) (p : Pass) : Pass := { p with recording := p.recording.set l false }

/-- The links that record in a pass that loses `l`, in the order A, B, C. -/
def otherRecorders (l : Link) (s : State) : List Link :=
  [Link.a, Link.b, Link.c].filter fun m =>
    decide (m ≠ l) && (linkOf m s).held && decide ((linkOf m s).state = .recording)

section
variable {l : Link} {s f : State} (h : FaultOf l s f)
include h

/-- A link that takes no part in a resolved pass is no loss (R162). -/
theorem FaultOf.untold
    (hfree : s.pass = none ∨ (linkOf l s).held = false
      ∨ ∃ p, s.pass = some p ∧ (p.state = .preparing ∨ p.state = .closing)) : tellLosses s f = f := by
  rw [h.tellLosses_eq, memberLoss, h.pass]
  cases hpass : s.pass with
  | none => rfl
  | some p =>
    refine if_neg ?_
    rw [Bool.and_eq_true, recordsOrNears_iff, h.held]
    rintro ⟨hnear, hheld⟩
    obtain hnone | hfalse | ⟨q, hq, hstate⟩ := hfree
    · exact nomatch hpass.symm.trans hnone
    · exact nomatch hheld.symm.trans hfalse
    · cases hpass.symm.trans hq
      rcases hstate with hs | hs <;> simp [hs] at hnear

variable {p : Pass} (hpass : s.pass = some p) (hheld : (linkOf l s).held = true)
  (hstate : p.state = .waiting ∨ p.state = .rolling ∨ p.state = .recording)
include hpass hheld hstate

theorem FaultOf.told :
    tellLosses s f
      = if p.groups.toList.any (groupLost l f) then abortPassNow .linkFault { f with pass := some (leftPass l p) }
        else { f with pass := some (leftPass l p) } := by
  have hcond : (p.state.recordsOrNears && (linkOf l f).held) = true := by
    rw [h.held, hheld, Bool.and_true, recordsOrNears_iff]
    exact hstate
  have hleft : changePass (fun q => { q with recording := q.recording.set l false }) f
      = { f with pass := some (leftPass l p) } := by
    rw [changePass, h.pass, hpass]
    rfl
  rw [h.tellLosses_eq, memberLoss, h.pass, hpass]
  simp only [hcond, if_true, hleft]

/-- The groups that have the link keep a member each, and the pass goes on without the link (R162). -/
theorem FaultOf.pass_goes_on (hkeeps : ¬ MemberLost l p s) : tellLosses s f = { f with pass := some (leftPass l p) } := by
  rw [h.told hpass hheld hstate, if_neg (((groupsLost_iff h.after).trans (h.memberLost_iff p)).not.mpr hkeeps)]

theorem FaultOf.pass_aborts (hlost : MemberLost l p s) :
    tellLosses s f = abortPassNow .linkFault { f with pass := some (leftPass l p) } := by
  rw [h.told hpass hheld hstate, if_pos (((groupsLost_iff h.after).trans (h.memberLost_iff p)).mpr hlost)]

/-- A pass that loses a member is aborted, whatever the send queues hold (R162, R166). -/
theorem FaultOf.lost_pass (hlost : MemberLost l p s) : (tellLosses s f).pass = some (abortedPass .linkFault p) := by
  have hopen : (leftPass l p).state ≠ .closing := by
    show p.state ≠ .closing
    rcases hstate with hs | hs | hs <;> simp [hs]
  rw [h.pass_aborts hpass hheld hstate hlost, abortPassNow_pass rfl hopen]
  rfl

omit hpass hheld hstate in
theorem FaultOf.recorders_eq :
    ([Link.a, .b, .c].filter fun m => (linkOf m f).held && decide ((linkOf m f).state = .recording)) = otherRecorders l s := by
  refine List.filter_congr fun m _ => ?_
  by_cases hm : m = l
  · subst hm
    simp [h.after]
  · simp [hm, h.other m hm]

/-- The abort for a lost member, while the other held links' send queues have room (R162, R166). -/
theorem FaultOf.lost_room (hlost : MemberLost l p s) (hroom : ∀ m, m ≠ l → (linkOf m s).held = true → Room (linkOf m s)) :
    tellLosses s f
      = offerAll ((otherRecorders l s).map fun m => editOutEntry p m (abortIndex p) s)
          { f with
            pass := some (abortedPass .linkFault p), links := ⟨abortedLink f .a, abortedLink f .b, abortedLink f .c⟩ } := by
  have hopen : (leftPass l p).state ≠ .closing := by
    show p.state ≠ .closing
    rcases hstate with hs | hs | hs <;> simp [hs]
  have hrooms (m : Link) (hm : (linkOf m f).held = true) : Room (linkOf m f) := by
    by_cases he : m = l
    · exact he ▸ h.room
    · rw [h.other m he] at hm ⊢
      exact hroom m he hm
  have habort := abortPassNow_room (cause := .linkFault) (s := { f with pass := some (leftPass l p) }) rfl hopen hrooms
  have hedits : heldEdits (leftPass l p) (abortIndex p) { f with pass := some (leftPass l p) } .a
      ++ heldEdits (leftPass l p) (abortIndex p) { f with pass := some (leftPass l p) } .b
      ++ heldEdits (leftPass l p) (abortIndex p) { f with pass := some (leftPass l p) } .c
        = (otherRecorders l s).map fun m => editOutEntry p m (abortIndex p) s := by
    rw [heldEdits_all, ← h.recorders_eq]
    refine List.map_congr_left fun m _ => ?_
    rw [editOutEntry, editOutEntry, entryNow, entryNow, editTc, editTc, ← h.follower]
    rfl
  rw [h.pass_aborts hpass hheld hstate hlost]
  exact habort.trans (congrArg (offerAll · _) hedits)

end

end Sys2Proof.Machine
end

section
/-!
PROOF. LinkFaultReports: the reports and timers that fault a link (R135 to R137, R139 to R141), and the directives that a full send
queue does not take (R132, R139, R160).
-/
namespace Sys2Proof.Machine

/-! ### Reports that fault a link (R136, R137, R139, R141) -/

theorem takeAwake_noTape {l : Link} {v : Nat} {s : State} (h : (linkOf l s).state = .waking) (hv : v ≠ 1) :
    takeAwake l v s = enterFault l .noTape 0 1 none s := by
  simp [takeAwake, h, hv, LinkState.number]

theorem takeCued_mismatch {l : Link} {v tc : Nat} {s : State} (h : (linkOf l s).state = .cueing)
    (htc : (linkOf l s).requestedTc = tc) (hv : v ≠ tc) : takeCued l v s = enterFault l .cueMismatch 0 v (some tc) s := by
  simp [takeCued, h, htc, hv]

theorem takeWritten_mismatch {l : Link} {v tc : Nat} {s : State} (h : (linkOf l s).state = .recording)
    (htc : (linkOf l s).expectedTc = tc) (hv : v ≠ tc) : takeWritten l v s = enterFault l .timecode 0 v (some tc) s := by
  simp [takeWritten, h, htc, hv]

theorem takeTrouble_faults {l : Link} {v : Nat} {s : State} (hdown : (linkOf l s).state ≠ .down)
    (hfault : (linkOf l s).state ≠ .fault) : takeTrouble l v s = enterFault l .trouble v v none s :=
  if_neg (not_or.mpr ⟨hdown, hfault⟩)

/-- A report that faults its link: the pass controller is told of what the report makes of the state after its frame. -/
theorem takeFrame_faults {l : Link} {k : ReportKind} {v : BitVec 24} {s : State} {noted : BitVec 32} {f : State}
    (hframer : (linkOf l s).framer = .assembling noted [165]) (hv : valuePasses s.follower.standard k v = true)
    (htake : takeReport l k v.toNat (huntAgain l s) = f) : takeFrame l k v s = tellLosses s f := by
  rw [takeFrame_eq hframer, if_pos hv, htake]

/-! ### Timers that expire (R135) -/

theorem expireTimer_due {l : Link} {s : State} {k : TimerKind} {start : BitVec 32} {limit : Nat}
    (hrun : s.port.running = true) (hlimit : limit ≤ (s.follower.record.field - start).toNat)
    (htimer : (linkOf l s).timer = some ⟨k, start, limit⟩) : expireTimer k l s = tellLosses s (expireKind l k s) := by
  have hdue : timerDue l s = true := by
    simp only [timerDue, hrun, htimer, Bool.true_and, decide_eq_true_eq]
    exact hlimit
  rw [expireTimer, expiryOf, if_pos (by rw [htimer]; rfl), checkTimer, if_pos hdue, htimer]

/-- Settles O39: each cause faults the link, and the pass controller deals with the loss. -/
theorem linkFaultsAreReported : Obligations.LinkFaultsAreReported := by
  unfold Obligations.LinkFaultsAreReported
  intro s l r range fault dealt
  have hfault (c : FaultCause) (code value : Nat) (tc : Option Nat) :
      enterFault l c code value tc s = fault r.framer c code value tc := by
    rw [enterFault, faultLink, faultRec_eq]
    rfl
  have hheard (c : FaultCause) (code value : Nat) (tc : Option Nat) :
      enterFault l c code value tc (huntAgain l s) = fault .hunting c code value tc := by
    rw [enterFault, faultLink, faultRec_eq, setLinkRec_huntAgain, linkOf_huntAgain]
    rfl
  have hdealt {f : State} (h : FaultOf l s f) : dealt f (tellLosses s f) := by
    refine ⟨h.untold, fun p hpass hheld hstate => ?_⟩
    intro lost stays aborted x closed scene edit outs
    have hleft : leftPass l p = { p with recording := ⟨stays .a, stays .b, stays .c⟩ } := by
      rw [leftPass]
      cases l <;> simp [PerLink.set, PerLink.get, stays]
    have hclosed (m : Link) : abortedLink f m = closed m := by
      rw [abortedLink, now, h.follower]
      rfl
    refine ⟨fun hkeeps => ?_, fun hlost => ⟨h.lost_pass hpass hheld hstate hlost, fun hroom => ?_⟩⟩
    · rw [h.pass_goes_on hpass hheld hstate hkeeps, hleft]
    · rw [h.lost_room hpass hheld hstate hlost hroom, hclosed, hclosed, hclosed]
      refine (offerAll_from _ (t := f) ?_).trans ?_
      · rfl
      · rw [offerAll, List.foldl_map]
        rfl
  have report {k : ReportKind} {v : BitVec 24} {noted : BitVec 32} {c : FaultCause} {code value : Nat} {tc : Option Nat}
      (hframer : r.framer = .assembling noted [165]) (hv : valuePasses s.follower.standard k v = true)
      (hstate : r.state ≠ .fault)
      (htake : takeReport l k v.toNat (huntAgain l s) = enterFault l c code value tc (huntAgain l s)) :
      ∃ t, (.next (takeFrame l k v s) : Host.Outcome State Fault Refusal) = .next t
        ∧ dealt (fault .hunting c code value tc) t := by
    refine ⟨_, rfl, ?_⟩
    rw [takeFrame_faults hframer hv htake, ← hheard]
    exact hdealt (faultOf_enterFault (by rw [linkOf_huntAgain]; exact hstate) ..).of_huntAgain
  have timer {k : TimerKind} {start : BitVec 32} {limit : Nat} {c : FaultCause} {code value : Nat} {tc : Option Nat}
      (hrun : s.port.running = true) (hlimit : limit ≤ (s.follower.record.field - start).toNat)
      (htimer : r.timer = some ⟨k, start, limit⟩) (hstate : r.state ≠ .fault)
      (hexpire : expireKind l k s = enterFault l c code value tc s) :
      ∃ t, (.next (expireTimer k l s) : Host.Outcome State Fault Refusal) = .next t
        ∧ dealt (fault r.framer c code value tc) t := by
    refine ⟨_, rfl, ?_⟩
    rw [expireTimer_due hrun hlimit htimer, hexpire, ← hfault]
    exact hdealt (faultOf_enterFault hstate ..)
  refine ⟨fun v noted hframer => ⟨fun hv hdown hf => ?_, fun hv hstate => ?_, fun hv hstate hne => ?_, fun hv hstate hne => ?_⟩,
    fun start limit hrun hlimit => ⟨fun htimer hstate => ?_, fun htimer hstate => ?_, fun htimer hstate => ?_,
      fun htimer hstate => ?_⟩⟩
  · exact report (k := .trouble) hframer (decide_eq_true hv) hf (takeTrouble_faults (by simpa using hdown) (by simpa using hf))
  · exact report (k := .awake) hframer (decide_eq_true (by omega)) (by simp [hstate])
      (takeAwake_noTape (by simpa using hstate) (by omega))
  · exact report (k := .cued) hframer (decide_eq_true hv) (by simp [hstate])
      (takeCued_mismatch (by simpa using hstate) (by rw [linkOf_huntAgain]) hne)
  · exact report (k := .written) hframer (decide_eq_true hv) (by simp [hstate])
      (takeWritten_mismatch (by simpa using hstate) (by rw [linkOf_huntAgain]) hne)
  · exact timer hrun hlimit htimer (by simp [hstate]) (by rw [expireKind, hstate]; rfl)
  · exact timer hrun hlimit htimer (by simp [hstate]) (by rw [expireKind, hstate]; rfl)
  · exact timer hrun hlimit htimer (by simp [hstate]) (by rw [expireKind, hstate]; rfl)
  · exact timer hrun hlimit htimer (by simp [hstate]) (by rw [expireKind, hstate]; rfl)

end Sys2Proof.Machine
end

section
/-!
PROOF. Overruns: a directive that a full send queue does not take faults its link with OVERRUN, and a missing locked mark with
NOT_LOCKED (R132, R139, R141, R160).
-/
namespace Sys2Proof.Machine

/-! ### Full send queues (R132) -/

/-- The OVERRUN of a directive that is issued to a full send queue, with its LINK_FAULT entry. -/
abbrev overrun (l : Link) (s : State) : State := enterFault l .overrun 0 (linkOf l s).state.number none s

theorem issue_full {l : Link} {s : State} (h : ¬ Room (linkOf l s)) (d : Directive) (f : LinkRec → LinkRec) :
    issue l d f s = overrun l s := issueOr_full _ l d f s (Nat.not_lt.mp h)

theorem issueEarly_full {l : Link} {s : State} (h : ¬ Room (linkOf l s)) (d : Directive) (f : LinkRec → LinkRec) :
    issueEarly l d f s = faultLink l .overrun 0 s := issueOr_full _ l d f s (Nat.not_lt.mp h)

section
variable {l : Link} {s : State} (hfull : ¬ Room (linkOf l s))
include hfull

theorem wakeRequest_full (owner : WakeOwner) (h : (linkOf l s).state = .down) : wakeRequest l owner s = overrun l s := by
  rw [wakeRequest, if_pos h, issue_full hfull]

/-- The timecode and the silence count are written before the CUE is issued. -/
theorem cueRequest_full (tc : Nat) (h : (linkOf l s).state = .idle) :
    cueRequest l tc s = overrun l (setLinkRec l { linkOf l s with requestedTc := tc, silence := 0 } s) := by
  rw [cueRequest, if_pos h, issue_full (by rw [linkOf_setLinkRec_same]; exact hfull)]

theorem rollRequest_full (h : (linkOf l s).state = .armed) : rollRequest l s = overrun l s := by
  rw [rollRequest, if_pos h, issue_full hfull]

/-- The timecode is written before the IN is issued. -/
theorem inRequest_full (tc : Nat) (h : (linkOf l s).state = .rolling) (hmark : (linkOf l s).lockedMark = true) :
    inRequest l tc s = overrun l (setLinkRec l { linkOf l s with expectedTc := tc } s) := by
  simp only [inRequest, if_pos h, hmark, if_true]
  rw [issue_full (by rw [linkOf_setLinkRec_same]; exact hfull)]

theorem releaseRequest_full (h : (linkOf l s).state = .cueing ∨ (linkOf l s).state = .armed) :
    releaseRequest l s = faultLink l .overrun 0 s := by
  rw [releaseRequest, if_pos h, issueEarly_full hfull]

theorem outRequest_full (h : (linkOf l s).state = .recording) : outRequest l s = faultLink l .overrun 0 s := by
  rw [outRequest, if_pos h, issueEarly_full hfull]

theorem closeRequest_full (h : (linkOf l s).state = .rolling ∨ (linkOf l s).state = .recording) :
    closeRequest l s = faultLink l .overrun 0 s := by
  rw [closeRequest, if_pos ((rollsOrRecords_iff _).mpr h), issueEarly_full hfull]

theorem autoDownNow_full : autoDownNow l s = overrun l s := issue_full hfull ..

end

/-- An in request without the locked mark (R139). -/
theorem inRequest_unlocked {l : Link} {s : State} (tc : Nat) (h : (linkOf l s).state = .rolling)
    (hmark : (linkOf l s).lockedMark = false) :
    inRequest l tc s = enterFault l .notLocked 0 (linkOf l s).state.number none s := by
  simp only [inRequest, if_pos h, hmark, Bool.false_eq_true, if_false]

/-- The LINK_FAULT entry that a step's edits come before (R160). -/
theorem lateFault_overrun {l : Link} {s t : State} (hbefore : (linkOf l s).state ≠ .fault) (hafter : (linkOf l t).state = .fault) :
    lateFault s l t = offer (faultEntry l .overrun (linkOf l s).state.number none t) t :=
  if_pos (by simp [faultedIn, hbefore, hafter])

/-- Settles O45: each request on a full send queue; without a pass nobody is told of the fault. -/
theorem fullQueueAndUnlockedLinkFault : Obligations.FullQueueAndUnlockedLinkFault := by
  unfold Obligations.FullQueueAndUnlockedLinkFault
  intro s l r fault told
  have hlink (c : FaultCause) : faultLink l c 0 s = fault c r := by
    rw [faultLink, faultRec_eq]
  have hwritten (k : LinkRec) (c : FaultCause) : faultLink l c 0 (setLinkRec l k s) = fault c k := by
    rw [faultLink, faultRec_eq, linkOf_setLinkRec_same, setLinkRec_setLinkRec]
  have hover : overrun l s = told .overrun (fault .overrun r) := by
    rw [overrun, enterFault, hlink]
    rfl
  have hoverWritten (k : LinkRec) (hk : k.state = r.state) :
      overrun l (setLinkRec l k s) = told .overrun (fault .overrun k) := by
    rw [overrun, enterFault, hwritten, linkOf_setLinkRec_same, hk]
    rfl
  have hpassOver (hpass : s.pass = none) : tellLosses s (overrun l s) = overrun l s :=
    tellLosses_of_no_pass ((offer_pass ..).trans hpass)
  refine ⟨fun tc hroll hmark => ?_, fun hfull => ⟨fun owner hdown => ?_, fun tc hidle => ?_, fun harmed => ?_,
    fun tc hroll hmark => ?_, fun hwaits => ?_, fun hrec => ?_, fun hruns => ?_, fun hstate => ?_,
    fun hpass hrun hdue hidle howner hlimit hsilent => ?_, fun b hb hl hpass hdown => ?_,
    fun b hb hl hok hpass hrun hdue hidle howner hlimit hsilent => ?_⟩⟩
  · rw [inRequest_unlocked tc hroll hmark, enterFault, hlink]
    rfl
  · rw [wakeRequest_full hfull owner hdown, hover]
  · exact (cueRequest_full hfull tc hidle).trans (hoverWritten _ rfl)
  · rw [rollRequest_full hfull harmed, hover]
  · exact (inRequest_full hfull tc hroll hmark).trans (hoverWritten _ rfl)
  · rw [releaseRequest_full hfull hwaits, hlink]
  · rw [outRequest_full hfull hrec, hlink]
  · rw [closeRequest_full hfull hruns, hlink]
  · exact lateFault_overrun hstate (congrArg LinkRec.state (linkOf_setLinkRec_same ..))
  · have hgoes : GoesDown l s := ⟨hrun, hdue, hidle, howner, hpass, hlimit, hsilent⟩
    rw [exec_autoDown_goes hgoes, autoDownNow_full hfull, hpassOver hpass, hover]
  · have htake : exec .wakeLink s = .next (takeWakeLink b s) := next_withOrder hb _
    rw [htake, takeWakeLink_down hl.symm hdown, wakeRequest_full hfull .order hdown, hpassOver hpass, hover]
  · have htake : exec .setLink s = .next (takeSetLink b s) := next_withOrder hb _
    have hgoes : GoesDown l s := ⟨hrun, hdue, hidle, howner, hpass, hlimit, hsilent⟩
    rw [htake, takeSetLink_accepted hl.symm hok, decideDown_goes hgoes, autoDownNow_full hfull, hover]
    rfl

end Sys2Proof.Machine
end

section
/-!
PROOF. Buffers: the link and pass controllers keep the form of the written memory, of the journal's staging queue and of each link's
send queue and framer (R130, R132, R133, R179, R180).
-/
namespace Sys2Proof.Machine

-- One theorem at a time: the threads that check many at once ask for more memory than the check allows.
set_option Elab.async false

/-! ### What the laws of the written memory and of the buffers are read off -/

/-- The written memory, the journal and the link records. -/
def stored (s : State) : List Host.Cell × Journal × PerLink LinkRec := (s.area, s.journal, s.links)

/-- The law of the journal: its queue and its lost count stay within their bounds (R179, R180). -/
abbrev JournalOk (j : Journal) : Prop := j.queue.length ≤ 8 ∧ (j.setting = none → j.queue = []) ∧ j.lost ≤ 65535

theorem buffersOk_iff (s : State) : BuffersOk s ↔ JournalOk s.journal ∧ ∀ l, LineOk (linkOf l s) := by
  have hlinks : (∀ l, LineOk (linkOf l s)) ↔ LineOk s.links.a ∧ LineOk s.links.b ∧ LineOk s.links.c :=
    ⟨fun h => ⟨h .a, h .b, h .c⟩, fun ⟨ha, hb, hc⟩ l => by cases l <;> assumption⟩
  rw [hlinks, BuffersOk, JournalOk]
  simp only [and_assoc]

/-- From `s` to `t` the written memory keeps its form, and the buffers their bounds. -/
structure FormKept (s t : State) : Prop where
  area : AreaOk s → AreaOk t
  buffers : BuffersOk s → BuffersOk t

theorem FormKept.same {s t : State} (h : stored t = stored s := by rfl) : FormKept s t := by
  obtain ⟨harea, hjournal, hlinks⟩ : t.area = s.area ∧ t.journal = s.journal ∧ t.links = s.links := by
    simpa [stored] using h
  constructor
  · rw [AreaOk, AreaOk, harea]
    exact id
  · rw [BuffersOk, BuffersOk, hjournal, hlinks]
    exact id

theorem FormKept.trans {s t u : State} (h : FormKept s t) (k : FormKept t u) : FormKept s u :=
  ⟨fun hs => k.area (h.area hs), fun hs => k.buffers (h.buffers hs)⟩

theorem ite_form {p : Prop} [Decidable p] {s t u : State} (ht : FormKept s t) (hu : FormKept s u) :
    FormKept s (if p then t else u) := by
  split <;> assumption

/-- The journal alone is written. -/
theorem FormKept.of_journal {s : State} {j : Journal} (h : JournalOk s.journal → JournalOk j) :
    FormKept s { s with journal := j } := by
  refine ⟨id, fun hs => ?_⟩
  rw [buffersOk_iff] at hs ⊢
  exact ⟨h hs.1, hs.2⟩

/-- The link records alone are written. -/
theorem FormKept.of_links {s : State} {x : PerLink LinkRec} (h : (∀ l, LineOk (linkOf l s)) → ∀ l, LineOk (x.get l)) :
    FormKept s { s with links := x } := by
  refine ⟨id, fun hs => ?_⟩
  rw [buffersOk_iff] at hs ⊢
  exact ⟨hs.1, h hs.2⟩

theorem JournalOk.append {j : Journal} {x : JournalSet} (h : JournalOk j) (hset : j.setting = some x)
    (hroom : j.queue.length < 8) (e : Entry) : JournalOk { j with queue := j.queue ++ [e] } := by
  obtain ⟨-, -, hlost⟩ := h
  refine ⟨?_, by simp [hset], hlost⟩
  rw [List.length_append]
  exact hroom

theorem JournalOk.lose {j : Journal} (h : JournalOk j) :
    JournalOk { j with lost := min Config.countTop (j.lost + 1), lostFlag := true } :=
  ⟨h.1, h.2.1, Nat.min_le_left ..⟩

theorem offer_form (e : Entry) (s : State) : FormKept s (offer e s) := by
  unfold offer
  cases hset : s.journal.setting with
  | none => exact .same
  | some x =>
    simp only [Option.isNone_some, Bool.false_eq_true, if_false]
    split
    · rename_i hroom
      exact .of_journal fun h => h.append hset hroom e
    · exact .of_journal fun h => h.lose

theorem setLinkRec_form {l : Link} {r : LinkRec} {s : State} (h : LineOk (linkOf l s) → LineOk r) :
    FormKept s (setLinkRec l r s) := by
  refine .of_links fun hs m => ?_
  show LineOk (linkOf m (setLinkRec l r s))
  by_cases hm : m = l
  · rw [hm, linkOf_setLinkRec_same]
    exact h (hs l)
  · rw [linkOf_setLinkRec_other l m r s hm]
    exact hs m

/-- A record written with its send queue and its framer as they were. -/
theorem FormKept.record {l : Link} {r : LinkRec} {s : State} (hqueue : r.queue = (linkOf l s).queue := by rfl)
    (hframer : r.framer = (linkOf l s).framer := by rfl) : FormKept s (setLinkRec l r s) :=
  setLinkRec_form fun h => ⟨hqueue ▸ h.1, hframer ▸ h.2⟩

theorem eachLink_form {x : LinkSet} {f : Link → State → State} {s : State} (h : ∀ l t, FormKept t (f l t)) :
    FormKept s (eachLink x f s) := by
  unfold eachLink
  generalize membersOf x = ls
  induction ls generalizing s with
  | nil => exact .same
  | cons l ls ih => exact (h l s).trans ih

/-! ### The link controller -/

theorem faultLink_form (l : Link) (c : FaultCause) (n : Nat) (s : State) : FormKept s (faultLink l c n s) := by
  have hfault : FormKept s (setLinkRec l (faultRec c n (linkOf l s)) s) :=
    setLinkRec_form fun h => ⟨Nat.le_of_lt (faultRec_room ..), h.2⟩
  exact hfault.trans .same

theorem enterFault_form (l : Link) (c : FaultCause) (n v : Nat) (tc : Option Nat) (s : State) :
    FormKept s (enterFault l c n v tc s) := (faultLink_form ..).trans (offer_form ..)

/-- The change that goes with a directive writes neither the send queue nor the framer. -/
abbrev KeepsLine (f : LinkRec → LinkRec) : Prop := ∀ r, (f r).queue = r.queue ∧ (f r).framer = r.framer

theorem issueOr_form {full : State → State} {l : Link} {d : Directive} {f : LinkRec → LinkRec} {s : State}
    (hfull : FormKept s (full s)) (hf : KeepsLine f) : FormKept s (issueOr full l d f s) := by
  by_cases hroom : (linkOf l s).queue.length < Config.sendCapacity
  · rw [issueOr_room _ _ _ _ _ hroom]
    obtain ⟨hqueue, hframer⟩ := hf { linkOf l s with queue := (linkOf l s).queue ++ [d] }
    refine setLinkRec_form fun h => ⟨?_, hframer ▸ h.2⟩
    rw [hqueue, List.length_append]
    exact hroom
  · rw [issueOr_full _ _ _ _ _ (Nat.not_lt.mp hroom)]
    exact hfull

theorem issue_form {l : Link} {d : Directive} {f : LinkRec → LinkRec} {s : State} (hf : KeepsLine f) :
    FormKept s (issue l d f s) := issueOr_form (enterFault_form ..) hf

theorem issueEarly_form {l : Link} {d : Directive} {f : LinkRec → LinkRec} {s : State} (hf : KeepsLine f) :
    FormKept s (issueEarly l d f s) := issueOr_form (faultLink_form ..) hf

theorem lateFault_form (before : State) (l : Link) (s : State) : FormKept s (lateFault before l s) :=
  ite_form (offer_form ..) .same

theorem wakeRequest_form (l : Link) (o : WakeOwner) (s : State) : FormKept s (wakeRequest l o s) :=
  ite_form (issue_form fun _ => ⟨rfl, rfl⟩) .same

theorem cueRequest_form (l : Link) (tc : Nat) (s : State) : FormKept s (cueRequest l tc s) :=
  ite_form ((FormKept.record).trans (issue_form fun _ => ⟨rfl, rfl⟩)) .same

theorem releaseRequest_form (l : Link) (s : State) : FormKept s (releaseRequest l s) :=
  ite_form (issueEarly_form fun _ => ⟨rfl, rfl⟩) .same

theorem rollRequest_form (l : Link) (s : State) : FormKept s (rollRequest l s) :=
  ite_form (issue_form fun _ => ⟨rfl, rfl⟩) .same

theorem inRequest_form (l : Link) (tc : Nat) (s : State) : FormKept s (inRequest l tc s) :=
  ite_form (ite_form ((FormKept.record).trans (issue_form fun _ => ⟨rfl, rfl⟩)) (enterFault_form ..)) .same

theorem outRequest_form (l : Link) (s : State) : FormKept s (outRequest l s) :=
  ite_form (issueEarly_form fun _ => ⟨rfl, rfl⟩) .same

theorem closeRequest_form (l : Link) (s : State) : FormKept s (closeRequest l s) :=
  ite_form (issueEarly_form fun _ => ⟨rfl, rfl⟩) .same

theorem takeReport_form (l : Link) (k : ReportKind) (v : Nat) (s : State) : FormKept s (takeReport l k v s) := by
  cases k with
  | awake | cued | written => exact ite_form (ite_form .record (enterFault_form ..)) .same
  | locked | done => exact ite_form .record .same
  | trouble => exact ite_form .same (enterFault_form ..)

theorem setFramer_form {l : Link} {f : Framer} {s : State} (h : FramerOk (linkOf l s).framer → FramerOk f) :
    FormKept s (setFramer l f s) := setLinkRec_form fun hline => ⟨hline.1, h hline.2⟩

theorem completeFrame_form (l : Link) (kind : BitVec 8) (v : BitVec 24) (sum : BitVec 8) (s : State) :
    FormKept s (completeFrame l kind v sum s) := by
  have hhunt : FormKept s (huntAgain l s) := setFramer_form fun _ => trivial
  unfold completeFrame
  cases judgeFrame s.follower.standard kind v sum with
  | none => exact hhunt
  | some k => exact hhunt.trans (takeReport_form ..)

/-- A byte is gathered only while it is the sixth at most, behind the start byte (R133). -/
theorem takeByte_form (l : Link) (x : Byte) (s : State) : FormKept s (takeByte l x s) := by
  unfold takeByte
  cases hframer : (linkOf l s).framer with
  | hunting =>
    simp only
    split
    · rename_i hx
      exact setFramer_form fun _ => ⟨by simp, congrArg some hx⟩
    · exact .same
  | assembling noted bytes =>
    simp only
    split
    · rename_i hlen
      refine setFramer_form fun h => ⟨?_, ?_⟩
      · rw [List.length_append]
        exact hlen
      · rw [hframer] at h
        rw [List.head?_append, h.2]
        rfl
    · exact completeFrame_form ..

theorem takeBytes_form (l : Link) (bytes : List Byte) (s : State) : FormKept s (takeBytes l bytes s) := by
  unfold takeBytes
  induction bytes generalizing s with
  | nil => exact .same
  | cons x bytes ih => exact (takeByte_form l x s).trans (ih _)

theorem checkTimer_form (l : Link) (s : State) : FormKept s (checkTimer l s) := by
  refine ite_form ?_ .same
  cases (linkOf l s).timer with
  | none => exact .same
  | some t =>
    simp only [expireKind]
    cases t.kind <;> exact enterFault_form ..

theorem autoDownNow_form (l : Link) (s : State) : FormKept s (autoDownNow l s) := issue_form fun _ => ⟨rfl, rfl⟩

theorem decideDown_form (l : Link) (s : State) : FormKept s (decideDown l s) := ite_form (autoDownNow_form l s) .record

/-! ### The pass controller -/

theorem editOut_form (p : Pass) (x : Int) (l : Link) (s : State) : FormKept s (editOut p x l s) :=
  ite_form ((outRequest_form ..).trans (offer_form ..)) (outRequest_form ..)

theorem editIn_form (p : Pass) (x : Int) (sc : RecScene) (l : Link) (s : State) : FormKept s (editIn p x sc l s) :=
  ite_form ((inRequest_form ..).trans (offer_form ..)) (inRequest_form ..)

theorem closeEdit_form (p : Pass) (x : Int) (l : Link) (s : State) : FormKept s (closeEdit p x l s) :=
  ite_form ((closeRequest_form ..).trans (offer_form ..)) (closeRequest_form ..)

theorem offerScene_form (p : Pass) (sc : RecScene) (x : Int) (s : State) : FormKept s (offerScene p sc x s) := by
  have hscene : FormKept s (if newNumber p sc then offer (sceneEntry .scene sc x s) s else s) := ite_form (offer_form ..) .same
  exact hscene.trans (ite_form (offer_form ..) .same)

theorem unholdLinks_form (x : LinkSet) (s : State) : FormKept s (unholdLinks x s) := eachLink_form fun _ _ => .record

theorem setPass_form (p : Option Pass) (s : State) : FormKept s { s with pass := p } := .same

theorem changePass_form (f : Pass → Pass) (s : State) : FormKept s (changePass f s) := .same

theorem workSet_form (p : Pass) (x : Int) (s : State) : FormKept s (workSet p x s) :=
  (offerScene_form ..).trans <| (eachLink_form fun _ _ => editOut_form ..).trans <| (changePass_form ..).trans <|
    (eachLink_form fun _ _ => editIn_form ..).trans <| (changePass_form ..).trans <| eachLink_form fun _ _ => lateFault_form ..

theorem abortPassNow_form (c : AbortCause) (s : State) : FormKept s (abortPassNow c s) := by
  unfold abortPassNow
  cases s.pass with
  | none => exact .same
  | some p =>
    exact ite_form .same <| (changePass_form ..).trans <|
      (eachLink_form fun _ _ => (closeEdit_form ..).trans (releaseRequest_form ..)).trans <|
        eachLink_form fun _ _ => lateFault_form ..

theorem memberLoss_form (l : Link) (s : State) : FormKept s (memberLoss l s) := by
  unfold memberLoss
  cases s.pass with
  | none => exact .same
  | some p => exact ite_form (ite_form ((changePass_form ..).trans (abortPassNow_form ..)) .same) .same

theorem tellLosses_form (before after : State) : FormKept after (tellLosses before after) := by
  unfold tellLosses
  generalize Link.all = ls
  suffices h : ∀ s, FormKept s (ls.foldl (fun s l => if faultedIn before after l then memberLoss l s else s) s) from h _
  induction ls with
  | nil => exact fun _ => .same
  | cons l ls ih => exact fun s => (ite_form (memberLoss_form l s) .same).trans (ih _)

theorem resolvePass_form (p : Pass) (s : State) : FormKept s (resolvePass p s) :=
  ite_form ((changePass_form ..).trans (abortPassNow_form ..)) <|
    (changePass_form ..).trans <| (eachLink_form fun _ _ => releaseRequest_form ..).trans <|
      (eachLink_form fun _ _ => lateFault_form ..).trans <| (unholdLinks_form ..).trans (changePass_form ..)

theorem preparePass_form (p : Pass) (s : State) : FormKept s (preparePass p s) := by
  have hcues : FormKept s (issueCues p s) := (changePass_form ..).trans (eachLink_form fun _ _ => cueRequest_form ..)
  have hcue : FormKept s (if p.cuesIssued then s else if nonesWaking p s then issueCues p s else s) :=
    ite_form .same (ite_form hcues .same)
  exact ite_form (hcue.trans (resolvePass_form ..)) hcue

theorem closePass_form (p : Pass) (s : State) : FormKept s (closePass p s) := by
  have hend : FormKept s (raise .pass (offer (passEndEntry p s) s)) := (offer_form ..).trans .same
  exact ite_form (hend.trans ((unholdLinks_form ..).trans (setPass_form ..))) .same

theorem atIndex_form (m : FieldMode) {f : Int → State → State} {s : State} (h : ∀ x t, FormKept t (f x t)) :
    FormKept s (atIndex m f s) := by
  cases m with
  | locked n x => exact h x s
  | _ => exact .same

theorem passByState_form (p : Pass) (s : State) : FormKept s (passByState p s) := by
  unfold passByState
  cases p.state with
  | preparing => exact preparePass_form p s
  | waiting =>
    refine atIndex_form _ fun x t => ite_form ?_ (ite_form (abortPassNow_form ..) .same)
    exact (changePass_form ..).trans (eachLink_form fun _ _ => rollRequest_form ..)
  | rolling => exact atIndex_form _ fun x t => ite_form (workSet_form ..) .same
  | recording =>
    refine atIndex_form _ fun x t => ite_form (ite_form (workSet_form ..) ?_) .same
    exact (changePass_form ..).trans <| (eachLink_form fun _ _ => closeEdit_form ..).trans <|
      eachLink_form fun _ _ => lateFault_form ..
  | closing => exact closePass_form p s

theorem passField_form (s : State) : FormKept s (passField s) := by
  have hstep (p : Pass) : FormKept s (passStep p s) :=
    (setPass_form _ s).trans (ite_form (abortPassNow_form ..) (ite_form (abortPassNow_form ..) (passByState_form ..)))
  unfold passField
  refine ite_form ?_ .same
  cases s.pass with
  | none => exact .same
  | some p => exact (hstep p).trans (tellLosses_form ..)

/-- The records of all three links are written by one rule. -/
theorem mapLinks_form {f : LinkRec → LinkRec} {s : State} (h : ∀ r, LineOk r → LineOk (f r)) :
    FormKept s { s with links := s.links.map f } := by
  refine .of_links fun hs l => ?_
  cases l with
  | a => exact h _ (hs .a)
  | b => exact h _ (hs .b)
  | c => exact h _ (hs .c)

theorem acceptPass_form (a : PassArgs) (s : State) : FormKept s (acceptPass a s) := by
  have hcancel : FormKept s { s with links := s.links.map cancelDown } := mapLinks_form fun r h => by
    rw [cancelDown_eq]
    exact h
  exact (hcancel.trans (setPass_form ..)).trans <| (eachLink_form fun _ _ => .record).trans <|
    (eachLink_form fun _ _ => wakeRequest_form ..).trans (offer_form ..)

end Sys2Proof.Machine
end

section
/-!
PROOF. MemoryForm: every command keeps the form of the written memory and the bounds of the buffers (R130, R132, R133, R170, R171,
R179 to R181).
-/
namespace Sys2Proof.Machine

-- One theorem at a time: the threads that check many at once ask for more memory than the check allows.
set_option Elab.async false

/-! ### A field event -/

theorem closeTally_form (s : State) : FormKept s (closeTally s) := by
  unfold closeTally
  cases s.level.tally with
  | none => exact .same
  | some t =>
    have hclosed : FormKept s { s with level := { s.level with tally := none } } := .same
    exact ite_form (hclosed.trans (offer_form ..)) hclosed

theorem takeJudgement_form (j : Option AlertFlags) (s : State) : FormKept s (takeJudgement j s) := by
  unfold takeJudgement
  cases j with
  | none => exact .same
  | some f => exact ite_form .same .same

theorem statsField_form (m : Measurement) (e : Bool) (s : State) : FormKept s (statsField m e s) := by
  unfold statsField
  cases m.start <;> exact .same

theorem tallyField_form (m : Measurement) (j : Option AlertFlags) (s : State) : FormKept s (tallyField m j s) := by
  have hclose : FormKept s (if tallyDiffers s m then closeTally s else s) := ite_form (closeTally_form s) .same
  exact ite_form (hclose.trans .same) .same

theorem setLevel_form (s : State) (l : Level) : FormKept s { s with level := l } := .same

theorem dealMeasurement_form (m : Measurement) (s : State) : FormKept s (dealMeasurement m s) :=
  (ite_form ((setLevel_form ..).trans ((takeJudgement_form ..).trans (statsField_form ..)))
    ((setLevel_form ..).trans (takeJudgement_form ..))).trans (tallyField_form ..)

theorem levelField_form (s : State) : FormKept s (levelField s) := by
  have hopen : FormKept s (finishOpen s) := by
    unfold finishOpen
    cases s.level.openMeas with
    | none => exact .same
    | some m => exact (setLevel_form ..).trans (dealMeasurement_form ..)
  have hended (t : State) : FormKept t (closeIfEnded t) := ite_form .same (closeTally_form t)
  exact ite_form (hopen.trans ((hended _).trans (setLevel_form ..))) .same

theorem lineOk_timeoutFramer (field : BitVec 32) {r : LinkRec} (h : LineOk r) : LineOk (timeoutFramer field r) := by
  unfold timeoutFramer
  split
  · exact h
  · split
    · exact ⟨h.1, trivial⟩
    · exact h

theorem lineOk_countSilence (noPass : Bool) {r : LinkRec} (h : LineOk r) : LineOk (countSilence noPass r) := by
  unfold countSilence
  split <;> exact h

/-- Every share of a field event keeps the form of what is stored. -/
theorem runAct_form (a : FieldAct) (s : State) : FormKept s (runAct a s) := by
  cases a with
  | grade | restCount | poll => exact ite_form .same .same
  | restEntry => exact ite_form .same .same
  | measure => exact levelField_form s
  | framers => exact ite_form (mapLinks_form fun _ => lineOk_timeoutFramer _) .same
  | silence => exact ite_form (mapLinks_form fun _ => lineOk_countSilence _) .same
  | timer l => exact (checkTimer_form l s).trans (tellLosses_form ..)
  | autoDown l => exact (decideDown_form l s).trans (tellLosses_form ..)
  | pass => exact passField_form s
  | report =>
    refine ite_form ?_ .same
    cases s.reports.setting <;> exact .same

theorem runActs_form (acts : List FieldAct) (s : State) : FormKept s (acts.foldl (fun s a => runAct a s) s) := by
  induction acts generalizing s with
  | nil => exact .same
  | cons a acts ih => exact (runAct_form a s).trans (ih _)

theorem publish_form (p : Parity) (timer : Bool) (s : State) : FormKept s (publish p timer s) := by
  have hreference (was : Bool) (t : State) : FormKept t (noteReference was timer t) := by
    have hraise : FormKept t (raise .reference t) := .same
    exact ite_form .same (hraise.trans (offer_form ..))
  have hslip (slip : Option Int) (tach : Int) (t : State) : FormKept t (offerSlip slip tach t) := by
    unfold offerSlip
    cases slip with
    | none => exact .same
    | some e => exact ite_form (offer_form ..) .same
  have hfollow : FormKept s (blankOutput { s with follower := followField s.follower p timer }) := .same
  exact hfollow.trans ((hreference ..).trans (hslip ..))

theorem fieldStep_form (p : Parity) (timer : Bool) (order : List FieldAct) (s : State) :
    FormKept s (fieldStep p timer order s) :=
  (runActs_form optionalActs s).trans ((publish_form ..).trans (runActs_form ..))

/-! ### Light samples, halts and resets -/

theorem takeReading_form (reading : Nat) (s : State) : FormKept s (takeReading reading s) := by
  have hlow : FormKept s (lowReading reading s) :=
    ite_form (FormKept.trans (t := raise .tube
      { s with light := { s.light with lowRun := saturate s.light.lowRun, lowReported := true } }) .same (offer_form ..)) .same
  have hcheck (t : State) : FormKept t (serviceCheck t) :=
    ite_form (FormKept.trans (t := raise .tube { t with light := { t.light with serviceArmed := false } }) .same (offer_form ..))
      .same
  have haccepted (l : Light) : FormKept s (serviceCheck { s with light := l }) :=
    FormKept.trans (t := { s with light := l }) .same (hcheck _)
  exact ite_form .same (ite_form .same (ite_form hlow (haccepted _)))

/-- Behind the directive on the line stand an OUT and a STANDBY at most (R146). -/
theorem lineOk_downRec {r : LinkRec} (h : LineOk r) : LineOk (downRec r) := by
  have hline : (keepLine r.queue).length ≤ 1 := by simp [keepLine]
  have hissued : (resetDirectives r).length ≤ 2 := by
    unfold resetDirectives
    split <;> [skip; split] <;> simp
  refine ⟨?_, h.2⟩
  show (keepLine r.queue ++ resetDirectives r).length ≤ 4
  rw [List.length_append]
  omega

theorem lineOk_haltRec {r : LinkRec} (h : LineOk r) : LineOk (haltRec r) := lineOk_downRec h

theorem lineOk_softRec {r : LinkRec} (h : LineOk r) : LineOk (softRec r) := ⟨(lineOk_downRec h).1, trivial⟩

theorem JournalOk.emptied {j : Journal} (h : JournalOk j) : JournalOk { j with queue := [] } :=
  ⟨Nat.zero_le _, fun _ => rfl, h.2.2⟩

theorem haltPart_form (cause : HaltCause) (s : State) : FormKept s (haltPart cause s) := by
  have hjournal : FormKept s { s with journal := { s.journal with queue := [] } } := .of_journal fun h => h.emptied
  have hlinks (t : State) : FormKept t { t with links := t.links.map haltRec } := mapLinks_form fun _ => lineOk_haltRec
  exact (hjournal.trans (hlinks _)).trans .same

theorem softReset_form (s : State) : FormKept s (softReset s) := by
  have hjournal : FormKept s { s with journal := Journal.reset } :=
    .of_journal fun _ => ⟨Nat.zero_le _, fun _ => rfl, Nat.zero_le _⟩
  have hlinks (t : State) : FormKept t { t with links := t.links.map softRec } := mapLinks_form fun _ => lineOk_softRec
  exact (hjournal.trans (hlinks _)).trans .same

/-! ### The port -/

theorem withOrder_form {code : BitVec 8} {s : State} {take : OrderBlock → State} (h : ∀ b, FormKept s (take b)) :
    FormKept s (withOrder code s take) := by
  obtain he | ⟨b, -, he⟩ := withOrder_cases code s take <;> rw [he]
  · exact .same
  · exact h b

theorem withProgress_form {s : State} {take : OrderBlock → Progress → State} (h : ∀ b p, FormKept s (take b p)) :
    FormKept s (withProgress s take) := by
  obtain he | ⟨b, p, -, he⟩ := withProgress_cases s take <;> rw [he]
  · exact .same
  · exact h b p

/-- A write's bytes are stored in the order of their addresses (R178). -/
theorem endAccess_form (a : Access) (s : State) : FormKept s (endAccess a s) := ⟨Memory.wf_write a.cells s.area, id⟩

theorem complete_form {isKind : AccessKind → Bool} {s : State} {live stale : Access → State → State}
    (hlive : ∀ a t, FormKept t (live a t)) (hstale : ∀ a t, FormKept t (stale a t)) :
    FormKept s (complete isKind s live stale) := by
  obtain he | ⟨a, -, -, ⟨-, he⟩ | ⟨-, he⟩ | ⟨-, he⟩⟩ := complete_cases isKind s live stale <;> rw [he]
  · exact .same
  · exact (endAccess_form a s).trans (hlive a _)
  · exact (endAccess_form a s).trans (hstale a _)
  · exact endAccess_form a s

theorem judgeLink_form (v : BitVec 32) (n : Nat) (s : State) : FormKept s (judgeLink v n s) := by
  rw [judgeLink_port]
  exact .same

theorem closeBlock_form (b : OrderBlock) (s : State) : FormKept s (closeBlock b s) := by
  rw [closeBlock_port]
  exact .same

theorem pollComplete_form (s : State) : FormKept s (pollComplete s) := .same

theorem afterHeader_form (s : State) : FormKept s (afterHeader s) := by
  unfold afterHeader
  cases s.port.walker with
  | idle => exact ite_form ((pollComplete_form s).trans (judgeLink_form ..)) .same
  | _ => exact pollComplete_form s

theorem afterBlock_form (block : BitVec 256) (s : State) : FormKept s (afterBlock block s) := by
  unfold afterBlock
  cases s.port.walker with
  | reading o n =>
    have hfollows (v : BitVec 32) : FormKept s (follows v s) := .same
    exact ite_form .same (ite_form .same (ite_form ((hfollows _).trans (judgeLink_form ..)) .same))
  | _ => exact .same

theorem afterTaken_form (s : State) : FormKept s (afterTaken s) := by
  unfold afterTaken
  cases s.port.walker with
  | taking b halted =>
    cases halted with
    | false => exact ite_form .same .same
    | true => exact .same
  | _ => exact .same

theorem afterAborted_form (s : State) : FormKept s (afterAborted s) := by
  unfold afterAborted
  cases s.port.walker with
  | closing b n halted => exact ite_form (closeBlock_form ..) ((closeBlock_form b s).trans (judgeLink_form ..))
  | aborting b => exact closeBlock_form ..
  | _ => exact .same

theorem afterResultIndex_form (s : State) : FormKept s (afterResultIndex s) :=
  withProgress_form fun b p => by cases p <;> exact .same

theorem afterFinal_form (s : State) : FormKept s (afterFinal s) := by
  refine withProgress_form fun b p => ?_
  cases p with
  | finishing r => exact closeBlock_form ..
  | _ => exact .same

theorem afterSceneFetch_form (record : BitVec 512) (s : State) : FormKept s (afterSceneFetch record s) := by
  refine withProgress_form fun b p => ?_
  cases p with
  | fetchScene o =>
    simp only [putFetched_eq]
    exact .same
  | _ => exact .same

theorem afterLoadFetch_form (record : BitVec 512) (s : State) : FormKept s (afterLoadFetch record s) := by
  refine withProgress_form fun b p => ?_
  cases p with
  | fetchLoad run => exact ite_form .same .same
  | _ => exact .same

theorem afterLookFetch_form (record : BitVec 256) (s : State) : FormKept s (afterLookFetch record s) := by
  refine withProgress_form fun b p => ?_
  cases p with
  | fetchLook i o =>
    simp only [putLook]
    split <;> exact .same
  | _ => exact .same

theorem afterSceneSlot_form (s : State) : FormKept s (afterSceneSlot s) := by
  refine withProgress_form fun b p => ?_
  cases p with
  | slotScene run => exact ite_form .same .same
  | _ => exact .same

theorem afterLookSlot_form (s : State) : FormKept s (afterLookSlot s) := by
  refine withProgress_form fun b p => ?_
  cases p with
  | slotLook run => exact ite_form .same .same
  | _ => exact .same

theorem JournalOk.pop {j : Journal} (h : JournalOk j) : JournalOk { j with queue := j.queue.tail } := by
  obtain ⟨hlen, hnone, hlost⟩ := h
  refine ⟨?_, fun hset => ?_, hlost⟩
  · rw [List.length_tail]
    omega
  · show j.queue.tail = []
    rw [hnone hset, List.tail_nil]

theorem afterJournal_form (a : Access) (s : State) : FormKept s (afterJournal a s) := by
  unfold afterJournal
  cases a.kind with
  | journal pops advances =>
    have hpop : FormKept s (if pops then { s with journal := { s.journal with queue := s.journal.queue.tail } } else s) :=
      ite_form (.of_journal fun h => h.pop) .same
    have hadvance (t : State) : FormKept t (advanceFill t) := by
      have hfill : FormKept t { t with journal := { t.journal with fill := t.journal.fill + 1 } } := .of_journal id
      exact ite_form (hfill.trans .same) hfill
    exact ite_form (hpop.trans (hadvance _)) hpop
  | _ => exact .same

theorem afterReport_form (a : Access) (s : State) : FormKept s (afterReport a s) := by
  unfold afterReport
  cases a.kind <;> exact .same

theorem takeMark_form (bytes : BitVec 64) (s : State) : FormKept s (takeMark bytes s) := .of_journal id

theorem grantAccess_form (s : State) : FormKept s (grantAccess s) := by
  obtain he | ⟨r, -, -, he⟩ := grantAccess_cases s <;> rw [he]
  · exact .same
  · exact .same

theorem busErrorNow_form (s : State) : FormKept s (busErrorNow s) := by
  have hlet (a : Access) (t : State) : FormKept t (raise .bus (letBlockBe a t)) := by
    have hbe : FormKept t (letBlockBe a t) := ite_form .same .same
    exact hbe.trans .same
  have hdata (t : State) : FormKept t (dataFault t) := withProgress_form fun b p => by cases p <;> exact .same
  have hraise (t : State) : FormKept t (raise .bus t) := .same
  have hrunning (a : Access) (t : State) : FormKept t (errorRunning a t) := by
    unfold errorRunning
    cases errorClass a.kind with
    | data => exact ite_form (hdata t) .same
    | port => exact (hlet a t).trans (haltPart_form ..)
    | journal => exact (hraise t).trans (haltPart_form ..)
    | report => exact .same
  have hhalted (a : Access) (t : State) : FormKept t (errorHalted a t) := by
    unfold errorHalted
    cases errorClass a.kind with
    | port => exact hlet a t
    | data | journal | report => exact .same
  have hdrop : FormKept s (dropAccess s) := .same
  unfold busErrorNow
  cases s.port.access with
  | none => exact .same
  | some a => exact ite_form hdrop (ite_form (hdrop.trans (hrunning ..)) (hdrop.trans (hhalted ..)))

/-! ### The orders -/

theorem takeLoadScenes_form (b : OrderBlock) (s : State) : FormKept s (takeLoadScenes b s) := by
  refine ite_form .same (ite_form .same ?_)
  cases flagCode (param b 18 1) <;> exact .same

theorem takeSetStandard_form (b : OrderBlock) (s : State) : FormKept s (takeSetStandard b s) := by
  refine ite_form .same (ite_form .same ?_)
  cases standardOf (param b 12 1) with
  | none => exact .same
  | some std => exact ite_form .same .same

theorem takeSetFollow_form (b : OrderBlock) (s : State) : FormKept s (takeSetFollow b s) := by
  refine ite_form .same ?_
  cases flagCode (param b 12 1) with
  | none => exact .same
  | some on =>
    cases on with
    | false => exact .same
    | true => exact ite_form .same .same

theorem takeSetPicture_form (b : OrderBlock) (s : State) : FormKept s (takeSetPicture b s) := by
  refine ite_form .same ?_
  cases flagCode (param b 12 1) with
  | none => exact .same
  | some clip => cases flagCode (param b 13 1) <;> exact .same

theorem takeSetLight_form (b : OrderBlock) (s : State) : FormKept s (takeSetLight b s) := by
  have hrest : FormKept s (decideRest s) := ite_form .same .same
  exact ite_form (hrest.trans .same) .same

theorem takeSetMonitor_form (b : OrderBlock) (s : State) : FormKept s (takeSetMonitor b s) := by
  unfold takeSetMonitor
  cases monitorArgs b with
  | none => exact .same
  | some a => exact ite_form .same .same

theorem takeSetRoute_form (b : OrderBlock) (s : State) : FormKept s (takeSetRoute b s) := by
  refine ite_form .same ?_
  split
  · exact .same
  · cases (routeArgs b).mode with
    | none => exact .same
    | some mode => exact ite_form .same (ite_form .same .same)

theorem finish_form {s t : State} (h : FormKept s t) (b : OrderBlock) (o : OutcomeCode) (d : Nat) :
    FormKept s (finish b o d t) := h.trans .same

theorem takeSetLink_form (b : OrderBlock) (s : State) : FormKept s (takeSetLink b s) := by
  unfold takeSetLink
  simp only
  cases (linkArgs b).link with
  | none => exact .same
  | some l =>
    cases (linkArgs b).autoWake with
    | none => exact .same
    | some w => exact ite_form (finish_form ((decideDown_form l s).trans .record) ..) .same

theorem takeWakeLink_form (b : OrderBlock) (s : State) : FormKept s (takeWakeLink b s) := by
  unfold takeWakeLink
  cases linkOfCode (param b 12 1) with
  | none => exact .same
  | some l =>
    have hwake : FormKept s (wakeByOrder l s) := ite_form ((wakeRequest_form ..).trans (tellLosses_form ..)) .record
    exact ite_form .same (finish_form hwake ..)

theorem lineOk_resetByOrder {r : LinkRec} (h : LineOk r) : LineOk (resetByOrder r) := by
  unfold resetByOrder
  split
  · refine ⟨?_, h.2⟩
    show (r.queue.take 1).length ≤ 4
    rw [List.length_take]
    omega
  · exact lineOk_downRec h

theorem takeResetLink_form (b : OrderBlock) (s : State) : FormKept s (takeResetLink b s) := by
  unfold takeResetLink
  cases linkOfCode (param b 12 1) with
  | none => exact .same
  | some l => exact ite_form .same (finish_form (setLinkRec_form lineOk_resetByOrder) ..)

theorem takeStartPass_form (b : OrderBlock) (s : State) : FormKept s (takeStartPass b s) := by
  unfold takeStartPass
  simp only
  cases startRefused (passArgs b) s with
  | none => exact finish_form (acceptPass_form ..) ..
  | some r => exact .same

theorem JournalOk.renew {j : Journal} (h : JournalOk j) (x : JournalSet) :
    JournalOk { Journal.reset with setting := some x, queue := j.queue } :=
  ⟨h.1, fun hnone => (nomatch hnone), Nat.zero_le _⟩

theorem takeSetJournal_form (b : OrderBlock) (s : State) : FormKept s (takeSetJournal b s) := by
  have hnew (x : JournalSet) : FormKept s { s with journal := { Journal.reset with setting := some x, queue := s.journal.queue } } :=
    .of_journal fun h => h.renew x
  exact ite_form .same (ite_form ((hnew _).trans .same) .same)

theorem takeSetReports_form (b : OrderBlock) (s : State) : FormKept s (takeSetReports b s) := by
  unfold takeSetReports
  cases flagCode (param b 17 1) with
  | none => exact .same
  | some on =>
    cases on with
    | false => exact .same
    | true => exact ite_form .same .same

/-! ### Every command -/

theorem directiveSent_form (l : Link) (s : State) :
    FormKept s (setLinkRec l { linkOf l s with queue := (linkOf l s).queue.tail } s) := by
  refine setLinkRec_form fun h => ⟨?_, h.2⟩
  rw [List.length_tail]
  exact (Nat.sub_le ..).trans h.1

/-- Every command keeps the form of what is stored. -/
theorem exec_form (c : Instr) (s : State) : ∃ t, exec c s = .next t ∧ FormKept s t := by
  have completion {isKind : AccessKind → Bool} {live : Access → State → State} (h : ∀ a t, FormKept t (live a t)) :
      FormKept s (complete isKind s live unused) := complete_form h fun _ _ => .same
  have message (l : Link) (bytes : List Byte) : FormKept s (tellLosses s (takeBytes l bytes s)) :=
    (takeBytes_form ..).trans (tellLosses_form ..)
  have expiry (k : TimerKind) (l : Link) : FormKept s (tellLosses s (expiryOf k l s)) :=
    (ite_form (checkTimer_form l s) .same).trans (tellLosses_form ..)
  cases c with
  | putScene => exact ⟨_, rfl, withOrder_form fun b => ite_form .same (ite_form .same .same)⟩
  | removeScene => exact ⟨_, rfl, withOrder_form fun b => ite_form .same (ite_form .same (ite_form .same .same))⟩
  | clearScenes | lockScenes | unlockScenes => exact ⟨_, rfl, withOrder_form fun b => ite_form .same .same⟩
  | loadScenes => exact ⟨_, rfl, withOrder_form (takeLoadScenes_form · s)⟩
  | readScenes => exact ⟨_, rfl, withOrder_form fun b => ite_form .same (ite_form .same .same)⟩
  | putLook =>
    exact ⟨_, rfl, withOrder_form fun b =>
      ite_form .same (ite_form .same (ite_form .same (ite_form .same (ite_form .same .same))))⟩
  | readLooks => exact ⟨_, rfl, withOrder_form fun b => ite_form .same .same⟩
  | setHouseArea | setPosition => exact ⟨_, rfl, withOrder_form fun b => ite_form .same (ite_form .same (ite_form .same .same))⟩
  | clearHouseLooks => exact ⟨_, rfl, withOrder_form fun b => ite_form .same (ite_form .same .same)⟩
  | setStandard => exact ⟨_, rfl, withOrder_form (takeSetStandard_form · s)⟩
  | setFollow => exact ⟨_, rfl, withOrder_form (takeSetFollow_form · s)⟩
  | setPicture => exact ⟨_, rfl, withOrder_form (takeSetPicture_form · s)⟩
  | setLight => exact ⟨_, rfl, withOrder_form (takeSetLight_form · s)⟩
  | setMonitor => exact ⟨_, rfl, withOrder_form (takeSetMonitor_form · s)⟩
  | ackMonitor => exact ⟨_, rfl, withOrder_form fun b => ite_form .same .same⟩
  | setRoute => exact ⟨_, rfl, withOrder_form (takeSetRoute_form · s)⟩
  | setLink => exact ⟨_, rfl, withOrder_form (takeSetLink_form · s)⟩
  | wakeLink => exact ⟨_, rfl, withOrder_form (takeWakeLink_form · s)⟩
  | resetLink => exact ⟨_, rfl, withOrder_form (takeResetLink_form · s)⟩
  | startPass => exact ⟨_, rfl, withOrder_form (takeStartPass_form · s)⟩
  | abortPass => exact ⟨_, rfl, withOrder_form fun b => ite_form (finish_form (abortPassNow_form ..) ..) .same⟩
  | setJournal => exact ⟨_, rfl, withOrder_form (takeSetJournal_form · s)⟩
  | setReports => exact ⟨_, rfl, withOrder_form (takeSetReports_form · s)⟩
  | mark => exact ⟨_, rfl, withOrder_form fun b => .same⟩
  | sceneFetchComplete record => exact ⟨_, rfl, completion fun _ => afterSceneFetch_form record⟩
  | loadRecordFetchComplete record => exact ⟨_, rfl, completion fun _ => afterLoadFetch_form record⟩
  | lookFetchComplete record => exact ⟨_, rfl, completion fun _ => afterLookFetch_form record⟩
  | readScenesSlotWritten => exact ⟨_, rfl, completion fun _ => afterSceneSlot_form⟩
  | readLooksSlotWritten => exact ⟨_, rfl, completion fun _ => afterLookSlot_form⟩
  | headerReadComplete bytes =>
    exact ⟨_, rfl, complete_form (fun _ t => (takeMark_form bytes t).trans .same) fun _ => takeMark_form bytes⟩
  | headerWriteComplete => exact ⟨_, rfl, completion fun _ => afterHeader_form⟩
  | linkReadComplete link => exact ⟨_, rfl, completion fun _ t => (pollComplete_form t).trans (judgeLink_form ..)⟩
  | blockReadComplete block => exact ⟨_, rfl, completion fun _ => afterBlock_form block⟩
  | takenWriteComplete => exact ⟨_, rfl, completion fun _ => afterTaken_form⟩
  | resultIndexWriteComplete => exact ⟨_, rfl, completion fun _ => afterResultIndex_form⟩
  | finalWriteComplete => exact ⟨_, rfl, completion fun _ => afterFinal_form⟩
  | abortedWriteComplete => exact ⟨_, rfl, completion fun _ => afterAborted_form⟩
  | journalWriteComplete => exact ⟨_, rfl, completion afterJournal_form⟩
  | reportWriteComplete => exact ⟨_, rfl, completion afterReport_form⟩
  | accessGrant => exact ⟨_, rfl, grantAccess_form s⟩
  | busError => exact ⟨_, rfl, busErrorNow_form s⟩
  | runWritten1 | baseWrite | enterRest => exact ⟨_, rfl, ite_form .same .same⟩
  | runWritten0 => exact ⟨_, rfl, ite_form (haltPart_form .order s) .same⟩
  | attentionWrite | noticeMaskWrite | perfEvent => exact ⟨_, rfl, .same⟩
  | softReset => exact ⟨_, rfl, softReset_form s⟩
  | powerOnReset | boardReset => exact ⟨_, rfl, id, fun _ => buffersOk_reset⟩
  | fieldEvent p order => exact ⟨_, rfl, fieldStep_form p false order s⟩
  | referenceWatchExpiry order => exact ⟨_, rfl, ite_form .same (fieldStep_form _ true order s)⟩
  | standInField order => exact ⟨_, rfl, ite_form (fieldStep_form _ true order s) .same⟩
  | sampleTriple x =>
    have htap (z : Rgb Int) : FormKept s (tapTriple z s) := ite_form .same .same
    exact ⟨_, rfl, (htap _).trans .same⟩
  | lightSampleEvent reading =>
    have hblank : FormKept s (blankOutput s) := .same
    exact ⟨_, rfl, hblank.trans (takeReading_form ..)⟩
  | awake | cued | locked | written | done | trouble | damagedFrame => exact ⟨_, rfl, message ..⟩
  | wakeTimerExpiry | cueTimerExpiry | watchdogExpiry | closeTimerExpiry => exact ⟨_, rfl, expiry ..⟩
  | startByte l => exact ⟨_, rfl, (takeByte_form ..).trans (tellLosses_form ..)⟩
  | directiveSent l => exact ⟨_, rfl, directiveSent_form l s⟩
  | autoDown l => exact ⟨_, rfl, ite_form ((autoDownNow_form l s).trans (tellLosses_form ..)) .same⟩

theorem step_form {s t : State} (h : step s = .next t) : FormKept s t := by
  unfold step at h
  split at h
  · cases h
    exact .same
  · rename_i c rest _
    obtain ⟨u, hu, hkept⟩ := exec_form c { s with pending := rest }
    cases hu.symm.trans h
    exact ⟨hkept.area, hkept.buffers⟩

/-- Settles O53: every command keeps both laws. -/
theorem memoryAndBuffersKeepTheirForm : Obligations.MemoryAndBuffersKeepTheirForm := by
  unfold Obligations.MemoryAndBuffersKeepTheirForm
  exact ⟨fun s t h hstep => (step_form hstep).area h, fun s t h hstep => (step_form hstep).buffers h⟩

end Sys2Proof.Machine
end

section
/-!
PROOF. EachLink: what a request made of each link of a set comes to, in the order A, B, C: the links' records, LINK raised, and the
journal entries.
-/
namespace Sys2Proof.Machine

/-! ### LINK raised -/

/-- LINK raised when `b` holds. -/
def flagLink (b : Bool) (s : State) : State := if b = true then raise .link s else s

theorem flagLink_false (s : State) : flagLink false s = s := rfl

theorem flagLink_true (s : State) : flagLink true s = raise .link s := rfl

theorem flagLink_frame (b : Bool) (s : State) : SideFrame s (flagLink b s) := by
  cases b with
  | false => exact .refl s
  | true => exact raise_frame ..

theorem linkOf_flagLink (l : Link) (b : Bool) (s : State) : linkOf l (flagLink b s) = linkOf l s := by cases b <;> rfl

theorem flagLink_offerAll (b : Bool) (es : List Entry) (s : State) :
    flagLink b (offerAll es s) = offerAll es (flagLink b s) := by
  cases b with
  | false => rfl
  | true =>
    rw [flagLink_true, flagLink_true, offerAll_eq es s]
    exact (offerAll_from es (s := raise .link s) (t := s) rfl).symm

theorem setLinkRec_flagLink (l : Link) (r : LinkRec) (b : Bool) (s : State) :
    setLinkRec l r (flagLink b s) = flagLink b (setLinkRec l r s) := by cases b <;> rfl

/-- LINK raised twice is LINK raised. -/
theorem flagLink_flagLink (b c : Bool) (s : State) : flagLink b (flagLink c s) = flagLink (b || c) s := by
  have htwice : raise .link (raise .link s) = raise .link s := by simp only [raise, BitVec.or_assoc, BitVec.or_self]
  cases b <;> cases c <;> first | rfl | exact htwice

theorem flagLink_eq (b : Bool) (s : State) :
    flagLink b s = { s with port := if b = true then (raise .link s).port else s.port } := by cases b <;> rfl

theorem offerAll_frame (es : List Entry) (s : State) : SideFrame s (offerAll es s) := by
  induction es generalizing s with
  | nil => exact .refl s
  | cons e es ih => exact (offer_frame e s).trans (ih _)

/-! ### A step made of each link -/

/-- The links have the records of `k`. -/
def withLinks (k : Link → LinkRec) (s : State) : State := { s with links := ⟨k .a, k .b, k .c⟩ }

theorem linkOf_withLinks (k : Link → LinkRec) (s : State) (l : Link) : linkOf l (withLinks k s) = k l := by cases l <;> rfl

/-- The links of `x` have the records of `r`, the others their own. -/
def replaceLinks (x : LinkSet) (r : Link → LinkRec) (s : State) : State :=
  withLinks (fun l => if x.get l = true then r l else linkOf l s) s

theorem linkOf_replaceLinks (x : LinkSet) (r : Link → LinkRec) (s : State) (l : Link) :
    linkOf l (replaceLinks x r s) = if x.get l = true then r l else linkOf l s := linkOf_withLinks ..

theorem replaceLinks_replaceLinks (x y : LinkSet) (r k : Link → LinkRec) (s : State) :
    replaceLinks x r (replaceLinks y k s)
      = withLinks (fun l => if x.get l = true then r l else if y.get l = true then k l else linkOf l s) s := by
  rw [replaceLinks]
  simp only [linkOf_replaceLinks]
  rfl

theorem membersOf_eq (x : LinkSet) :
    membersOf x
      = ((if x.get .a = true then [.a] else []) ++ if x.get .b = true then [.b] else [])
          ++ if x.get .c = true then [.c] else [] := by
  obtain ⟨a, b, c⟩ := x
  cases a <;> cases b <;> cases c <;> rfl

theorem membersOf_flatMap (x : LinkSet) (es : Link → List Entry) :
    (membersOf x).flatMap es
      = ((if x.get .a = true then es .a else []) ++ if x.get .b = true then es .b else [])
          ++ if x.get .c = true then es .c else [] := by
  have hone (l : Link) : (if x.get l = true then [l] else []).flatMap es = if x.get l = true then es l else [] := by
    split <;> simp
  rw [membersOf_eq, List.flatMap_append, List.flatMap_append, hone, hone, hone]

theorem membersOf_any (x : LinkSet) (b : Link → Bool) :
    (membersOf x).any b = (x.get .c && b .c || (x.get .b && b .b || x.get .a && b .a)) := by
  have hone (l : Link) : (if x.get l = true then [l] else []).any b = (x.get l && b l) := by cases x.get l <;> simp
  rw [membersOf_eq, List.any_append, List.any_append, hone, hone, hone, Bool.or_comm, Bool.or_comm (_ && _) (_ && _)]

/-- A step that writes the link's record, raises LINK and offers entries, each of them read off the link and what no such step
changes, is made of each link as it stood before all of them. -/
theorem eachLink_steps {x : LinkSet} {f : Link → State → State} {r : Link → LinkRec} {b : Link → Bool}
    {es : Link → List Entry} {s : State}
    (h : ∀ l, x.get l = true → ∀ t, SideFrame s t → linkOf l t = linkOf l s →
      f l t = offerAll (es l) (flagLink (b l) (setLinkRec l (r l) t))) :
    eachLink x f s
      = offerAll ((membersOf x).flatMap es) (flagLink ((membersOf x).any b) (replaceLinks x r s)) := by
  have step (l : Link) (t : State) (hframe : SideFrame s t) (hlink : linkOf l t = linkOf l s) :
      (if x.get l = true then f l else id) t
        = offerAll (if x.get l = true then es l else [])
            (flagLink (x.get l && b l) (setLinkRec l (if x.get l = true then r l else linkOf l s) t)) := by
    cases hx : x.get l with
    | true => exact h l hx t hframe hlink
    | false => exact ((congrArg (setLinkRec l · t) hlink.symm).trans (setLinkRec_self l t)).symm
  have after (l : Link) (t : State) (hframe : SideFrame s t) (hlink : linkOf l t = linkOf l s) :
      SideFrame s ((if x.get l = true then f l else id) t)
        ∧ ∀ m, m ≠ l → linkOf m ((if x.get l = true then f l else id) t) = linkOf m t := by
    rw [step l t hframe hlink]
    refine ⟨hframe.trans ((setLinkRec_frame ..).trans ((flagLink_frame ..).trans (offerAll_frame ..))), fun m hm => ?_⟩
    rw [linkOf_offerAll, linkOf_flagLink, linkOf_setLinkRec_other l m _ t hm]
  have ha := step .a s (.refl s) rfl
  obtain ⟨hframe, hother⟩ := after .a s (.refl s) rfl
  have hb := step .b _ hframe (hother .b (by decide))
  obtain ⟨hframe', hother'⟩ := after .b _ hframe (hother .b (by decide))
  have hc := step .c _ hframe' ((hother' .c (by decide)).trans (hother .c (by decide)))
  calc eachLink x f s
      = (if x.get .c = true then f .c else id)
          ((if x.get .b = true then f .b else id) ((if x.get .a = true then f .a else id) s)) := eachLink_eq ..
    _ = _ := by
      rw [hc, hb, ha, membersOf_flatMap, membersOf_any]
      simp only [setLinkRec_offerAll, flagLink_offerAll, setLinkRec_flagLink, flagLink_flagLink, ← offerAll_append]
      rfl

/-- A step that writes the link's record alone. -/
theorem eachLink_replaces {x : LinkSet} {f : Link → State → State} {r : Link → LinkRec} {s : State}
    (h : ∀ l, x.get l = true → ∀ t, SideFrame s t → linkOf l t = linkOf l s → f l t = setLinkRec l (r l) t) :
    eachLink x f s = replaceLinks x r s := by
  have hsteps := eachLink_steps (x := x) (f := f) (r := r) (b := fun _ => false) (es := fun _ => []) h
  have hnone : (membersOf x).any (fun _ => false) = false := by simp
  have hnil : (membersOf x).flatMap (fun _ => ([] : List Entry)) = [] := by simp
  rw [hsteps, hnone, hnil]
  rfl

/-- A record written by a rule of its own. -/
theorem eachLink_setLinkRec (x : LinkSet) (g : LinkRec → LinkRec) (s : State) :
    eachLink x (fun l t => setLinkRec l (g (linkOf l t)) t) s = replaceLinks x (fun l => g (linkOf l s)) s :=
  eachLink_replaces fun l _ t _ hl => by rw [hl]

theorem holdLinks_eq (x : LinkSet) (s : State) :
    holdLinks x s = replaceLinks x (fun l => { linkOf l s with held := true }) s :=
  eachLink_setLinkRec x (fun k => { k with held := true }) s

theorem unholdLinks_eq (x : LinkSet) (s : State) :
    unholdLinks x s = replaceLinks x (fun l => { linkOf l s with held := false }) s :=
  eachLink_setLinkRec x (fun k => { k with held := false }) s

end Sys2Proof.Machine
end

section
/-!
PROOF. StartPass: START PASS is refused by its first failing check, or makes the pass, holds its links and wakes those that are DOWN
(R136, R142, R149 to R152, R161).
-/
namespace Sys2Proof.Machine

/-! ### The links and groups that a pass needs (R151) -/

theorem unionOf_get (x y : LinkSet) (l : Link) : (unionOf x y).get l = (x.get l || y.get l) := by cases l <;> rfl

theorem noLinks_get (l : Link) : noLinks.get l = false := by cases l <;> rfl

theorem neededSet_get (s : State) (used : List (Fin 16)) (l : Link) :
    (neededSet s used).get l = true ↔ ∃ g ∈ used, (routeOf s g).valid = true ∧ (routeOf s g).dest.get l = true := by
  have hfold (x : LinkSet) :
      (used.foldl (fun x g => if (routeOf s g).valid then unionOf x (routeOf s g).dest else x) x).get l = true
        ↔ x.get l = true ∨ ∃ g ∈ used, (routeOf s g).valid = true ∧ (routeOf s g).dest.get l = true := by
    induction used generalizing x with
    | nil => simp
    | cons g used ih =>
      rw [List.foldl_cons, ih]
      split
      · rename_i hvalid
        simp [unionOf_get, hvalid, or_assoc]
      · rename_i hvalid
        simp [hvalid]
  refine (hfold noLinks).trans ?_
  rw [noLinks_get]
  simp

/-- The scene of a frame, found among the records. -/
theorem recSceneAt_eq (f : Int) {store : List Scene} (h : StartsRise store) :
    recSceneAt f store = match sceneAt f store with | none => ⟨none, 0, 0⟩ | some x => ⟨some x.start, x.number, x.group⟩ := by
  rw [recSceneAt, lookup_eq f h]
  cases sceneAt f store <;> rfl

/-- A group is used when it is that of some frame of the range: of the in frame's scene, or of a scene that starts within. -/
theorem mem_usedGroups {store : List Scene} (h : StartsRise store) {inFrame outFrame : Int} (hle : inFrame ≤ outFrame)
    (g : Fin 16) :
    g ∈ usedGroups inFrame outFrame store ↔ ∃ f, inFrame ≤ f ∧ f ≤ outFrame ∧ (recSceneAt f store).group = g := by
  simp only [usedGroups, List.mem_cons, List.mem_map, List.mem_filter, Bool.and_eq_true, decide_eq_true_eq]
  constructor
  · rintro (rfl | ⟨x, ⟨hx, hlow, hhigh⟩, rfl⟩)
    · exact ⟨inFrame, le_rfl, hle, rfl⟩
    · have hat : sceneAt x.start store = some x := (sceneAt_eq_some h).mpr ⟨hx, le_rfl, fun _ _ => id⟩
      exact ⟨x.start, hlow.le, hhigh, by rw [recSceneAt_eq _ h, hat]⟩
  · rintro ⟨f, hlow, hhigh, rfl⟩
    rw [recSceneAt_eq _ h, recSceneAt_eq _ h]
    cases hf : sceneAt f store with
    | none =>
      have hin : sceneAt inFrame store = none :=
        (sceneAt_eq_none h).mpr fun y hy => hlow.trans_lt ((sceneAt_eq_none h).mp hf y hy)
      rw [hin]
      exact .inl rfl
    | some x =>
      obtain ⟨hx, hxf, hmax⟩ := (sceneAt_eq_some h).mp hf
      by_cases hin : x.start ≤ inFrame
      · have hat : sceneAt inFrame store = some x :=
          (sceneAt_eq_some h).mpr ⟨hx, hin, fun y hy hyin => hmax y hy (hyin.trans hlow)⟩
        rw [hat]
        exact .inl rfl
      · exact .inr ⟨x, ⟨hx, lt_of_not_ge hin, hxf.trans hhigh⟩, rfl⟩

/-! ### The checks of R150 -/

theorem startRange_iff (a : PassArgs) (std : Standard) : a.inRange std = true ↔ StartRangeOk a std := by
  have hlinks : (∀ l, a.tcIn.get l < tcRange std)
      ↔ a.tcIn.a < tcRange std ∧ a.tcIn.b < tcRange std ∧ a.tcIn.c < tcRange std :=
    ⟨fun h => ⟨h .a, h .b, h .c⟩, fun ⟨ha, hb, hc⟩ l => by cases l <;> assumption⟩
  simp only [PassArgs.inRange, StartRangeOk, Bool.and_eq_true, decide_eq_true_eq, hlinks, and_assoc]
  rfl

theorem failingLinks_get (s : State) (x : LinkSet) (l : Link) :
    (failingLinks s x).get l = true
      ↔ x.get l = true ∧ ((linkOf l s).state = .fault ∨ ((linkOf l s).state = .down ∧ (linkOf l s).autoWake = false)) := by
  have hget : (failingLinks s x).get l = (x.get l && notReady (linkOf l s)) := by cases l <;> rfl
  rw [hget, notReady]
  simp

theorem exec_startPass {s : State} {b : OrderBlock} (h : Handed s b 80) : exec .startPass s = .next (takeStartPass b s) :=
  next_withOrder h _

theorem takeStartPass_refused {s : State} {b : OrderBlock} {r : Result} (h : startRefused (passArgs b) s = some r) :
    takeStartPass b s = finish b r.outcome r.detail s := by
  simp only [takeStartPass, h]

theorem startRefused_pass {a : PassArgs} {s : State} (h : startRefused a s = none) : s.pass = none := by
  by_contra hpass
  rw [startRefused, if_pos ((passExists_iff s).mpr hpass)] at h
  exact nomatch h

section
variable {a : PassArgs} {s : State} (hpass : s.pass = none)
include hpass

theorem not_passExists : ¬ passExists s = true := fun h => (passExists_iff s).mp h hpass

theorem startRefused_free (hmode : s.follower.mode = .free) : startRefused a s = some ⟨.mode, 0⟩ := by
  rw [startRefused, if_neg (not_passExists hpass), if_pos hmode]

variable (hmode : s.follower.mode ≠ .free)
include hmode

theorem startRefused_range (hrange : ¬ StartRangeOk a s.follower.standard) : startRefused a s = some ⟨.range, 0⟩ := by
  have hbad : (!a.inRange s.follower.standard) = true := by
    rw [Bool.not_eq_true', ← Bool.not_eq_true, startRange_iff]
    exact hrange
  rw [startRefused, if_neg (not_passExists hpass), if_neg hmode, if_pos hbad]

variable (hrange : StartRangeOk a s.follower.standard)
include hrange

/-- A START PASS in range goes on to the checks of the in frame and of readiness. -/
theorem startRefused_inRange :
    startRefused a s
      = if startParity s.follower a.inFrame ≠ .first then some ⟨.range, 0⟩
        else if s.follower.standIn = true then some ⟨.notReady, 0⟩
        else if s.journal.setting = none then some ⟨.notReady, 0⟩
        else if needOf a s = noLinks then some ⟨.notReady, 0⟩
        else if failingLinks s (needOf a s) ≠ noLinks then some ⟨.notReady, setCode (failingLinks s (needOf a s))⟩
        else none := by
  have hgood : ¬ (!a.inRange s.follower.standard) = true := by
    rw [(startRange_iff ..).mpr hrange]
    exact nofun
  rw [startRefused, if_neg (not_passExists hpass), if_neg hmode, if_neg hgood]
  simp only [Option.isNone_iff_eq_none]

end

/-- Settles O20: each check in its place, and the needed links by the scenes of the range. -/
theorem startPassChecksInOrder : Obligations.StartPassChecksInOrder := by
  unfold Obligations.StartPassChecksInOrder
  intro s b hb a ready failing
  have hrefused {r : Result} (h : startRefused a s = some r) : exec .startPass s = .next (finish b r.outcome r.detail s) := by
    rw [exec_startPass hb, takeStartPass_refused h]
  refine ⟨fun hpass => hrefused (if_pos ((passExists_iff s).mpr hpass)),
    fun hpass hmode => hrefused (startRefused_free hpass hmode),
    fun hpass hmode hrange => hrefused (startRefused_range hpass hmode hrange), ?_, ?_, ?_,
    fun l => failingLinks_get s _ l, fun hstore hle l => ?_⟩
  · rintro ⟨hpass, hmode, hrange⟩ hparity
    refine hrefused (r := ⟨.range, 0⟩) ?_
    rw [startRefused_inRange hpass hmode hrange, if_pos (by simp [hparity])]
  · rintro ⟨hpass, hmode, hrange⟩ hparity hready
    refine hrefused (r := ⟨.notReady, 0⟩) ?_
    rw [startRefused_inRange hpass hmode hrange, if_neg (not_not.mpr hparity)]
    obtain hstand | hjournal := hready
    · rw [if_pos hstand]
    · rw [if_pos hjournal, ite_self]
  · rintro ⟨hpass, hmode, hrange⟩ hparity hstand hjournal hlinks
    refine hrefused (r := ⟨.notReady, setCode failing⟩) ?_
    rw [startRefused_inRange hpass hmode hrange, if_neg (not_not.mpr hparity), if_neg (by simp [hstand]), if_neg hjournal]
    by_cases hneed : needOf a s = noLinks
    · have hnone : failing = noLinks := by simp [failing, hneed, failingLinks, noLinks, PerLink.same]
      rw [if_pos hneed, hnone]
      rfl
    · rw [if_neg hneed, if_pos (hlinks.resolve_left hneed)]
  · rw [neededSet_get]
    constructor
    · rintro ⟨g, hg, hvalid, hdest⟩
      obtain ⟨f, hlow, hhigh, rfl⟩ := (mem_usedGroups hstore.startsRise hle g).mp hg
      exact ⟨f, hlow, hhigh, hvalid, hdest⟩
    · rintro ⟨f, hlow, hhigh, hvalid, hdest⟩
      exact ⟨_, (mem_usedGroups hstore.startsRise hle _).mpr ⟨f, hlow, hhigh, rfl⟩, hvalid, hdest⟩

/-! ### The pass that an accepted START PASS makes (R149, R152) -/

theorem startRefused_none {a : PassArgs} {s : State} (h : StartAccepted a s) : startRefused a s = none := by
  obtain ⟨hpass, hmode, hrange, hparity, hstand, hjournal, hneed, hfailing⟩ := h
  rw [startRefused_inRange hpass hmode hrange, if_neg (not_not.mpr hparity), if_neg (by simp [hstand]), if_neg hjournal,
    if_neg hneed, if_neg (not_not.mpr hfailing)]

theorem takeStartPass_accepted {s : State} {b : OrderBlock} (h : startRefused (passArgs b) s = none) :
    takeStartPass b s = finish b .ok (setCode (needOf (passArgs b) s)) (acceptPass (passArgs b) s) := by
  simp only [takeStartPass, h]
  rfl

theorem initialGroups_get (s : State) (used : List (Fin 16)) (g : Fin 16) :
    (initialGroups s used)[g.val]
      = if g ∈ used then (if (routeOf s g).valid = true then .awaited else .spilled) else .unused := by
  simp [initialGroups]

/-- The state at an accepted START PASS before any link is held or woken: the pass is there, and no auto-down is to be decided. -/
def begunPass (a : PassArgs) (s : State) : State := { s with pass := some (newPass a s), links := s.links.map cancelDown }

theorem linkOf_begunPass (a : PassArgs) (s : State) (l : Link) : linkOf l (begunPass a s) = cancelDown (linkOf l s) := by
  cases l <;> rfl

theorem acceptPass_eq (a : PassArgs) (s : State) :
    acceptPass a s
      = offer (passStartEntry (newPass a s) s)
          (eachLink (needOf a s) (fun l t => wakeRequest l .pass t) (holdLinks (needOf a s) (begunPass a s))) := by
  have hframe : SideFrame s (eachLink (needOf a s) (fun l t => wakeRequest l .pass t) (holdLinks (needOf a s) (begunPass a s))) :=
    (beginPass_frame _ _ s).trans ((holdLinks_frame ..).trans (eachLink_frame _ _ _ fun _ _ => wakeRequest_frame ..))
  have hentry : passStartEntry (newPass a s)
      (eachLink (needOf a s) (fun l t => wakeRequest l .pass t) (holdLinks (needOf a s) (begunPass a s)))
        = passStartEntry (newPass a s) s := by
    rw [passStartEntry, passStartEntry, entryNow, entryNow, hframe.follower, hframe.store]
  rw [← hentry]
  rfl

/-- A link that a pass wakes for itself (R136), while its send queue has room. -/
def wokenRec (field : BitVec 32) (r : LinkRec) : LinkRec :=
  if r.state = .down then
    { r with queue := r.queue ++ [.wake], state := .waking, owner := .pass, timer := some ⟨.wake, field, r.wakeLimit⟩ }
  else r

theorem wakeRequest_woken {l : Link} {s : State} (hroom : (linkOf l s).state = .down → Room (linkOf l s)) :
    wakeRequest l .pass s = setLinkRec l (wokenRec (now s) (linkOf l s)) s := by
  by_cases hdown : (linkOf l s).state = .down
  · rw [wakeRequest_room .pass hdown (hroom hdown), wokenRec, if_pos hdown]
  · rw [wakeRequest, if_neg hdown, wokenRec, if_neg hdown, setLinkRec_self]

/-- Settles O21: the marks withdrawn, the needed links held and those that are DOWN woken, and PASS_START offered. -/
theorem startPassIsAccepted : Obligations.StartPassIsAccepted := by
  unfold Obligations.StartPassIsAccepted
  intro s b hb a need x woken hok hroom
  have hcancel (k : LinkRec) : (cancelDown k).state = k.state ∧ (cancelDown k).queue = k.queue := by
    rw [cancelDown_eq]
    exact ⟨rfl, rfl⟩
  have hheld (l : Link) (hl : need.get l = true) :
      linkOf l (holdLinks need (begunPass a s)) = { cancelDown (linkOf l s) with held := true } := by
    rw [holdLinks_eq, linkOf_replaceLinks, if_pos hl, linkOf_begunPass]
  have hwake : eachLink need (fun l t => wakeRequest l .pass t) (holdLinks need (begunPass a s))
      = replaceLinks need (fun l => wokenRec s.follower.record.field { cancelDown (linkOf l s) with held := true })
          (holdLinks need (begunPass a s)) := by
    refine eachLink_replaces fun l hl t hframe hlink => ?_
    have hfield : now t = s.follower.record.field := by
      rw [now, hframe.follower, (holdLinks_frame ..).follower]
      rfl
    rw [← hheld l hl, ← hlink, ← hfield]
    refine wakeRequest_woken fun hdown => ?_
    rw [hlink, hheld l hl] at hdown ⊢
    rw [Room, (hcancel _).2]
    exact hroom l hl ((hcancel _).1 ▸ hdown)
  have hwoken : replaceLinks need (fun l => wokenRec s.follower.record.field { cancelDown (linkOf l s) with held := true })
      (holdLinks need (begunPass a s)) = { begunPass a s with links := ⟨woken .a, woken .b, woken .c⟩ } := by
    have hrec (l : Link) : (if need.get l = true then
        wokenRec s.follower.record.field { cancelDown (linkOf l s) with held := true }
          else linkOf l (holdLinks need (begunPass a s))) = woken l := by
      simp only [woken]
      by_cases hl : need.get l = true
      · simp only [if_pos hl, wokenRec, cancelDown_eq]
      · rw [if_neg hl, if_neg hl, holdLinks_eq, linkOf_replaceLinks, if_neg hl, linkOf_begunPass, cancelDown_eq]
    rw [replaceLinks, withLinks, hrec, hrec, hrec, holdLinks_eq]
    rfl
  refine ⟨initialGroups s (usedGroups a.inFrame a.outFrame s.store), ?_, fun hstore g => ?_⟩
  · rw [exec_startPass hb, takeStartPass_accepted (startRefused_none hok), acceptPass_eq, hwake, hwoken]
    rfl
  · obtain ⟨-, -, ⟨-, ⟨hle, -⟩, -⟩, -⟩ := hok
    intro used
    have hused : g ∈ usedGroups a.inFrame a.outFrame s.store ↔ used := mem_usedGroups hstore.startsRise hle g
    rw [initialGroups_get]
    exact ⟨fun hno => if_neg (hused.not.mpr hno), fun hyes => if_pos (hused.mpr hyes)⟩

end Sys2Proof.Machine
end

section
/-!
PROOF. PassMoves: what the link and pass controllers' operations make of the held marks and of the links that record, and the law of
passes and links under them (R149, R152, R155, R158).
-/
namespace Sys2Proof.Machine

-- One theorem at a time: the threads that check many at once ask for more memory than the check allows.
set_option Elab.async false

/-! ### Which links begin to record -/

/-- From `s` to `t` the held marks have stayed, and no link has begun to record but those of `x`. -/
structure LinksBegin (x : LinkSet) (s t : State) : Prop where
  held : ∀ l, (linkOf l t).held = (linkOf l s).held
  records : ∀ l, (linkOf l t).state = .recording → x.get l = true ∨ (linkOf l s).state = .recording

/-- From `s` to `t` the pass and the routes have stayed too. -/
structure Begins (x : LinkSet) (s t : State) : Prop extends LinksBegin x s t where
  pass : t.pass = s.pass
  routes : t.routes = s.routes

theorem LinksBegin.recorded {s t : State} (h : LinksBegin noLinks s t) {l : Link} (hrec : (linkOf l t).state = .recording) :
    (linkOf l s).state = .recording := by
  have hor := h.records l hrec
  rw [noLinks_get] at hor
  exact hor.resolve_left nofun

section
variable {x : LinkSet}

theorem LinksBegin.same {s t : State} (h : t.links = s.links := by rfl) : LinksBegin x s t := by
  constructor
  · exact fun l => congrArg LinkRec.held (linkOf_congr l t s h)
  · exact fun l hrec => .inr (linkOf_congr l t s h ▸ hrec)

theorem LinksBegin.trans {s t u : State} (h : LinksBegin x s t) (k : LinksBegin x t u) : LinksBegin x s u :=
  ⟨fun l => (k.held l).trans (h.held l), fun l hrec => (k.records l hrec).elim .inl (h.records l)⟩

/-- The links, the pass and the routes. -/
def passParts (s : State) : PerLink LinkRec × Option Pass × Vector Route 16 := (s.links, s.pass, s.routes)

theorem Begins.same {s t : State} (h : passParts t = passParts s := by rfl) : Begins x s t := by
  obtain ⟨hlinks, hpass, hroutes⟩ : t.links = s.links ∧ t.pass = s.pass ∧ t.routes = s.routes := by simpa [passParts] using h
  exact ⟨.same hlinks, hpass, hroutes⟩

theorem Begins.trans {s t u : State} (h : Begins x s t) (k : Begins x t u) : Begins x s u :=
  ⟨h.toLinksBegin.trans k.toLinksBegin, k.pass.trans h.pass, k.routes.trans h.routes⟩

theorem ite_begins {p : Prop} [Decidable p] {s t u : State} (ht : Begins x s t) (hu : Begins x s u) :
    Begins x s (if p then t else u) := by
  split <;> assumption

theorem offer_begins (e : Entry) (s : State) : Begins x s (offer e s) :=
  ⟨.same (offer_links ..), offer_pass .., offer_routes ..⟩

theorem setLinkRec_begins {l : Link} {r : LinkRec} {s : State} (hheld : r.held = (linkOf l s).held)
    (hrec : r.state = .recording → x.get l = true ∨ (linkOf l s).state = .recording) : Begins x s (setLinkRec l r s) := by
  refine ⟨⟨fun m => ?_, fun m hm => ?_⟩, rfl, rfl⟩
  · by_cases h : m = l
    · rw [h, linkOf_setLinkRec_same, hheld]
    · rw [linkOf_setLinkRec_other l m r s h]
  · by_cases h : m = l
    · subst h
      rw [linkOf_setLinkRec_same] at hm
      exact hrec hm
    · rw [linkOf_setLinkRec_other l m r s h] at hm
      exact .inr hm

/-- A record written with its state and its held mark as they were. -/
theorem Begins.record {l : Link} {r : LinkRec} {s : State} (hheld : r.held = (linkOf l s).held := by rfl)
    (hstate : r.state = (linkOf l s).state := by rfl) : Begins x s (setLinkRec l r s) :=
  setLinkRec_begins hheld fun h => .inr (hstate ▸ h)

theorem foldLinks_begins {ls : List Link} {f : Link → State → State} {s : State}
    (h : ∀ l ∈ ls, ∀ t, Begins x t (f l t)) : Begins x s (ls.foldl (fun s l => f l s) s) := by
  induction ls generalizing s with
  | nil => exact .same
  | cons l ls ih => exact (h l List.mem_cons_self s).trans (ih fun m hm => h m (List.mem_cons_of_mem l hm))

theorem eachLink_begins {y : LinkSet} {f : Link → State → State} {s : State}
    (h : ∀ l, y.get l = true → ∀ t, Begins x t (f l t)) : Begins x s (eachLink y f s) :=
  foldLinks_begins fun l hl => h l (List.mem_filter.mp hl).2

/-! ### The link controller -/

theorem faultLink_begins (l : Link) (c : FaultCause) (n : Nat) (s : State) : Begins x s (faultLink l c n s) := by
  have hrec : Begins x s (setLinkRec l (faultRec c n (linkOf l s)) s) := setLinkRec_begins rfl nofun
  exact hrec.trans .same

theorem enterFault_begins (l : Link) (c : FaultCause) (n v : Nat) (tc : Option Nat) (s : State) :
    Begins x s (enterFault l c n v tc s) := (faultLink_begins ..).trans (offer_begins ..)

/-- The change that goes with a directive leaves the held mark, and has a link record only if it is of `x`. -/
abbrev ChangeBegins (x : LinkSet) (l : Link) (f : LinkRec → LinkRec) : Prop :=
  ∀ r, (f r).held = r.held ∧ ((f r).state = .recording → x.get l = true)

theorem issueOr_begins {full : State → State} {l : Link} {d : Directive} {f : LinkRec → LinkRec} {s : State}
    (hfull : Begins x s (full s)) (hf : ChangeBegins x l f) : Begins x s (issueOr full l d f s) :=
  ite_begins hfull (setLinkRec_begins (hf _).1 fun h => .inl ((hf _).2 h))

theorem issue_begins {l : Link} {d : Directive} {f : LinkRec → LinkRec} {s : State} (hf : ChangeBegins x l f) :
    Begins x s (issue l d f s) := issueOr_begins (enterFault_begins ..) hf

theorem issueEarly_begins {l : Link} {d : Directive} {f : LinkRec → LinkRec} {s : State} (hf : ChangeBegins x l f) :
    Begins x s (issueEarly l d f s) := issueOr_begins (faultLink_begins ..) hf

theorem lateFault_begins (before : State) (l : Link) (s : State) : Begins x s (lateFault before l s) :=
  ite_begins (offer_begins ..) .same

theorem wakeRequest_begins (l : Link) (o : WakeOwner) (s : State) : Begins x s (wakeRequest l o s) :=
  ite_begins (issue_begins fun _ => ⟨rfl, nofun⟩) .same

theorem cueRequest_begins (l : Link) (tc : Nat) (s : State) : Begins x s (cueRequest l tc s) :=
  ite_begins ((Begins.record).trans (issue_begins fun _ => ⟨rfl, nofun⟩)) .same

theorem releaseRequest_begins (l : Link) (s : State) : Begins x s (releaseRequest l s) :=
  ite_begins (issueEarly_begins fun _ => ⟨rfl, nofun⟩) .same

theorem rollRequest_begins (l : Link) (s : State) : Begins x s (rollRequest l s) :=
  ite_begins (issue_begins fun _ => ⟨rfl, nofun⟩) .same

/-- The one request after which a link records. -/
theorem inRequest_begins {l : Link} (hl : x.get l = true) (tc : Nat) (s : State) : Begins x s (inRequest l tc s) :=
  ite_begins (ite_begins ((Begins.record).trans (issue_begins fun _ => ⟨rfl, fun _ => hl⟩)) (enterFault_begins ..)) .same

theorem outRequest_begins (l : Link) (s : State) : Begins x s (outRequest l s) :=
  ite_begins (issueEarly_begins fun _ => ⟨rfl, nofun⟩) .same

theorem closeRequest_begins (l : Link) (s : State) : Begins x s (closeRequest l s) :=
  ite_begins (issueEarly_begins fun _ => ⟨rfl, nofun⟩) .same

theorem takeReport_begins (l : Link) (k : ReportKind) (v : Nat) (s : State) : Begins x s (takeReport l k v s) := by
  cases k with
  | awake | cued => exact ite_begins (ite_begins (setLinkRec_begins rfl nofun) (enterFault_begins ..)) .same
  | written => exact ite_begins (ite_begins .record (enterFault_begins ..)) .same
  | locked => exact ite_begins .record .same
  | done => exact ite_begins (setLinkRec_begins rfl nofun) .same
  | trouble => exact ite_begins .same (enterFault_begins ..)

theorem setFramer_begins (l : Link) (f : Framer) (s : State) : Begins x s (setFramer l f s) := .record

theorem takeByte_begins (l : Link) (b : Byte) (s : State) : Begins x s (takeByte l b s) := by
  have hcomplete (bytes : List Byte) : Begins x s (completeBytes l bytes s) := by
    unfold completeBytes completeFrame
    cases judgeFrame s.follower.standard _ _ _ with
    | none => exact setFramer_begins ..
    | some k => exact (setFramer_begins ..).trans (takeReport_begins ..)
  unfold takeByte
  cases (linkOf l s).framer with
  | hunting => exact ite_begins (setFramer_begins ..) .same
  | assembling noted bytes => exact ite_begins (setFramer_begins ..) (hcomplete _)

theorem takeBytes_begins (l : Link) (bytes : List Byte) (s : State) : Begins x s (takeBytes l bytes s) := by
  unfold takeBytes
  induction bytes generalizing s with
  | nil => exact .same
  | cons b bytes ih => exact (takeByte_begins l b s).trans (ih _)

theorem checkTimer_begins (l : Link) (s : State) : Begins x s (checkTimer l s) := by
  refine ite_begins ?_ .same
  cases (linkOf l s).timer with
  | none => exact .same
  | some t =>
    simp only [expireKind]
    cases t.kind <;> exact enterFault_begins ..

theorem autoDownNow_begins (l : Link) (s : State) : Begins x s (autoDownNow l s) := issue_begins fun _ => ⟨rfl, nofun⟩

theorem decideDown_begins (l : Link) (s : State) : Begins x s (decideDown l s) := ite_begins (autoDownNow_begins l s) .record

/-! ### The pass controller's edits -/

theorem editOut_begins (p : Pass) (i : Int) (l : Link) (s : State) : Begins x s (editOut p i l s) :=
  ite_begins ((outRequest_begins ..).trans (offer_begins ..)) (outRequest_begins ..)

theorem editIn_begins {l : Link} (hl : x.get l = true) (p : Pass) (i : Int) (sc : RecScene) (s : State) :
    Begins x s (editIn p i sc l s) :=
  ite_begins ((inRequest_begins hl ..).trans (offer_begins ..)) (inRequest_begins hl ..)

theorem closeEdit_begins (p : Pass) (i : Int) (l : Link) (s : State) : Begins x s (closeEdit p i l s) :=
  ite_begins ((closeRequest_begins ..).trans (offer_begins ..)) (closeRequest_begins ..)

theorem abortLink_begins (p : Pass) (i : Int) (l : Link) (s : State) : Begins x s (abortLink p i l s) :=
  (closeEdit_begins ..).trans (releaseRequest_begins ..)

theorem offerScene_begins (p : Pass) (sc : RecScene) (i : Int) (s : State) : Begins x s (offerScene p sc i s) := by
  have hscene : Begins x s (if newNumber p sc then offer (sceneEntry .scene sc i s) s else s) :=
    ite_begins (offer_begins ..) .same
  exact hscene.trans (ite_begins (offer_begins ..) .same)

end

/-! ### Requests after which a link does not record -/

theorem issueEarly_stops {l : Link} {d : Directive} {f : LinkRec → LinkRec} {s : State} (hf : ∀ r, (f r).state ≠ .recording) :
    (linkOf l (issueEarly l d f s)).state ≠ .recording := by
  by_cases hroom : Room (linkOf l s)
  · rw [issueEarly_room hroom, linkOf_setLinkRec_same]
    exact hf _
  · rw [issueEarly_full hroom, faultLink, linkOf_congr l _ _ (raise_links ..), linkOf_setLinkRec_same]
    exact nofun

theorem outRequest_stops (l : Link) (s : State) : (linkOf l (outRequest l s)).state ≠ .recording := by
  unfold outRequest
  split
  · exact issueEarly_stops fun _ => nofun
  · assumption

theorem closeRequest_stops (l : Link) (s : State) : (linkOf l (closeRequest l s)).state ≠ .recording := by
  unfold closeRequest
  split
  · exact issueEarly_stops fun _ => nofun
  · rename_i h
    exact fun hrec => h ((rollsOrRecords_iff _).mpr (.inr hrec))

/-- An entry offered behind a request changes no link. -/
theorem linkOf_edited {c : Prop} [Decidable c] (l : Link) (e : Entry) (t : State) :
    linkOf l (if c then offer e t else t) = linkOf l t := by
  split
  · exact linkOf_congr l _ _ (offer_links ..)
  · rfl

theorem editOut_stops (p : Pass) (i : Int) (l : Link) (s : State) : (linkOf l (editOut p i l s)).state ≠ .recording := by
  simp only [editOut, linkOf_edited]
  exact outRequest_stops l s

theorem closeEdit_stops (p : Pass) (i : Int) (l : Link) (s : State) : (linkOf l (closeEdit p i l s)).state ≠ .recording := by
  simp only [closeEdit, linkOf_edited]
  exact closeRequest_stops l s

theorem abortLink_stops (p : Pass) (i : Int) (l : Link) (s : State) : (linkOf l (abortLink p i l s)).state ≠ .recording :=
  fun h => closeEdit_stops p i l s ((releaseRequest_begins ..).recorded h)

/-- A request that stops a link, made of each link of a set. -/
theorem eachLink_stops {y : LinkSet} {f : Link → State → State} (hf : ∀ l t, Begins noLinks t (f l t))
    (hstop : ∀ l t, (linkOf l (f l t)).state ≠ .recording) {l : Link} (hl : y.get l = true) (s : State) :
    (linkOf l (eachLink y f s)).state ≠ .recording := by
  have hmem : l ∈ membersOf y := List.mem_filter.mpr ⟨by cases l <;> decide, hl⟩
  unfold eachLink
  obtain ⟨before, behind, he⟩ := List.append_of_mem hmem
  rw [he, List.foldl_append, List.foldl_cons]
  exact fun hrec => hstop l _ ((foldLinks_begins fun m _ => hf m).recorded hrec)

end Sys2Proof.Machine
end

section
/-!
PROOF. PassLaw: every command keeps the law of the pass and its links (R149, R152, R155, R158, R167).
-/
namespace Sys2Proof.Machine

-- One theorem at a time: the threads that check many at once ask for more memory than the check allows.
set_option Elab.async false

/-! ### The law under changes of the links -/

theorem linkSet_ext {x y : LinkSet} (h : ∀ l, x.get l = y.get l) : x = y := by
  obtain ⟨a, b, c⟩ := x
  obtain ⟨a', b', c'⟩ := y
  have ha : a = a' := h .a
  have hb : b = b' := h .b
  have hc : c = c' := h .c
  rw [ha, hb, hc]

theorem heldLinks_get (s : State) (l : Link) : (heldLinks s).get l = (linkOf l s).held := by cases l <;> rfl

theorem LinksBegin.heldLinks {x : LinkSet} {s t : State} (h : LinksBegin x s t) : heldLinks t = heldLinks s :=
  linkSet_ext fun l => by rw [heldLinks_get, heldLinks_get, h.held]

theorem groupOk_resolved {s : State} {p : Pass} {g : Fin 16} {set : LinkSet} {mode : RouteMode} {safety : Bool}
    (h : GroupOk s p g) (hgroup : groupOf p g = .resolved set mode safety) (hopen : p.state ≠ .closing) :
    Within set (heldLinks s) := by
  unfold GroupOk at h
  rw [hgroup] at h
  exact h hopen

/-- What a group's entry says is read off the held marks, the routes, and the pass's state, needed links and groups. -/
theorem GroupOk.congr {s t : State} {p q : Pass} {g : Fin 16} (h : GroupOk s p g) (hheld : heldLinks t = heldLinks s)
    (hroutes : t.routes = s.routes) (hstate : q.state = p.state) (hneeded : q.needed = p.needed)
    (hgroups : q.groups = p.groups) : GroupOk t q g := by
  have hroute : routeOf t g = routeOf s g := by rw [routeOf, routeOf, hroutes]
  have hgroup : groupOf q g = groupOf p g := by rw [groupOf, groupOf, hgroups]
  unfold GroupOk at h ⊢
  rw [hgroup, hroute, hheld, hstate, hneeded]
  exact h

/-- The law is kept from `s` to `t`. -/
structure PassKept (s t : State) : Prop where
  law : PassOk s → PassOk t

theorem PassKept.trans {s t u : State} (h : PassKept s t) (k : PassKept t u) : PassKept s u := ⟨fun hs => k.law (h.law hs)⟩

theorem ite_passKept {p : Prop} [Decidable p] {s t u : State} (ht : PassKept s t) (hu : PassKept s u) :
    PassKept s (if p then t else u) := by
  split <;> assumption

/-- The law stands when no link begins to record. -/
theorem Begins.kept {s t : State} (h : Begins noLinks s t) : PassKept s t := by
  constructor
  rintro ⟨hnone, hsome, hrec⟩
  refine ⟨fun hp => ?_, fun p hp => ?_, fun l hl => ?_⟩
  · rw [h.heldLinks]
    exact hnone (h.pass ▸ hp)
  · obtain ⟨hneeded, hgroups⟩ := hsome p (h.pass ▸ hp)
    rw [h.heldLinks]
    exact ⟨hneeded, fun g => (hgroups g).congr h.heldLinks h.routes rfl rfl rfl⟩
  · rw [h.held, h.pass]
    exact hrec l (h.recorded hl)

theorem PassKept.same {s t : State} (h : passParts t = passParts s := by rfl) : PassKept s t := (Begins.same h).kept

theorem PortMove.passKept {s t : State} (h : PortMove s t) : PassKept s t := .same (by rw [h]; rfl)

theorem recorders_held {s : State} (h : PassOk s) (l : Link) (hrec : (linkOf l s).state = .recording) :
    (linkOf l s).held = true := (h.2.2 l hrec).1

/-- No link records before the pass is RECORDING, or with no pass. -/
theorem none_records {s : State} (h : PassOk s) (hstate : ∀ p, s.pass = some p → p.state ≠ .recording) (l : Link) :
    (linkOf l s).state ≠ .recording := fun hrec => by
  obtain ⟨-, p, hp, hp', -⟩ := h.2.2 l hrec
  exact hstate p hp hp'

/-- A pass that is closing asks that no link records. -/
theorem passOk_closing {s : State} {p : Pass} (hpass : s.pass = some p) (hclosing : p.state = .closing)
    (hstop : ∀ l, (linkOf l s).state ≠ .recording) : PassOk s := by
  refine ⟨fun h => (nomatch hpass.symm.trans h), fun q hq => ?_, fun l hl => absurd hl (hstop l)⟩
  cases hpass.symm.trans hq
  refine ⟨fun h => (nomatch hclosing.symm.trans h), fun g => ?_⟩
  unfold GroupOk
  cases groupOf p g with
  | unused | spilled => trivial
  | awaited => exact fun h => nomatch hclosing.symm.trans h
  | resolved => exact fun h => absurd hclosing h

/-- With no pass, no link is held and none records. -/
theorem passOk_none {s : State} (hpass : s.pass = none) (hheld : ∀ l, (linkOf l s).held = false)
    (hstop : ∀ l, (linkOf l s).state ≠ .recording) : PassOk s := by
  refine ⟨fun _ => linkSet_ext fun l => ?_, fun q hq => (nomatch hpass.symm.trans hq), fun l hl => absurd hl (hstop l)⟩
  rw [heldLinks_get, noLinks_get, hheld]

/-- A change of the pass record that the law does not speak of. -/
theorem setPass_kept {s : State} {p q : Pass} (hpass : s.pass = some p) (hstate : q.state = p.state)
    (hneeded : q.needed = p.needed) (hgroups : q.groups = p.groups) (hrecording : q.recording = p.recording) :
    PassKept s { s with pass := some q } := by
  constructor
  rintro ⟨-, hsome, hrec⟩
  refine ⟨nofun, fun r hr => ?_, fun l hl => ?_⟩
  · cases hr
    obtain ⟨hneed, hgroup⟩ := hsome p hpass
    rw [hstate, hneeded]
    exact ⟨hneed, fun g => (hgroup g).congr rfl rfl hstate hneeded hgroups⟩
  · obtain ⟨hheld, r, hr, hstate', hget⟩ := hrec l hl
    cases hpass.symm.trans hr
    exact ⟨hheld, q, rfl, hstate.trans hstate', hrecording ▸ hget⟩

/-! ### Aborts and losses (R162, R166) -/

/-- Once every held link has been told to stop, none records. -/
theorem heldLinks_stopped {f : Link → State → State} {s : State} (hf : ∀ l t, Begins noLinks t (f l t))
    (hstop : ∀ l t, (linkOf l (f l t)).state ≠ .recording)
    (hheld : ∀ l, (linkOf l s).state = .recording → (linkOf l s).held = true) (l : Link) :
    (linkOf l (eachLink (heldLinks s) f s)).state ≠ .recording := fun hrec => by
  have hbefore := (eachLink_begins (y := heldLinks s) (s := s) fun m _ => hf m).recorded hrec
  exact eachLink_stops hf hstop (by rw [heldLinks_get, hheld l hbefore]) s hrec

theorem lateFaults_begins (x : LinkSet) (before s : State) : Begins noLinks s (eachLink x (lateFault before) s) :=
  eachLink_begins fun _ _ _ => lateFault_begins ..

/-- An abort asks only that the links that record are held. -/
theorem passOk_aborted {cause : AbortCause} {s : State} {p : Pass} (hpass : s.pass = some p) (hopen : p.state ≠ .closing)
    (hheld : ∀ l, (linkOf l s).state = .recording → (linkOf l s).held = true) : PassOk (abortPassNow cause s) := by
  refine passOk_closing (abortPassNow_pass hpass hopen) rfl fun l hrec => ?_
  rw [abortPassNow_eq hpass hopen] at hrec
  exact heldLinks_stopped (s := { s with pass := some (abortedPass cause p) }) (fun m t => abortLink_begins p _ m t)
    (abortLink_stops p _) hheld l ((lateFaults_begins ..).recorded hrec)

theorem abortPassNow_passKept (cause : AbortCause) (s : State) : PassKept s (abortPassNow cause s) := by
  refine ⟨fun h => ?_⟩
  cases hpass : s.pass with
  | none => simpa only [abortPassNow, hpass] using h
  | some p =>
    by_cases hclosing : p.state = .closing
    · simpa only [abortPassNow, hpass, if_pos hclosing] using h
    · exact passOk_aborted hpass hclosing (recorders_held h)

theorem abortPassNow_linksBegin (cause : AbortCause) (s : State) : LinksBegin noLinks s (abortPassNow cause s) := by
  unfold abortPassNow
  cases s.pass with
  | none => exact .same
  | some p =>
    simp only
    split
    · exact .same
    · have hpass (f : Pass → Pass) : LinksBegin noLinks s (changePass f s) := .same
      exact (hpass _).trans <|
        (eachLink_begins fun _ _ _ => abortLink_begins ..).toLinksBegin.trans (lateFaults_begins ..).toLinksBegin

theorem memberLoss_linksBegin (l : Link) (s : State) : LinksBegin noLinks s (memberLoss l s) := by
  unfold memberLoss
  cases s.pass with
  | none => exact .same
  | some p =>
    have hleft (f : Pass → Pass) : LinksBegin noLinks s (changePass f s) := .same
    simp only
    split
    · split
      · exact (hleft _).trans (abortPassNow_linksBegin ..)
      · exact hleft _
    · exact .same

/-- The pass loses a link that does not record (R162). -/
theorem memberLoss_passKept {l : Link} {s : State} (hl : (linkOf l s).state ≠ .recording) : PassKept s (memberLoss l s) := by
  have hleft {p : Pass} (hpass : s.pass = some p) : PassKept s { s with pass := some (leftPass l p) } := by
    constructor
    rintro ⟨-, hsome, hrec⟩
    refine ⟨nofun, fun q hq => ?_, fun m hm => ?_⟩
    · cases hq
      obtain ⟨hneed, hgroup⟩ := hsome p hpass
      exact ⟨hneed, fun g => (hgroup g).congr rfl rfl rfl rfl rfl⟩
    · obtain ⟨hheld, r, hr, hstate, hget⟩ := hrec m hm
      cases hpass.symm.trans hr
      refine ⟨hheld, _, rfl, hstate, ?_⟩
      have hne : m ≠ l := fun he => hl (he ▸ hm)
      cases l <;> cases m <;> first | exact hget | exact absurd rfl hne
  unfold memberLoss
  cases hpass : s.pass with
  | none => exact .same
  | some p =>
    have hchange : changePass (fun q => { q with recording := q.recording.set l false }) s
        = { s with pass := some (leftPass l p) } := by
      rw [changePass, hpass]
      rfl
    simp only [hchange]
    exact ite_passKept (ite_passKept ((hleft hpass).trans (abortPassNow_passKept ..)) (hleft hpass)) .same

theorem tellLosses_passKept (before after : State) : PassKept after (tellLosses before after) := by
  suffices h : ∀ (ls : List Link) (s : State), LinksBegin noLinks after s →
      PassKept s (ls.foldl (fun s l => if faultedIn before after l then memberLoss l s else s) s) from h _ after .same
  intro ls
  induction ls with
  | nil => exact fun s _ => .same
  | cons l ls ih =>
    intro s hs
    rw [List.foldl_cons]
    split
    · rename_i hfault
      refine (memberLoss_passKept fun hrec => ?_).trans (ih _ (hs.trans (memberLoss_linksBegin l s)))
      have hafter : (linkOf l after).state = .fault := by
        rw [faultedIn, Bool.and_eq_true, beq_iff_eq] at hfault
        exact hfault.2
      exact nomatch hafter.symm.trans (hs.recorded hrec)
    · exact ih s hs

/-! ### A pass that prepares and resolves (R153 to R155) -/

theorem issueCues_passKept {p q : Pass} {s : State} (hpass : s.pass = some q) : PassKept s (issueCues p s) := by
  have hcued : PassKept s (changePass (fun q => { q with cuesIssued := true }) s) := by
    rw [changePass, hpass]
    exact setPass_kept hpass rfl rfl rfl rfl
  exact hcued.trans (eachLink_begins fun _ _ _ => cueRequest_begins ..).kept

theorem issueCues_pass {p q : Pass} {s : State} (hpass : s.pass = some q) :
    (issueCues p s).pass = some { q with cuesIssued := true } := by
  have hcues : (issueCues p s).pass = (changePass (fun q => { q with cuesIssued := true }) s).pass :=
    (eachLink_begins (x := noLinks) fun _ _ _ => cueRequest_begins ..).pass
  rw [hcues, changePass_pass, hpass]
  rfl

/-- The links of a set that is resolved from a route are of the route's destinations (R154). -/
theorem resolveRoute_within (r : Route) (s : State) : Within (resolveRoute r s).1 r.dest := by
  have harmed : Within (membersIn r.dest .armed s) r.dest := fun l hl => by
    cases l <;> exact (Bool.and_eq_true ..).mp hl |>.1
  have hlowest (x : LinkSet) : Within (lowest x) x := fun l hl => by
    cases l with
    | a => exact hl
    | b => exact (Bool.and_eq_true ..).mp hl |>.1
    | c => exact (Bool.and_eq_true ..).mp ((Bool.and_eq_true ..).mp hl).1 |>.1
  unfold resolveRoute
  cases r.mode with
  | all =>
    simp only
    split
    · exact harmed
    · exact fun _ => id
  | any => exact fun l hl => harmed l (hlowest _ l hl)

theorem minusOf_get (x y : LinkSet) (l : Link) : (minusOf x y).get l = (x.get l && !y.get l) := by cases l <;> rfl

/-- The links that take part are those of the resolved sets (R155). -/
theorem takingPart_get (groups : Vector GroupEntry 16) (l : Link) :
    (takingPart groups).get l = true
      ↔ ∃ (g : Fin 16) (set : LinkSet) (mode : RouteMode) (safety : Bool),
          groups[g.val] = .resolved set mode safety ∧ set.get l = true := by
  have hfold (es : List GroupEntry) (x : LinkSet) :
      (es.foldl (fun x g => match g with
          | .resolved set _ _ => unionOf x set
          | .unused => x
          | .spilled => x
          | .awaited => x) x).get l = true
        ↔ x.get l = true ∨ ∃ set mode safety, GroupEntry.resolved set mode safety ∈ es ∧ set.get l = true := by
    induction es generalizing x with
    | nil => simp
    | cons e es ih =>
      rw [List.foldl_cons, ih]
      cases e with
      | resolved set mode safety =>
        simp only [unionOf_get, Bool.or_eq_true, List.mem_cons, GroupEntry.resolved.injEq, or_and_right, exists_or, or_assoc]
        simp
      | _ => simp
  have hmem (e : GroupEntry) : e ∈ groups.toList ↔ ∃ g : Fin 16, groups[g.val] = e := by
    rw [Vector.mem_toList_iff, Vector.mem_iff_getElem]
    exact ⟨fun ⟨i, hi, h⟩ => ⟨⟨i, hi⟩, h⟩, fun ⟨g, h⟩ => ⟨g, g.isLt, h⟩⟩
  refine (hfold ..).trans ?_
  rw [noLinks_get]
  simp only [Bool.false_eq_true, false_or, hmem]
  constructor
  · rintro ⟨set, mode, safety, ⟨g, hg⟩, hl⟩
    exact ⟨g, set, mode, safety, hg, hl⟩
  · rintro ⟨g, set, mode, safety, hg, hl⟩
    exact ⟨set, mode, safety, ⟨g, hg⟩, hl⟩

/-- What a group's entry says after resolution (R154): no group waits, and a resolved set is one that was so before, or a part of
the destinations of the group's route. -/
theorem resolvedGroups_cases {p : Pass} {s : State} {g : Fin 16} {set : LinkSet} {mode : RouteMode} {safety : Bool}
    (h : (resolvedGroups p s)[g.val] = .resolved set mode safety) :
    groupOf p g = .resolved set mode safety ∨ (groupOf p g = .awaited ∧ Within set (routeOf s g).dest) := by
  have hentry : (resolvedGroups p s)[g.val] = resolveGroup s g (groupOf p g) := by
    simp only [resolvedGroups, Vector.getElem_ofFn]
  rw [hentry] at h
  cases hgroup : groupOf p g with
  | resolved => rw [hgroup] at h; exact .inl h
  | awaited =>
    rw [hgroup] at h
    cases h
    exact .inr ⟨rfl, resolveRoute_within _ _⟩
  | unused | spilled => rw [hgroup] at h; exact nomatch h

theorem resolvedGroups_ne_awaited (p : Pass) (s : State) (g : Fin 16) : (resolvedGroups p s)[g.val] ≠ .awaited := by
  simp only [resolvedGroups, Vector.getElem_ofFn]
  cases groupOf p g <;> simp [resolveGroup]

theorem resolvePass_passKept {p q : Pass} {s : State} (hpass : s.pass = some q) (hprep : q.state = .preparing)
    (hgroups : q.groups = p.groups) : PassKept s (resolvePass p s) := by
  refine ⟨fun h => ?_⟩
  have hstill : ∀ l, (linkOf l s).state ≠ .recording := none_records h fun r hr => by
    cases hpass.symm.trans hr
    simp [hprep]
  obtain ⟨-, hsome, -⟩ := h
  obtain ⟨hneed, hgroup⟩ := hsome q hpass
  have hset : changePass (fun q => { q with groups := resolvedGroups p s }) s
      = { s with pass := some { q with groups := resolvedGroups p s } } := by rw [changePass, hpass]; rfl
  simp only [resolvePass, hset]
  generalize ht : { s with pass := some { q with groups := resolvedGroups p s } } = t
  have htpass : t.pass = some { q with groups := resolvedGroups p s } := by rw [← ht]
  have htlinks : LinksBegin noLinks s t := .same (by rw [← ht])
  have htstill (l : Link) : (linkOf l t).state ≠ .recording := fun hrec => hstill l (htlinks.recorded hrec)
  split
  · exact passOk_aborted htpass (by simp [hprep]) fun l hl => absurd hl (htstill l)
  · generalize hx : minusOf p.needed (takingPart (resolvedGroups p s)) = x
    have hreleased : Begins noLinks t
        (eachLink x (lateFault t) (eachLink (membersIn x .armed t) releaseRequest t)) :=
      (eachLink_begins fun _ _ _ => releaseRequest_begins ..).trans (lateFaults_begins ..)
    generalize hu : eachLink x (lateFault t) (eachLink (membersIn x .armed t) releaseRequest t) = u at hreleased
    have hheld (l : Link) : (linkOf l (unholdLinks x u)).held = ((linkOf l s).held && !x.get l) := by
      rw [unholdLinks_eq, linkOf_replaceLinks, ← htlinks.held, ← hreleased.held]
      split <;> simp [*]
    have hstate (l : Link) : (linkOf l (unholdLinks x u)).state = (linkOf l u).state := by
      rw [unholdLinks_eq, linkOf_replaceLinks]
      split <;> rfl
    have hupass : (changePass (fun q => { q with state := .waiting }) (unholdLinks x u)).pass
        = some { q with groups := resolvedGroups p s, state := .waiting } := by
      rw [changePass_pass, unholdLinks_eq]
      exact (congrArg (Option.map _) (hreleased.pass.trans htpass))
    refine ⟨fun hno => (nomatch hupass.symm.trans hno), fun r hr => ?_, fun l hl => ?_⟩
    · cases hupass.symm.trans hr
      refine ⟨nofun, fun g => ?_⟩
      have hwithin {set : LinkSet} {mode : RouteMode} {safety : Bool}
          (hg : (resolvedGroups p s)[g.val] = .resolved set mode safety) : Within set (heldLinks s) := by
        obtain hold | ⟨hwait, hdest⟩ := resolvedGroups_cases hg
        · exact groupOk_resolved (hgroup g) (by rw [groupOf, hgroups]; exact hold) (by simp [hprep])
        · have hok := hgroup g
          have hq : groupOf q g = .awaited := by rw [groupOf, hgroups]; exact hwait
          unfold GroupOk at hok
          rw [hq] at hok
          exact fun l hl => hneed hprep l (hok hprep l (hdest l hl))
      unfold GroupOk
      cases hg : groupOf { q with groups := resolvedGroups p s, state := .waiting } g with
      | unused | spilled => trivial
      | awaited => exact fun h => nomatch h
      | resolved set mode safety =>
        have hg' : (resolvedGroups p s)[g.val] = .resolved set mode safety := hg
        intro _ l hl
        have htakes : (takingPart (resolvedGroups p s)).get l = true :=
          (takingPart_get ..).mpr ⟨g, set, mode, safety, hg', hl⟩
        have hls : (linkOf l s).held = true := by
          rw [← heldLinks_get]
          exact hwithin hg' l hl
        rw [heldLinks_get]
        refine (hheld l).trans ?_
        rw [hls, ← hx, minusOf_get, htakes]
        simp
    · have hrec : (linkOf l u).state = .recording := (hstate l).symm.trans hl
      exact absurd (hreleased.recorded hrec) (htstill l)

theorem preparePass_passKept {p : Pass} {s : State} (hpass : s.pass = some p) (hprep : p.state = .preparing) :
    PassKept s (preparePass p s) := by
  have hresolve (t : State) (c : Bool) (ht : t.pass = some { p with cuesIssued := c }) (b : Bool) :
      PassKept t (if b = true then resolvePass p t else t) :=
    ite_passKept (resolvePass_passKept ht hprep rfl) .same
  unfold preparePass
  simp only
  split
  · exact hresolve s p.cuesIssued hpass _
  · split
    · exact (issueCues_passKept hpass).trans (hresolve _ true (issueCues_pass hpass) _)
    · exact hresolve s p.cuesIssued hpass _

/-! ### A pass that records (R157 to R160, R163) -/

/-- A link of the recording set of a scene is held, and so is every link that the pass may take in (R158). -/
theorem recordingSet_held {p : Pass} {sc : RecScene} {s : State} (h : GroupOk s p sc.group) (hopen : p.state ≠ .closing)
    {l : Link} (hl : (recordingSet p sc s).get l = true) : (linkOf l s).held = true := by
  unfold recordingSet at hl
  cases hgroup : groupOf p sc.group with
  | resolved set mode safety =>
    rw [hgroup, withoutFault_get, Bool.and_eq_true] at hl
    have hwithin := groupOk_resolved h hgroup hopen l hl.1
    rwa [heldLinks_get] at hwithin
  | _ =>
    rw [hgroup, noLinks_get] at hl
    exact nomatch hl

theorem workSet_passKept {p : Pass} {x : Int} {s : State} (hpass : s.pass = some p) (hopen : p.state ≠ .closing) :
    PassKept s (workSet p x s) := by
  refine ⟨fun h => ?_⟩
  obtain ⟨-, hsome, hrec⟩ := id h
  obtain ⟨-, hgroup⟩ := hsome p hpass
  unfold workSet
  simp only
  generalize recSceneAt s.follower.record.frame s.store = sc
  generalize hnew : recordingSet p sc s = new
  have hnewHeld (l : Link) (hl : new.get l = true) : (linkOf l s).held = true :=
    recordingSet_held (hgroup sc.group) hopen (hnew ▸ hl)
  have hout : Begins noLinks s (eachLink (minusOf p.recording new) (editOut p x) (offerScene p sc x s)) :=
    (offerScene_begins ..).trans (eachLink_begins fun _ _ _ => editOut_begins ..)
  have houtRec (l : Link)
      (hl : (linkOf l (eachLink (minusOf p.recording new) (editOut p x) (offerScene p sc x s))).state = .recording) :
      new.get l = true := by
    obtain ⟨-, q, hq, -, hin⟩ := hrec l (hout.recorded hl)
    cases hpass.symm.trans hq
    by_contra hno
    refine eachLink_stops (fun m t => editOut_begins p x m t) (editOut_stops p x) ?_ _ hl
    rw [minusOf_get, hin, Bool.true_and, Bool.not_eq_true']
    exact Bool.not_eq_true _ ▸ hno
  generalize eachLink (minusOf p.recording new) (editOut p x) (offerScene p sc x s) = t at hout houtRec
  generalize hu : changePass (fun q => { q with state := .recording, recording := new, lastScene := some sc }) t = u
  have hulinks : u.links = t.links := by rw [← hu]; rfl
  have hupass : u.pass = some { p with state := .recording, recording := new, lastScene := some sc } := by
    rw [← hu, changePass_pass, hout.pass, hpass]
    rfl
  have hin : Begins new u (eachLink (minusOf new p.recording) (editIn p x sc) u) := eachLink_begins fun l hl _ => by
    rw [minusOf_get, Bool.and_eq_true] at hl
    exact editIn_begins hl.1 ..
  generalize eachLink (minusOf new p.recording) (editIn p x sc) u = v at hin
  have hvrec (l : Link) (hl : (linkOf l v).state = .recording) : new.get l = true :=
    (hin.records l hl).elim id fun hl' => houtRec l (linkOf_congr l u t hulinks ▸ hl')
  have hvheld (l : Link) : (linkOf l v).held = (linkOf l s).held := by
    rw [hin.held, linkOf_congr l u t hulinks, hout.held]
  refine (lateFaults_begins ..).kept.law ?_
  have hwpass : (changePass (fun q => { q with recording := withoutFault new v }) v).pass
      = some { p with state := .recording, recording := withoutFault new v, lastScene := some sc } := by
    rw [changePass_pass, hin.pass, hupass]
    rfl
  have hheld : heldLinks (changePass (fun q => { q with recording := withoutFault new v }) v) = heldLinks s :=
    linkSet_ext fun l => by rw [heldLinks_get, heldLinks_get]; exact hvheld l
  refine ⟨fun hno => (nomatch hwpass.symm.trans hno), fun r hr => ?_, fun l hl => ?_⟩
  · cases hwpass.symm.trans hr
    refine ⟨nofun, fun g => ?_⟩
    unfold GroupOk
    cases hg : groupOf { p with state := .recording, recording := withoutFault new v, lastScene := some sc } g with
    | unused | spilled => trivial
    | awaited => exact fun h => nomatch h
    | resolved set mode safety =>
      rw [hheld]
      exact fun _ => groupOk_resolved (hgroup g) hg hopen
  · have hl' : (linkOf l v).state = .recording := hl
    refine ⟨(hvheld l).trans (hnewHeld l (hvrec l hl')), _, hwpass, rfl, ?_⟩
    rw [withoutFault_get, hvrec l hl', hl']
    rfl

theorem outPoint_passKept {p q : Pass} {x : Int} {s : State} (hpass : s.pass = some q) : PassKept s (outPoint p x s) := by
  refine ⟨fun h => passOk_closing (p := { q with state := .closing, recording := noLinks }) ?_ rfl fun l hrec => ?_⟩
  · have hclosed : (outPoint p x s).pass = (changePass (fun q => { q with state := .closing, recording := noLinks }) s).pass :=
      (eachLink_pass _ (lateFault_pass s) _).trans (eachLink_pass _ (closeEdit_pass p x) _)
    rw [hclosed, changePass_pass, hpass]
    rfl
  · exact heldLinks_stopped (s := changePass (fun q => { q with state := .closing, recording := noLinks }) s)
      (fun m t => closeEdit_begins p x m t) (closeEdit_stops p x) (fun m hm => recorders_held h m hm) l ((lateFaults_begins ..).recorded hrec)

/-! ### A pass at a field event (R153 to R167) -/

theorem rollPass_passKept {p : Pass} {s : State} (hpass : s.pass = some p) (hwait : p.state = .waiting) :
    PassKept s (rollPass s) := by
  have hroll : PassKept s (changePass (fun q => { q with state := .rolling }) s) := by
    refine ⟨fun h => ?_⟩
    have hstill : ∀ l, (linkOf l s).state ≠ .recording := none_records h fun r hr => by
      cases hpass.symm.trans hr
      simp [hwait]
    obtain ⟨-, hsome, -⟩ := h
    obtain ⟨-, hgroup⟩ := hsome p hpass
    rw [changePass, hpass]
    refine ⟨nofun, fun r hr => ?_, fun l hl => absurd hl (hstill l)⟩
    cases hr
    refine ⟨nofun, fun g => ?_⟩
    unfold GroupOk
    cases hg : groupOf { p with state := .rolling } g with
    | unused | spilled => trivial
    | awaited => exact fun h => nomatch h
    | resolved set mode safety => exact fun _ => groupOk_resolved (hgroup g) hg (by simp [hwait])
  exact hroll.trans (eachLink_begins fun _ _ _ => rollRequest_begins ..).kept

/-- A pass that ends lets every link go (R167). -/
theorem closePass_passKept {p : Pass} {s : State} (hpass : s.pass = some p) (hclosing : p.state = .closing) :
    PassKept s (closePass p s) := by
  refine ite_passKept ⟨fun h => ?_⟩ .same
  have hended : Begins noLinks s (raise .pass (offer (passEndEntry p s) s)) := Begins.trans (offer_begins ..) .same
  generalize raise .pass (offer (passEndEntry p s) s) = t at hended
  have hstill (l : Link) : (linkOf l t).state ≠ .recording := fun hrec => none_records h (fun r hr => by
    cases hpass.symm.trans hr
    simp [hclosing]) l (hended.recorded hrec)
  simp only [unholdLinks_eq]
  refine passOk_none rfl (fun l => ?_) fun l => ?_
  · have hl : (linkOf l (replaceLinks (heldLinks t) (fun l => { linkOf l t with held := false }) t)).held = false := by
      rw [linkOf_replaceLinks, heldLinks_get]
      split <;> simp_all
    exact hl
  · have hl : (linkOf l (replaceLinks (heldLinks t) (fun l => { linkOf l t with held := false }) t)).state ≠ .recording := by
      rw [linkOf_replaceLinks]
      split <;> exact hstill l
    exact hl

theorem atIndex_passKept (m : FieldMode) {f : Int → State → State} {s : State} (h : ∀ x, PassKept s (f x s)) :
    PassKept s (atIndex m f s) := by
  cases m with
  | locked n x => exact h x
  | _ => exact .same

theorem passByState_passKept {p : Pass} {s : State} (hpass : s.pass = some p) : PassKept s (passByState p s) := by
  unfold passByState
  cases hstate : p.state with
  | preparing => exact preparePass_passKept hpass hstate
  | waiting =>
    exact atIndex_passKept _ fun x =>
      ite_passKept (rollPass_passKept hpass hstate) (ite_passKept (abortPassNow_passKept ..) .same)
  | rolling => exact atIndex_passKept _ fun x => ite_passKept (workSet_passKept hpass (by simp [hstate])) .same
  | recording =>
    exact atIndex_passKept _ fun x =>
      ite_passKept (ite_passKept (workSet_passKept hpass (by simp [hstate])) (outPoint_passKept hpass)) .same
  | closing => exact closePass_passKept hpass hstate

theorem passField_passKept (s : State) : PassKept s (passField s) := by
  unfold passField
  refine ite_passKept ?_ .same
  cases hpass : s.pass with
  | none => exact .same
  | some p =>
    have hnoted : PassKept s { s with pass := some (noteIndex s.follower.record.mode p) } := by
      rw [noteIndex_eq]
      exact setPass_kept hpass rfl rfl rfl rfl
    have hstep : PassKept s (passStep p s) := hnoted.trans <|
      ite_passKept (abortPassNow_passKept ..) (ite_passKept (abortPassNow_passKept ..) (passByState_passKept rfl))
    exact hstep.trans (tellLosses_passKept ..)

end Sys2Proof.Machine
end

section
/-!
PROOF. PassCommands: a link records only in the recording set of a RECORDING pass, whatever command comes (R149, R152, R155, R158,
R167).
-/
namespace Sys2Proof.Machine

-- One theorem at a time: the threads that check many at once ask for more memory than the check allows.
set_option Elab.async false

/-! ### Field events -/

/-- The records of all three links are written by one rule that leaves the state and the held mark. -/
theorem mapLinks_begins {x : LinkSet} {f : LinkRec → LinkRec} {s : State}
    (h : ∀ r, (f r).held = r.held ∧ (f r).state = r.state) : Begins x s { s with links := s.links.map f } := by
  have hlink (l : Link) : linkOf l { s with links := s.links.map f } = f (linkOf l s) := by cases l <;> rfl
  refine ⟨⟨fun l => ?_, fun l hl => ?_⟩, rfl, rfl⟩
  · rw [hlink, (h _).1]
  · rw [hlink, (h _).2] at hl
    exact .inr hl

theorem countSilence_state (noPass : Bool) (r : LinkRec) :
    (countSilence noPass r).held = r.held ∧ (countSilence noPass r).state = r.state := by
  unfold countSilence
  split <;> exact ⟨rfl, rfl⟩

theorem timeoutFramer_state (field : BitVec 32) (r : LinkRec) :
    (timeoutFramer field r).held = r.held ∧ (timeoutFramer field r).state = r.state := by
  unfold timeoutFramer
  cases r.framer with
  | hunting => exact ⟨rfl, rfl⟩
  | assembling noted bytes => simp only; split <;> exact ⟨rfl, rfl⟩

theorem levelField_passKept (s : State) : PassKept s (levelField s) := by
  have hopen : PassKept s (finishOpen s) := by
    cases h : s.level.openMeas with
    | none => rw [finishOpen_none h]; exact .same
    | some m => rw [finishOpen_some h]; exact .same
  have hended (t : State) : PassKept t (closeIfEnded t) := by
    rw [closeIfEnded_eq]
    exact .same
  exact ite_passKept (hopen.trans ((hended _).trans .same)) .same

theorem runAct_passKept (a : FieldAct) (s : State) : PassKept s (runAct a s) := by
  cases a with
  | grade | restCount | restEntry | poll => exact ite_passKept .same .same
  | measure => exact levelField_passKept s
  | framers => exact ite_passKept (mapLinks_begins (timeoutFramer_state _)).kept .same
  | silence => exact ite_passKept (mapLinks_begins (countSilence_state _)).kept .same
  | timer l => exact (checkTimer_begins l s).kept.trans (tellLosses_passKept ..)
  | autoDown l => exact (decideDown_begins l s).kept.trans (tellLosses_passKept ..)
  | pass => exact passField_passKept s
  | report =>
    refine ite_passKept ?_ .same
    cases s.reports.setting <;> exact .same

theorem runActs_passKept (acts : List FieldAct) (s : State) : PassKept s (acts.foldl (fun s a => runAct a s) s) := by
  induction acts generalizing s with
  | nil => exact .same
  | cons a acts ih => exact (runAct_passKept a s).trans (ih _)

theorem fieldStep_passKept (p : Parity) (timer : Bool) (order : List FieldAct) (s : State) :
    PassKept s (fieldStep p timer order s) := by
  have hpublish (t : State) : PassKept t (publish p timer t) := by
    rw [publish_eq]
    exact .same
  exact (runActs_passKept optionalActs s).trans ((hpublish _).trans (runActs_passKept ..))

/-! ### Light samples, halts and the port -/

theorem takeReading_passKept (reading : Nat) (s : State) : PassKept s (takeReading reading s) := by
  have hoffered (e : Entry) (t : State) : PassKept t (offer e t) := (offer_begins e t).kept
  have hlow : PassKept s (lowReading reading s) :=
    ite_passKept (PassKept.trans (t := raise .tube
      { s with light := { s.light with lowRun := saturate s.light.lowRun, lowReported := true } }) .same (hoffered ..)) .same
  have hcheck (t : State) : PassKept t (serviceCheck t) :=
    ite_passKept (PassKept.trans (t := raise .tube { t with light := { t.light with serviceArmed := false } }) .same
      (hoffered ..)) .same
  have haccepted (l : Light) : PassKept s (serviceCheck { s with light := l }) :=
    PassKept.trans (t := { s with light := l }) .same (hcheck _)
  exact ite_passKept .same (ite_passKept .same (ite_passKept hlow (haccepted _)))

/-- A halt and a reset leave no pass, and every link DOWN and free (R147, R148, R168). -/
theorem passOk_down {s : State} {f : LinkRec → LinkRec} {t : State} (hpass : t.pass = none) (hlinks : t.links = s.links.map f)
    (hdown : ∀ r, (f r).state = .down ∧ (f r).held = false) : PassOk t := by
  have hlink (l : Link) : linkOf l t = f (linkOf l s) := by
    rw [linkOf, hlinks]
    cases l <;> rfl
  refine passOk_none hpass (fun l => ?_) fun l => ?_
  · rw [hlink, (hdown _).2]
  · rw [hlink, (hdown _).1]
    exact nofun

theorem haltPart_passKept (cause : HaltCause) (s : State) : PassKept s (haltPart cause s) :=
  ⟨fun _ => passOk_down (s := s) (f := haltRec) rfl rfl fun _ => ⟨rfl, rfl⟩⟩

theorem softReset_passKept (s : State) : PassKept s (softReset s) :=
  ⟨fun _ => passOk_down (s := s) (f := softRec) rfl rfl fun _ => ⟨rfl, rfl⟩⟩

theorem withOrder_passKept {code : BitVec 8} {s : State} {take : OrderBlock → State} (h : ∀ b, PassKept s (take b)) :
    PassKept s (withOrder code s take) := by
  obtain he | ⟨b, -, he⟩ := withOrder_cases code s take <;> rw [he]
  · exact .same
  · exact h b

theorem withProgress_passKept {s : State} {take : OrderBlock → Progress → State} (h : ∀ b p, PassKept s (take b p)) :
    PassKept s (withProgress s take) := by
  obtain he | ⟨b, p, -, he⟩ := withProgress_cases s take <;> rw [he]
  · exact .same
  · exact h b p

theorem complete_passKept {isKind : AccessKind → Bool} {s : State} {live : Access → State → State}
    (h : ∀ a t, PassKept t (live a t)) : PassKept s (complete isKind s live unused) := by
  have hend (a : Access) : PassKept s (endAccess a s) := .same
  obtain he | ⟨a, -, -, ⟨-, he⟩ | ⟨-, he⟩ | ⟨-, he⟩⟩ := complete_cases isKind s live unused <;> rw [he]
  · exact .same
  · exact (hend a).trans (h a _)
  · exact hend a
  · exact hend a

theorem afterSceneFetch_passKept (record : BitVec 512) (s : State) : PassKept s (afterSceneFetch record s) := by
  refine withProgress_passKept fun b p => ?_
  cases p with
  | fetchScene o =>
    simp only [putFetched_eq]
    exact .same
  | _ => exact .same

theorem afterLoadFetch_passKept (record : BitVec 512) (s : State) : PassKept s (afterLoadFetch record s) := by
  refine withProgress_passKept fun b p => ?_
  cases p with
  | fetchLoad run => exact ite_passKept .same .same
  | _ => exact .same

theorem afterLookFetch_passKept (record : BitVec 256) (s : State) : PassKept s (afterLookFetch record s) := by
  refine withProgress_passKept fun b p => ?_
  cases p with
  | fetchLook i o =>
    simp only [putLook]
    split <;> exact .same
  | _ => exact .same

/-! ### The orders -/

theorem takeLoadScenes_passKept (b : OrderBlock) (s : State) : PassKept s (takeLoadScenes b s) := by
  refine ite_passKept .same (ite_passKept .same ?_)
  cases flagCode (param b 18 1) <;> exact .same

theorem takeSetStandard_passKept (b : OrderBlock) (s : State) : PassKept s (takeSetStandard b s) := by
  refine ite_passKept .same (ite_passKept .same ?_)
  cases standardOf (param b 12 1) with
  | none => exact .same
  | some std => exact ite_passKept .same .same

theorem takeSetFollow_passKept (b : OrderBlock) (s : State) : PassKept s (takeSetFollow b s) := by
  refine ite_passKept .same ?_
  cases flagCode (param b 12 1) with
  | none => exact .same
  | some on =>
    cases on with
    | false => exact .same
    | true => exact ite_passKept .same .same

theorem takeSetPicture_passKept (b : OrderBlock) (s : State) : PassKept s (takeSetPicture b s) := by
  refine ite_passKept .same ?_
  cases flagCode (param b 12 1) with
  | none => exact .same
  | some clip => cases flagCode (param b 13 1) <;> exact .same

theorem takeSetMonitor_passKept (b : OrderBlock) (s : State) : PassKept s (takeSetMonitor b s) := by
  unfold takeSetMonitor
  cases monitorArgs b with
  | none => exact .same
  | some a => exact ite_passKept .same .same

theorem finish_passKept {s t : State} (h : PassKept s t) (b : OrderBlock) (o : OutcomeCode) (d : Nat) :
    PassKept s (finish b o d t) := h.trans .same

/-- SET ROUTE writes no route while a pass exists (R129), so that an awaited group keeps its destinations. -/
theorem takeSetRoute_passKept (b : OrderBlock) (s : State) : PassKept s (takeSetRoute b s) := by
  unfold takeSetRoute
  by_cases hexists : passExists s = true
  · rw [if_pos hexists]
    exact .same
  · have hpass : s.pass = none := by
      by_contra h
      exact hexists ((passExists_iff s).mpr h)
    have hroutes (r : Vector Route 16) : PassKept s { s with routes := r } := by
      refine ⟨fun h => ?_⟩
      have hfree (l : Link) : (linkOf l s).held = false := by rw [← heldLinks_get, h.1 hpass, noLinks_get]
      have hstill := none_records h fun p hp => nomatch hpass.symm.trans hp
      exact passOk_none hpass hfree hstill
    rw [if_neg hexists]
    split
    · exact .same
    · cases (routeArgs b).mode with
      | none => exact .same
      | some mode => exact ite_passKept .same (ite_passKept .same (finish_passKept (hroutes _) ..))

theorem takeSetLink_passKept (b : OrderBlock) (s : State) : PassKept s (takeSetLink b s) := by
  unfold takeSetLink
  simp only
  cases (linkArgs b).link with
  | none => exact .same
  | some l =>
    cases (linkArgs b).autoWake with
    | none => exact .same
    | some w =>
      have hchange (t : State) : PassKept t (setLinkRec l (setLinkTo (linkArgs b) w (linkOf l t)) t) :=
        (Begins.record (x := noLinks)).kept
      exact ite_passKept (finish_passKept ((decideDown_begins l s).kept.trans (hchange _)) ..) .same

theorem takeWakeLink_passKept (b : OrderBlock) (s : State) : PassKept s (takeWakeLink b s) := by
  unfold takeWakeLink
  cases linkOfCode (param b 12 1) with
  | none => exact .same
  | some l =>
    have hwake : PassKept s (wakeByOrder l s) :=
      ite_passKept ((wakeRequest_begins ..).kept.trans (tellLosses_passKept ..)) (Begins.record (x := noLinks)).kept
    exact ite_passKept .same (finish_passKept hwake ..)

theorem resetByOrder_begins (l : Link) (s : State) : Begins noLinks s (setLinkRec l (resetByOrder (linkOf l s)) s) := by
  unfold resetByOrder
  split
  · exact .record
  · exact setLinkRec_begins rfl nofun

theorem takeResetLink_passKept (b : OrderBlock) (s : State) : PassKept s (takeResetLink b s) := by
  unfold takeResetLink
  cases linkOfCode (param b 12 1) with
  | none => exact .same
  | some l => exact ite_passKept .same (finish_passKept (resetByOrder_begins l s).kept ..)

/-- An accepted START PASS holds every link that the pass needs, and with them the destinations of every group that waits (R152). -/
theorem acceptPass_passKept {a : PassArgs} {s : State} (hpass : s.pass = none) : PassKept s (acceptPass a s) := by
  refine ⟨fun h => ?_⟩
  have hstill (l : Link) : (linkOf l s).state ≠ .recording := none_records h (fun p hp => nomatch hpass.symm.trans hp) l
  have hrec (l : Link) : linkOf l (holdLinks (needOf a s) (begunPass a s))
      = if (needOf a s).get l = true then { cancelDown (linkOf l s) with held := true } else cancelDown (linkOf l s) := by
    rw [holdLinks_eq, linkOf_replaceLinks, linkOf_begunPass]
  have hp : (holdLinks (needOf a s) (begunPass a s)).pass = some (newPass a s) := by rw [holdLinks_eq]; rfl
  rw [acceptPass_eq]
  refine (Begins.trans (eachLink_begins fun _ _ _ => wakeRequest_begins ..) (offer_begins ..)).kept.law ?_
  refine ⟨fun hno => (nomatch hp.symm.trans hno), fun q hq => ?_, fun l hl => absurd hl ?_⟩
  · cases hp.symm.trans hq
    refine ⟨fun _ l hl => ?_, fun g => ?_⟩
    · have hneed : (needOf a s).get l = true := hl
      rw [heldLinks_get, hrec, if_pos hneed]
    · have hgroup : groupOf (newPass a s) g = (initialGroups s (usedGroups a.inFrame a.outFrame s.store))[g.val] := rfl
      have hroute : routeOf (holdLinks (needOf a s) (begunPass a s)) g = routeOf s g := by rw [holdLinks_eq]; rfl
      unfold GroupOk
      rw [hgroup, initialGroups_get, hroute]
      by_cases hused : g ∈ usedGroups a.inFrame a.outFrame s.store
      · rw [if_pos hused]
        by_cases hvalid : (routeOf s g).valid = true
        · rw [if_pos hvalid]
          exact fun _ l hl => (neededSet_get ..).mpr ⟨g, hused, hvalid, hl⟩
        · rw [if_neg hvalid]
          trivial
      · rw [if_neg hused]
        trivial
  · rw [hrec, cancelDown_eq]
    split <;> exact hstill l

theorem takeStartPass_passKept (b : OrderBlock) (s : State) : PassKept s (takeStartPass b s) := by
  cases h : startRefused (passArgs b) s with
  | none =>
    rw [takeStartPass_accepted h]
    exact finish_passKept (acceptPass_passKept (startRefused_pass h)) ..
  | some r =>
    rw [takeStartPass_refused h]
    exact .same

/-! ### Every command -/

/-- Every command keeps the law of the pass and its links. -/
theorem exec_passKept (c : Instr) (s : State) : ∃ t, exec c s = .next t ∧ PassKept s t := by
  have completion {isKind : AccessKind → Bool} {live : Access → State → State} (h : ∀ a t, PortMove t (live a t)) :
      PassKept s (complete isKind s live unused) := complete_passKept fun a t => (h a t).passKept
  have portOrder {code : BitVec 8} {take : OrderBlock → State} (h : ∀ b, PortMove s (take b)) :
      PassKept s (withOrder code s take) := (withOrder_portMove h).passKept
  have message (l : Link) (bytes : List Byte) : PassKept s (tellLosses s (takeBytes l bytes s)) :=
    (takeBytes_begins l bytes s).kept.trans (tellLosses_passKept ..)
  have expiry (k : TimerKind) (l : Link) : PassKept s (tellLosses s (expiryOf k l s)) :=
    (ite_passKept (checkTimer_begins l s).kept .same).trans (tellLosses_passKept ..)
  cases c with
  | putScene => exact ⟨_, rfl, portOrder (takePutScene_portMove · s)⟩
  | readScenes => exact ⟨_, rfl, portOrder (takeReadScenes_portMove · s)⟩
  | putLook => exact ⟨_, rfl, portOrder (takePutLook_portMove · s)⟩
  | readLooks => exact ⟨_, rfl, portOrder (takeReadLooks_portMove · s)⟩
  | setJournal => exact ⟨_, rfl, portOrder (takeSetJournal_portMove · s)⟩
  | setReports => exact ⟨_, rfl, portOrder (takeSetReports_portMove · s)⟩
  | mark => exact ⟨_, rfl, portOrder fun b => finish_portMove b .ok 0 s⟩
  | removeScene | setHouseArea | setPosition =>
    exact ⟨_, rfl, withOrder_passKept fun b => ite_passKept .same (ite_passKept .same (ite_passKept .same .same))⟩
  | clearScenes | lockScenes | unlockScenes | ackMonitor =>
    exact ⟨_, rfl, withOrder_passKept fun b => ite_passKept .same .same⟩
  | clearHouseLooks => exact ⟨_, rfl, withOrder_passKept fun b => ite_passKept .same (ite_passKept .same .same)⟩
  | loadScenes => exact ⟨_, rfl, withOrder_passKept (takeLoadScenes_passKept · s)⟩
  | setStandard => exact ⟨_, rfl, withOrder_passKept (takeSetStandard_passKept · s)⟩
  | setFollow => exact ⟨_, rfl, withOrder_passKept (takeSetFollow_passKept · s)⟩
  | setPicture => exact ⟨_, rfl, withOrder_passKept (takeSetPicture_passKept · s)⟩
  | setLight =>
    have hrest : PassKept s (decideRest s) := ite_passKept .same .same
    exact ⟨_, rfl, withOrder_passKept fun b => ite_passKept (hrest.trans .same) .same⟩
  | setMonitor => exact ⟨_, rfl, withOrder_passKept (takeSetMonitor_passKept · s)⟩
  | setRoute => exact ⟨_, rfl, withOrder_passKept (takeSetRoute_passKept · s)⟩
  | setLink => exact ⟨_, rfl, withOrder_passKept (takeSetLink_passKept · s)⟩
  | wakeLink => exact ⟨_, rfl, withOrder_passKept (takeWakeLink_passKept · s)⟩
  | resetLink => exact ⟨_, rfl, withOrder_passKept (takeResetLink_passKept · s)⟩
  | startPass => exact ⟨_, rfl, withOrder_passKept (takeStartPass_passKept · s)⟩
  | abortPass =>
    exact ⟨_, rfl, withOrder_passKept fun b => ite_passKept (finish_passKept (abortPassNow_passKept ..) ..) .same⟩
  | sceneFetchComplete record => exact ⟨_, rfl, complete_passKept fun _ => afterSceneFetch_passKept record⟩
  | loadRecordFetchComplete record => exact ⟨_, rfl, complete_passKept fun _ => afterLoadFetch_passKept record⟩
  | lookFetchComplete record => exact ⟨_, rfl, complete_passKept fun _ => afterLookFetch_passKept record⟩
  | readScenesSlotWritten => exact ⟨_, rfl, completion fun _ => afterSceneSlot_portMove⟩
  | readLooksSlotWritten => exact ⟨_, rfl, completion fun _ => afterLookSlot_portMove⟩
  | headerReadComplete bytes =>
    have read (a : Access) (t : State) : PortMove t (afterHeaderRead bytes t) := rfl
    have mark (a : Access) (t : State) : PortMove t (takeMark bytes t) := rfl
    exact ⟨_, rfl, (complete_portMove read mark).passKept⟩
  | headerWriteComplete => exact ⟨_, rfl, completion fun _ => afterHeader_portMove⟩
  | linkReadComplete link =>
    exact ⟨_, rfl, completion fun _ t => (pollComplete_portMove t).trans (judgeLink_portMove ..)⟩
  | blockReadComplete block => exact ⟨_, rfl, completion fun _ => afterBlock_portMove block⟩
  | takenWriteComplete => exact ⟨_, rfl, completion fun _ => afterTaken_portMove⟩
  | resultIndexWriteComplete => exact ⟨_, rfl, completion fun _ => afterResultIndex_portMove⟩
  | finalWriteComplete => exact ⟨_, rfl, completion fun _ => afterFinal_portMove⟩
  | abortedWriteComplete => exact ⟨_, rfl, completion fun _ => afterAborted_portMove⟩
  | journalWriteComplete => exact ⟨_, rfl, completion afterJournal_portMove⟩
  | reportWriteComplete => exact ⟨_, rfl, completion afterReport_portMove⟩
  | accessGrant => exact ⟨_, rfl, (grantAccess_portMove s).passKept⟩
  | busError =>
    refine ⟨_, rfl, ?_⟩
    obtain ⟨u, hu, he | he⟩ := busErrorNow_cases s <;> rw [he]
    · exact hu.passKept
    · exact hu.passKept.trans (haltPart_passKept ..)
  | sampleTriple x =>
    have htap (z : Rgb Int) : PassKept s (tapTriple z s) := ite_passKept .same .same
    exact ⟨_, rfl, (htap _).trans .same⟩
  | runWritten1 | baseWrite | enterRest => exact ⟨_, rfl, ite_passKept .same .same⟩
  | runWritten0 => exact ⟨_, rfl, ite_passKept (haltPart_passKept .order s) .same⟩
  | attentionWrite | noticeMaskWrite | perfEvent => exact ⟨_, rfl, .same⟩
  | softReset => exact ⟨_, rfl, softReset_passKept s⟩
  | powerOnReset | boardReset =>
    exact ⟨_, rfl, ⟨fun _ => passOk_down (s := s) (f := fun _ => LinkRec.reset) rfl rfl fun _ => ⟨rfl, rfl⟩⟩⟩
  | fieldEvent p order => exact ⟨_, rfl, fieldStep_passKept p false order s⟩
  | referenceWatchExpiry order => exact ⟨_, rfl, ite_passKept .same (fieldStep_passKept _ true order s)⟩
  | standInField order => exact ⟨_, rfl, ite_passKept (fieldStep_passKept _ true order s) .same⟩
  | lightSampleEvent reading =>
    have hblank : PassKept s (blankOutput s) := .same
    exact ⟨_, rfl, hblank.trans (takeReading_passKept ..)⟩
  | awake | cued | locked | written | done | trouble | damagedFrame => exact ⟨_, rfl, message ..⟩
  | wakeTimerExpiry | cueTimerExpiry | watchdogExpiry | closeTimerExpiry => exact ⟨_, rfl, expiry ..⟩
  | startByte l => exact ⟨_, rfl, (takeByte_begins ..).kept.trans (tellLosses_passKept ..)⟩
  | directiveSent l => exact ⟨_, rfl, (Begins.record (x := noLinks)).kept⟩
  | autoDown l => exact ⟨_, rfl, ite_passKept ((autoDownNow_begins l s).kept.trans (tellLosses_passKept ..)) .same⟩

theorem step_passKept {s t : State} (h : step s = .next t) : PassKept s t := by
  unfold step at h
  split at h
  · cases h
    exact .same
  · rename_i c rest _
    obtain ⟨u, hu, hkept⟩ := exec_passKept c { s with pending := rest }
    cases hu.symm.trans h
    exact ⟨hkept.law⟩

/-- Settles O58: every command keeps the law. -/
theorem passAndLinksAgree : Obligations.PassAndLinksAgree := by
  unfold Obligations.PassAndLinksAgree
  exact fun s t h hstep => (step_passKept hstep).law h

end Sys2Proof.Machine
end

section
/-!
PROOF. AbortPass: ABORT PASS closes the pass, and its held links close or are released (R161, R165, R166).
-/
namespace Sys2Proof.Machine

/-- What a link or pass operation changes is taken back when the links, the pass, the journal and the causes are. -/
theorem SideFrame.restored {s t : State} (h : SideFrame s t) :
    { t with
      pass := s.pass, links := s.links, journal := s.journal, port := { t.port with attention := s.port.attention } } = s := by
  have hport : { t.port with attention := s.port.attention } = s.port := by rw [h.port]
  obtain ⟨hpending, -, -, hreports, hfollower, hstore, htable, hgrade, hpicture, hlight, hlevel, hroutes, harea, hfree⟩ := h
  rw [hport, hpending, hreports, hfollower, hstore, htable, hgrade, hpicture, hlight, hlevel, hroutes, harea, hfree]

theorem exec_abortPass {s : State} {b : OrderBlock} (h : Handed s b 81) : exec .abortPass s = .next (takeAbortPass b s) :=
  next_withOrder h _

theorem takeAbortPass_none {s : State} (h : s.pass = none) (b : OrderBlock) : takeAbortPass b s = finish b .noPass 0 s := by
  simp [takeAbortPass, h]

theorem takeAbortPass_some {s : State} {p : Pass} (h : s.pass = some p) (b : OrderBlock) :
    takeAbortPass b s = finish b .ok p.state.number (abortPassNow .order s) := by
  simp [takeAbortPass, h, passNumber, publishedPass]

theorem abortPassNow_closing {cause : AbortCause} {s : State} {p : Pass} (h : s.pass = some p) (hclosing : p.state = .closing) :
    abortPassNow cause s = s := by
  simp only [abortPassNow, h, if_pos hclosing]

/-- The EDIT_OUT entries of an abort may be offered link by link, each read off the state that the offers before have left. -/
theorem foldl_abortEdits {p : Pass} {x : Int} {s : State} {edit : State → Link → State}
    (h : ∀ t l, edit t l = offerAll (heldEdits p x t l) t) :
    [Link.a, .b, .c].foldl edit s = offerAll (heldEdits p x s .a ++ heldEdits p x s .b ++ heldEdits p x s .c) s := by
  have hsame (es : List Entry) (l : Link) : heldEdits p x (offerAll es s) l = heldEdits p x s l := by
    rw [offerAll_eq]
    rfl
  simp only [List.foldl_cons, List.foldl_nil, h, ← offerAll_append, hsame]

/-- Settles O22: no pass, a pass that is closing, and a pass whose held links close or are released. -/
theorem abortClosesThePass : Obligations.AbortClosesThePass := by
  unfold Obligations.AbortClosesThePass
  refine ⟨fun s b hb => ⟨fun hpass => ?_, fun p hpass => ⟨fun hclosing => ?_, fun hopen => ?_⟩⟩,
    fun s b p hb hpass hopen hroom => ?_⟩
  · rw [exec_abortPass hb, takeAbortPass_none hpass]
  · rw [exec_abortPass hb, takeAbortPass_some hpass, abortPassNow_closing hpass hclosing, hclosing]
    rfl
  · refine ⟨abortPassNow .order s, ?_, abortPassNow_pass hpass hopen, (abortPassNow_frame .order s).restored⟩
    rw [exec_abortPass hb, takeAbortPass_some hpass]
    cases p.state <;> rfl
  · intro x closed scene edit
    have habort := abortPassNow_room (cause := .order) hpass hopen hroom
    have hedit (t : State) (l : Link) : edit t l = offerAll (heldEdits p x t l) t := by
      simp only [edit, heldEdits, abortEdits, ite_and]
      split <;> [split; skip] <;> rfl
    refine ⟨_, by rw [exec_abortPass hb, takeAbortPass_some hpass, habort], ?_, ?_, ?_⟩
    · rw [finish_links, offerAll_eq]
      rfl
    · rw [finish_journal, foldl_abortEdits hedit]
      exact offerAll_journal_congr _ rfl
    · rw [offerAll_eq]
      rfl

end Sys2Proof.Machine
end

section
/-!
PROOF. PassFields: a pass at a field that does not abort it: it rolls, closes at its out-point, and ends (R156, R157, R159, R161,
R163, R167).
-/
namespace Sys2Proof.Machine

/-! ### A field that does not abort the pass -/

/-- The pass record after it has taken the latest field's index (R149). -/
def notedPass (p : Pass) (s : State) : Pass := { p with lastIndex := notedIndex s.follower.record.mode p.lastIndex }

/-- The latest field is one that the pass goes by its state at: the pass is closing, or neither UNLOCKED nor SLIP is set (R164). -/
abbrev TakesField (p : Pass) (s : State) : Prop :=
  p.state = .closing ∨ (s.follower.record.unlocked = false ∧ s.follower.record.slip = false)

theorem passField_byState {s : State} {p : Pass} (hrun : s.port.running = true) (hpass : s.pass = some p)
    (h : TakesField p s) :
    runAct .pass s = tellLosses s (passByState (notedPass p s) { s with pass := some (notedPass p s) }) := by
  have hstep : passStep p s = passByState (notedPass p s) { s with pass := some (notedPass p s) } := by
    have hnoted : noteIndex s.follower.record.mode p = notedPass p s := noteIndex_eq ..
    simp only [passStep, hnoted]
    obtain hclosing | ⟨hunlocked, hslip⟩ := h
    · have hstate : (notedPass p s).state = .closing := hclosing
      simp [hstate]
    · simp [hunlocked, hslip]
  rw [runAct, passField, if_pos hrun, hpass]
  exact congrArg (tellLosses s) hstep

/-- A step after which no link is in FAULT that was not so before tells the pass controller of nothing (R141). -/
theorem tellLosses_quiet {s t : State} (h : ∀ l, (linkOf l t).state = .fault → (linkOf l s).state = .fault) :
    tellLosses s t = t := by
  refine tellLosses_of_no_fault fun l => ?_
  rw [faultedIn, Bool.and_eq_false_iff, bne_eq_false_iff_eq, beq_eq_false_iff_ne]
  exact (em _).imp (h l) id

theorem tellLosses_same_links {s t : State} (h : t.links = s.links) : tellLosses s t = t :=
  tellLosses_quiet fun l hl => linkOf_congr l t s h ▸ hl

theorem lateFault_quiet {s t : State} {l : Link} (h : (linkOf l t).state = .fault → (linkOf l s).state = .fault) :
    lateFault s l t = t := by
  refine if_neg ?_
  rw [faultedIn, Bool.and_eq_true, bne_iff_ne, beq_iff_eq]
  exact fun ⟨hbefore, hafter⟩ => hbefore (h hafter)

/-- A field of another mode than LOCKED is not noted, and moves no pass that waits, rolls or records. -/
theorem passByState_unlocked {p : Pass} {s : State} (hstate : p.state = .waiting ∨ p.state = .rolling ∨ p.state = .recording)
    (hmode : ∀ m y, s.follower.record.mode ≠ .locked m y) : passByState p s = s := by
  have hindex (f : Int → State → State) : atIndex s.follower.record.mode f s = s := by
    cases h : s.follower.record.mode with
    | locked m y => exact absurd h (hmode m y)
    | free | seeking => rfl
  unfold passByState
  rcases hstate with h | h | h <;> rw [h] <;> exact hindex _

theorem notedPass_unlocked {p : Pass} {s : State} (hmode : ∀ m y, s.follower.record.mode ≠ .locked m y) : notedPass p s = p := by
  cases h : s.follower.record.mode with
  | locked m y => exact absurd h (hmode m y)
  | free | seeking => rw [notedPass, h]; rfl

theorem notedPass_locked {p : Pass} {s : State} {n : Nat} {x : Int} (hmode : s.follower.record.mode = .locked n x) :
    notedPass p s = { p with lastIndex := some x } := by
  rw [notedPass, hmode]
  rfl

/-! ### The roll (R138, R156) -/

/-- A held link at the roll, while its send queue has room. -/
def rolledRec (r : LinkRec) : LinkRec :=
  if r.state = .armed then { r with queue := r.queue ++ [.roll], state := .rolling, lockedMark := false } else r

theorem rollRequest_rolled {l : Link} {s : State} (hroom : (linkOf l s).state = .armed → Room (linkOf l s)) :
    rollRequest l s = setLinkRec l (rolledRec (linkOf l s)) s := by
  by_cases harmed : (linkOf l s).state = .armed
  · rw [rollRequest, if_pos harmed, issue, issueOr_room _ _ _ _ _ (hroom harmed), rolledRec, if_pos harmed]
  · rw [rollRequest, if_neg harmed, rolledRec, if_neg harmed, setLinkRec_self]

theorem rollPass_room {p : Pass} {s : State} (hpass : s.pass = some p)
    (hroom : ∀ l, (linkOf l s).held = true → (linkOf l s).state = .armed → Room (linkOf l s)) :
    rollPass s
      = replaceLinks (heldLinks s) (fun l => rolledRec (linkOf l s)) { s with pass := some { p with state := .rolling } } := by
  have hroll : changePass (fun q => { q with state := .rolling }) s = { s with pass := some { p with state := .rolling } } := by
    rw [changePass, hpass]
    rfl
  rw [rollPass, hroll]
  refine eachLink_replaces fun l hl t _ hlink => ?_
  have hlink' : linkOf l t = linkOf l s := hlink
  rw [← hlink']
  refine rollRequest_rolled fun harmed => ?_
  rw [hlink'] at harmed ⊢
  exact hroom l ((heldLinks_get s l).symm.trans hl) harmed

/-! ### The out-point (R161, R163) -/

/-- A held link at the out-point, while its send queue has room: it closes if it runs. -/
def closedRec (field : BitVec 32) (r : LinkRec) : LinkRec :=
  if r.state = .recording ∨ r.state = .rolling then abortedRec field r else r

theorem closedRec_fault {field : BitVec 32} {r : LinkRec} (h : (closedRec field r).state = .fault) : r.state = .fault := by
  unfold closedRec at h
  split at h
  · exact (abortedRec_fault ..).mp h
  · exact h

theorem closeEdit_closed {p : Pass} {x : Int} {l : Link} {s : State} (hroom : Room (linkOf l s)) :
    closeEdit p x l s = offerAll (abortEdits p x l s) (setLinkRec l (closedRec (now s) (linkOf l s)) s) := by
  by_cases hruns : (linkOf l s).state = .recording ∨ (linkOf l s).state = .rolling
  · rw [closeEdit_room hruns hroom, closedRec, if_pos hruns]
  · have hnone : abortEdits p x l s = [] := if_neg fun h => hruns (.inl h)
    rw [closeEdit_other hruns, hnone, closedRec, if_neg hruns, setLinkRec_self]
    rfl

theorem abortEdits_congr {p : Pass} {x : Int} {l : Link} {s t : State} (hlink : linkOf l t = linkOf l s)
    (hfollower : t.follower = s.follower) : abortEdits p x l t = abortEdits p x l s := by
  rw [abortEdits, abortEdits, hlink, editOutEntry, editOutEntry, entryNow, entryNow, editTc, editTc, hfollower]

/-- The out-point while the held links' send queues have room. -/
theorem outPoint_room {p q : Pass} {x : Int} {s : State} (hpass : s.pass = some q)
    (hroom : ∀ l, (linkOf l s).held = true → Room (linkOf l s)) :
    outPoint p x s
      = offerAll (heldEdits p x s .a ++ heldEdits p x s .b ++ heldEdits p x s .c)
          (replaceLinks (heldLinks s) (fun l => closedRec (now s) (linkOf l s))
            { s with pass := some { q with state := .closing, recording := noLinks } }) := by
  have hclosing : changePass (fun q => { q with state := .closing, recording := noLinks }) s
      = { s with pass := some { q with state := .closing, recording := noLinks } } := by
    rw [changePass, hpass]
    rfl
  have hclosed := eachLink_steps (x := heldLinks s) (f := closeEdit p x) (r := fun l => closedRec (now s) (linkOf l s))
    (b := fun _ => false) (es := fun l => abortEdits p x l s)
    (s := { s with pass := some { q with state := .closing, recording := noLinks } }) fun l hl t hframe hlink => by
      have hlink' : linkOf l t = linkOf l s := hlink
      have hfollower : t.follower = s.follower := hframe.follower
      have hheld : Room (linkOf l t) := by
        rw [hlink']
        exact hroom l ((heldLinks_get s l).symm.trans hl)
      rw [closeEdit_closed hheld, abortEdits_congr hlink' hfollower, now, now, hlink', hfollower]
      rfl
  have hnone : (membersOf (heldLinks s)).any (fun _ => false) = false := by simp
  rw [hnone, flagLink_false, membersOf_flatMap] at hclosed
  rw [outPoint, hclosing, hclosed]
  refine eachLink_of_fixed _ fun l => lateFault_quiet fun h => ?_
  rw [linkOf_offerAll, linkOf_replaceLinks] at h
  split at h
  · exact closedRec_fault h
  · exact h

/-! ### The end (R167) -/

theorem passDone_iff (s : State) :
    passDone s = true
      ↔ (∀ l, (linkOf l s).held = true → (linkOf l s).state = .idle ∨ (linkOf l s).state = .fault) ∧ s.level.tally = none := by
  have hmem (l : Link) : l ∈ membersOf (heldLinks s) ↔ (linkOf l s).held = true := by
    rw [← heldLinks_get, membersOf, List.mem_filter]
    exact and_iff_right (by cases l <;> decide)
  simp only [passDone, Bool.and_eq_true, List.all_eq_true, hmem, Bool.or_eq_true, beq_iff_eq, Option.isNone_iff_eq_none]

theorem offer_setPass (e : Entry) (p : Option Pass) (s : State) : offer e { s with pass := p } = { offer e s with pass := p } := by
  rw [offer_eq e s, offer_eq e { s with pass := p }, offer_journal_congr e (s := { s with pass := p }) (t := s) rfl]

/-- Every held mark cleared is no mark set. -/
theorem unholdLinks_held (s : State) :
    unholdLinks (heldLinks s) s = withLinks (fun l => { linkOf l s with held := false }) s := by
  have hfreed : (fun l => if (heldLinks s).get l = true then { linkOf l s with held := false } else linkOf l s)
      = fun l => { linkOf l s with held := false } := by
    funext l
    rw [heldLinks_get]
    split
    · rfl
    · rename_i hno
      exact congrArg (fun b => { linkOf l s with held := b }) (Bool.eq_false_of_not_eq_true hno)
  rw [unholdLinks_eq, replaceLinks, hfreed]

/-- The state after a pass has ended. -/
theorem closePass_done {p : Pass} {s : State} (hdone : passDone s = true) :
    closePass p s
      = { raise .pass (offer (passEndEntry p s) s) with
          pass := none
          links := ⟨{ linkOf .a s with held := false }, { linkOf .b s with held := false }, { linkOf .c s with held := false }⟩ } := by
  simp only [closePass, if_pos hdone, unholdLinks_held, withLinks, linkOf_congr _ _ s ((raise_links ..).trans (offer_links ..))]

/-- Settles O42: the roll, the fields that do nothing, the out-point, and the end. -/
theorem passRollsClosesAndEnds : Obligations.PassRollsClosesAndEnds := by
  unfold Obligations.PassRollsClosesAndEnds
  refine ⟨fun s p n x hrun hpass => ?_, fun s p hrun hpass hclosing => ?_⟩
  · intro r noted hunlocked hslip
    have hfield := passField_byState hrun hpass (.inr ⟨hunlocked, hslip⟩)
    refine ⟨fun hstate hmode => ?_, fun hmode => ?_⟩
    · have hsame : { s with pass := some p } = s := by rw [← hpass]
      rw [hfield, notedPass_unlocked hmode, hsame, passByState_unlocked hstate hmode, tellLosses_self]
    have hbyState {f : Int → State → State}
        (hf : passByState noted { s with pass := some noted } = atIndex r.mode f { s with pass := some noted }) :
        runAct .pass s = tellLosses s (f x { s with pass := some noted }) := by
      rw [hfield, notedPass_locked hmode, hf, hmode]
      rfl
    have hstays {f : Int → State → State}
        (hf : passByState noted { s with pass := some noted } = atIndex r.mode f { s with pass := some noted })
        (hx : f x { s with pass := some noted } = { s with pass := some noted }) :
        runAct .pass s = { s with pass := some noted } :=
      (hbyState hf).trans ((congrArg (tellLosses s) hx).trans (tellLosses_same_links rfl))
    have hwaits (h : p.state = .waiting) : passByState noted { s with pass := some noted }
        = atIndex r.mode (waitPass noted) { s with pass := some noted } := by
      have hnoted : noted.state = .waiting := h
      rw [passByState, hnoted]
    have hrecords (h : p.state = .recording) : passByState noted { s with pass := some noted }
        = atIndex r.mode (recordPass noted) { s with pass := some noted } := by
      have hnoted : noted.state = .recording := h
      rw [passByState, hnoted]
    refine ⟨fun hwait hx => hstays (hwaits hwait) ?_, fun hwait hx hroom => ?_, fun hroll hx => ?_, fun hrec hparity => ?_,
      fun hrec hparity hx hroom => ?_⟩
    · have hroll : ¬ x = noted.rollIndex := ne_of_lt hx
      rw [waitPass, if_neg hroll, if_neg hx.not_gt]
    · intro rolled
      have hrolls := rollPass_room (p := noted) (s := { s with pass := some noted }) rfl hroom
      rw [hbyState (hwaits hwait), waitPass, if_pos hx, hrolls]
      have hrolled (l : Link) : (if (heldLinks s).get l = true then rolledRec (linkOf l s) else linkOf l s) = rolled l := by
        simp only [heldLinks_get, rolledRec, rolled, ite_and]
      have hstate (l : Link) (h : (rolled l).state = .fault) : (linkOf l s).state = .fault := by
        simp only [rolled] at h
        split at h
        · exact nomatch h
        · exact h
      refine (tellLosses_quiet fun l h => hstate l ?_).trans ?_
      · rw [linkOf_replaceLinks] at h
        exact (congrArg LinkRec.state (hrolled l)).symm.trans h
      · exact congrArg (fun k => withLinks k { s with pass := some { noted with state := .rolling } }) (funext hrolled)
    · have hin : ¬ x = noted.inIndex := ne_of_lt hx
      refine hstays (f := rollingPass noted) ?_ (by rw [rollingPass, if_neg hin])
      have hnoted : noted.state = .rolling := hroll
      rw [passByState, hnoted]
    · refine hstays (hrecords hrec) ?_
      have hsecond : ¬ r.parity = .first := by simp [hparity]
      exact if_neg hsecond
    · intro closed scene edit outs
      have hout : recordPass noted x { s with pass := some noted } = outPoint noted x { s with pass := some noted } := by
        have hend : ¬ x < noted.endIndex := not_lt.mpr hx
        rw [recordPass, if_pos hparity, if_neg hend]
      have hcloses := outPoint_room (p := noted) (q := noted) (x := x) (s := { s with pass := some noted }) rfl hroom
      rw [hbyState (hrecords hrec), hout, hcloses]
      have hclosed (l : Link) :
          (if (heldLinks s).get l = true then closedRec (now s) (linkOf l s) else linkOf l s) = closed l := by
        simp only [heldLinks_get, closedRec, closed, ite_and]
        split
        · split
          · rename_i hruns
            rw [abortedRec, if_pos hruns]
            rfl
          · rfl
        · rfl
      have hstate (l : Link) (h : (closed l).state = .fault) : (linkOf l s).state = .fault := by
        simp only [closed] at h
        split at h
        · exact nomatch h
        · exact h
      refine (tellLosses_quiet fun l h => hstate l ?_).trans ?_
      · rw [linkOf_offerAll, linkOf_replaceLinks] at h
        exact (congrArg LinkRec.state (hclosed l)).symm.trans h
      · rw [heldEdits_all]
        have hlinks : replaceLinks (heldLinks s) (fun l => closedRec (now s) (linkOf l s))
            { s with pass := some { noted with state := .closing, recording := noLinks } }
              = withLinks closed { s with pass := some { noted with state := .closing, recording := noLinks } } :=
          congrArg (fun k => withLinks k { s with pass := some { noted with state := .closing, recording := noLinks } })
            (funext hclosed)
        calc offerAll (outs.map edit) (replaceLinks (heldLinks s) (fun l => closedRec (now s) (linkOf l s))
              { s with pass := some { noted with state := .closing, recording := noLinks } })
            = offerAll (outs.map edit)
                (withLinks closed { s with pass := some { noted with state := .closing, recording := noLinks } }) := by rw [hlinks]
          _ = _ := by
            refine (offerAll_from _ (t := s) ?_).trans ?_
            · rfl
            · rw [offerAll, List.foldl_map]
              rfl
  · intro r done cause freed index
    have hfield := passField_byState hrun hpass (.inl hclosing)
    have hclose : passByState (notedPass p s) { s with pass := some (notedPass p s) }
        = closePass (notedPass p s) { s with pass := some (notedPass p s) } := by
      have hnoted : (notedPass p s).state = .closing := hclosing
      rw [passByState, hnoted]
    have hdone : passDone { s with pass := some (notedPass p s) } = true ↔ done := passDone_iff _
    rw [hclose] at hfield
    refine ⟨fun h => ?_, fun h => ?_⟩
    · rw [hfield, closePass_done (hdone.mpr h), tellLosses_of_no_pass rfl]
      have hentry : passEndEntry (notedPass p s) { s with pass := some (notedPass p s) }
          = { kind := .passEnd, link := none, regained := false, frame := r.frame, field := r.field, timecode := none, scene := 0
              value1 := if p.cause = none then 0 else 1, value2 := (cause : Nat) } := by
        simp only [passEndEntry, notedPass, cause]
        cases p.cause with
        | none => rfl
        | some c => cases c <;> rfl
      rw [hentry, offer_setPass]
      rfl
    · rw [hfield, closePass, if_neg (hdone.not.mpr h)]
      exact tellLosses_same_links rfl

end Sys2Proof.Machine
end

section
/-!
PROOF. PassPrepares: a pass cues its links, resolves its groups, and survives or not the loss of a member (R153 to R155, R162).
-/
namespace Sys2Proof.Machine

/-! ### Sets of links -/

theorem membersIn_get (x : LinkSet) (st : LinkState) (s : State) (l : Link) :
    (membersIn x st s).get l = (x.get l && (linkOf l s).state == st) := by cases l <;> rfl

theorem eq_noLinks_iff (x : LinkSet) : x = noLinks ↔ ∀ l, x.get l = false := by
  rw [← not_iff_not, ← ne_eq, ne_noLinks_iff]
  simp

theorem mem_membersOf (x : LinkSet) (l : Link) : l ∈ membersOf x ↔ x.get l = true := by
  rw [membersOf, List.mem_filter]
  exact and_iff_right (by cases l <;> decide)

theorem nonesWaking_iff (p : Pass) (s : State) :
    nonesWaking p s = true ↔ ∀ l, p.needed.get l = true → (linkOf l s).state ≠ .waking := by
  simp only [nonesWaking, List.all_eq_true, mem_membersOf, bne_iff_ne]

theorem allSettled_iff (p : Pass) (s : State) :
    allSettled p s = true ↔ ∀ l, p.needed.get l = true → (linkOf l s).state = .armed ∨ (linkOf l s).state = .fault := by
  simp only [allSettled, List.all_eq_true, mem_membersOf, Bool.or_eq_true, beq_iff_eq]

/-! ### The cues (R137, R153) -/

/-- A needed link at the cues, while its send queue has room. -/
def cuedRec (field : BitVec 32) (tc : Nat) (r : LinkRec) : LinkRec :=
  if r.state = .idle then
    { r with
      requestedTc := tc, silence := 0, queue := r.queue ++ [.cue tc], state := .cueing, timer := some ⟨.cue, field, r.cueLimit⟩ }
  else r

theorem cuedRec_fault {field : BitVec 32} {tc : Nat} {r : LinkRec} (h : (cuedRec field tc r).state = .fault) :
    r.state = .fault := by
  unfold cuedRec at h
  split at h
  · exact nomatch h
  · exact h

theorem cueRequest_room {l : Link} {s : State} (hroom : Room (linkOf l s)) (tc : Nat) :
    cueRequest l tc s = setLinkRec l (cuedRec (now s) tc (linkOf l s)) s := by
  by_cases hidle : (linkOf l s).state = .idle
  · rw [cueRequest, if_pos hidle, issue, issueOr_room _ _ _ _ _ (by rw [linkOf_setLinkRec_same]; exact hroom),
      linkOf_setLinkRec_same, setLinkRec_setLinkRec, cuedRec, if_pos hidle]
  · rw [cueRequest, if_neg hidle, cuedRec, if_neg hidle, setLinkRec_self]

/-- The timecode that a link is cued to (R153). -/
def cueTc (p : Pass) (s : State) (l : Link) : Nat := tcAdd s.follower.standard (p.tcIn.get l) (-p.preroll)

theorem issueCues_room {p q : Pass} {s : State} (hpass : s.pass = some q)
    (hroom : ∀ l, p.needed.get l = true → Room (linkOf l s)) :
    issueCues p s
      = replaceLinks p.needed (fun l => cuedRec (now s) (cueTc p s l) (linkOf l s))
          { s with pass := some { q with cuesIssued := true } } := by
  have hcues : changePass (fun q => { q with cuesIssued := true }) s = { s with pass := some { q with cuesIssued := true } } := by
    rw [changePass, hpass]
    rfl
  rw [issueCues, hcues]
  refine eachLink_replaces fun l hl t hframe hlink => ?_
  have hlink' : linkOf l t = linkOf l s := hlink
  have hfollower : t.follower = s.follower := hframe.follower
  rw [cueRequest_room (by rw [hlink']; exact hroom l hl), now, hlink', hfollower]
  rfl

/-! ### Resolution (R154, R155) -/

theorem resolvedGroups_get (p : Pass) (s : State) (g : Fin 16) :
    (resolvedGroups p s)[g.val]
      = if p.groups[g.val] = .awaited then
          .resolved (resolveRoute (routeOf s g) s).1 (routeOf s g).mode (routeOf s g).safety
        else p.groups[g.val] := by
  simp only [resolvedGroups, Vector.getElem_ofFn, groupOf]
  cases p.groups[g.val] <;> rfl

/-- A route is resolved to its ARMED links, to one of them, or to all its links (R154). -/
theorem resolveRoute_get (r : Route) (s : State) (l : Link) :
    (resolveRoute r s).1.get l
      = match r.mode with
        | .all => if r.safety = true then (membersIn r.dest .armed s).get l else r.dest.get l
        | .any => (lowest (membersIn r.dest .armed s)).get l := by
  unfold resolveRoute
  cases r.mode with
  | all => simp only; split <;> rfl
  | any => rfl

/-- The member of lowest letter is the one before which there is none (R154, ANY). -/
theorem lowest_get (x : LinkSet) (l : Link) :
    (lowest x).get l
      = match l with
        | .a => x.get .a
        | .b => x.get .b && !x.get .a
        | .c => x.get .c && !x.get .a && !x.get .b := by
  cases l with
  | a | b => rfl
  | c => exact Bool.and_right_comm ..

/-- A route calls for NO_RECORDER when a link that it cannot do without is in FAULT, or when none is ARMED (R154). -/
theorem resolveRoute_missing (r : Route) (s : State) :
    (resolveRoute r s).2 = true
      ↔ (r.mode = .all ∧ r.safety = false ∧ ∃ l, r.dest.get l = true ∧ (linkOf l s).state = .fault)
        ∨ ((r.mode = .any ∨ r.safety = true) ∧ ∀ l, (membersIn r.dest .armed s).get l = false) := by
  have hfault : membersIn r.dest .fault s ≠ noLinks ↔ ∃ l, r.dest.get l = true ∧ (linkOf l s).state = .fault := by
    simp only [ne_noLinks_iff, membersIn_get, Bool.and_eq_true, beq_iff_eq]
  rw [← eq_noLinks_iff, ← hfault]
  unfold resolveRoute
  cases hmode : r.mode <;> cases hsafe : r.safety <;> simp

theorem noRecorder_iff (p : Pass) (s : State) :
    noRecorder p s = true ↔ ∃ g : Fin 16, p.groups[g.val] = .awaited ∧ (resolveRoute (routeOf s g) s).2 = true := by
  simp only [noRecorder, List.any_eq_true, List.mem_finRange, true_and, Bool.and_eq_true, beq_iff_eq, groupOf]

/-- The links that take no part in a resolved pass (R155). -/
def freeLinks (p : Pass) (s : State) : LinkSet := minusOf p.needed (takingPart (resolvedGroups p s))

theorem freeLinks_get (p : Pass) (s : State) (l : Link) :
    (freeLinks p s).get l = true
      ↔ p.needed.get l = true
        ∧ ∀ g : Fin 16, ∀ set mode safety, (resolvedGroups p s)[g.val] = .resolved set mode safety → set.get l = false := by
  rw [freeLinks, minusOf_get, Bool.and_eq_true, Bool.not_eq_true', ← Bool.not_eq_true, takingPart_get]
  simp only [not_exists, not_and, Bool.not_eq_true]

/-- A link that takes no part: it is released if it is ARMED, and no longer held (R155). -/
def leftRec (r : LinkRec) : LinkRec :=
  if r.state = .armed then
    { r with held := false, queue := r.queue ++ [.standby], state := .idle, timer := none, lockedMark := false }
  else { r with held := false }

theorem leftRec_fault {r : LinkRec} (h : (leftRec r).state = .fault) : r.state = .fault := by
  unfold leftRec at h
  split at h
  · exact nomatch h
  · exact h

theorem releaseRequest_armed {l : Link} {s : State} (harmed : (linkOf l s).state = .armed) (hroom : Room (linkOf l s)) :
    releaseRequest l s
      = setLinkRec l
          { linkOf l s with
            queue := (linkOf l s).queue ++ [.standby], state := .idle, timer := none, lockedMark := false } s := by
  rw [releaseRequest, if_pos (.inr harmed), issueEarly_room hroom]

/-- The links that take no part are let go, while their send queues have room. -/
theorem letGo_room {x : LinkSet} {s : State} (hroom : ∀ l, x.get l = true → Room (linkOf l s)) :
    unholdLinks x (eachLink x (lateFault s) (eachLink (membersIn x .armed s) releaseRequest s))
      = replaceLinks x (fun l => leftRec (linkOf l s)) s := by
  have harmed (l : Link) : (membersIn x .armed s).get l = true ↔ x.get l = true ∧ (linkOf l s).state = .armed := by
    rw [membersIn_get, Bool.and_eq_true, beq_iff_eq]
  have hreleased : eachLink (membersIn x .armed s) releaseRequest s
      = replaceLinks (membersIn x .armed s)
          (fun l => { linkOf l s with
            queue := (linkOf l s).queue ++ [.standby], state := .idle, timer := none, lockedMark := false }) s := by
    refine eachLink_replaces fun l hl t _ hlink => ?_
    obtain ⟨hx, hstate⟩ := (harmed l).mp hl
    rw [← hlink]
    rw [← hlink] at hstate
    exact releaseRequest_armed hstate (by rw [hlink]; exact hroom l hx)
  have hlate : eachLink x (lateFault s) (eachLink (membersIn x .armed s) releaseRequest s)
      = eachLink (membersIn x .armed s) releaseRequest s := by
    refine eachLink_of_fixed _ fun l => lateFault_quiet fun h => ?_
    rw [hreleased, linkOf_replaceLinks] at h
    split at h
    · exact nomatch h
    · exact h
  rw [hlate, hreleased, unholdLinks_eq, replaceLinks_replaceLinks]
  refine congrArg (fun k => withLinks k s) (funext fun l => ?_)
  simp only [linkOf_replaceLinks, leftRec, harmed]
  by_cases hx : x.get l = true
  · by_cases hstate : (linkOf l s).state = .armed
    · rw [if_pos hx, if_pos hx, if_pos ⟨hx, hstate⟩, if_pos hstate]
    · rw [if_pos hx, if_pos hx, if_neg fun h => hstate h.2, if_neg hstate]
  · rw [if_neg hx, if_neg hx, if_neg fun h => hx h.1]

/-- The pass that resolution makes of a preparing one. -/
def resolvedPass (p q : Pass) (s : State) : Pass := { q with groups := resolvedGroups p s }

theorem resolvePass_aborts {p q : Pass} {s : State} (hpass : s.pass = some q) (h : noRecorder p s = true) :
    resolvePass p s = abortPassNow .noRecorder { s with pass := some (resolvedPass p q s) } := by
  have hset : changePass (fun q => { q with groups := resolvedGroups p s }) s = { s with pass := some (resolvedPass p q s) } := by
    rw [changePass, hpass]
    rfl
  simp only [resolvePass, if_pos h, hset]

theorem resolvePass_room {p q : Pass} {s : State} (hpass : s.pass = some q) (h : ¬ noRecorder p s = true)
    (hroom : ∀ l, (freeLinks p s).get l = true → Room (linkOf l s)) :
    resolvePass p s
      = replaceLinks (freeLinks p s) (fun l => leftRec (linkOf l s))
          { s with pass := some { resolvedPass p q s with state := .waiting } } := by
  have hset : changePass (fun q => { q with groups := resolvedGroups p s }) s = { s with pass := some (resolvedPass p q s) } := by
    rw [changePass, hpass]
    rfl
  have hgo := letGo_room (x := freeLinks p s) (s := { s with pass := some (resolvedPass p q s) }) hroom
  simp only [resolvePass, if_neg h, hset]
  rw [← freeLinks, hgo]
  rfl

/-! ### A pass that prepares, at a field (R153, R154) -/

theorem preparePass_waits {p : Pass} {s : State} (hcues : p.cuesIssued = false) (h : ¬ nonesWaking p s = true) :
    preparePass p s = s := by
  simp [preparePass, hcues, h]

theorem preparePass_cues {p : Pass} {s : State} (hcues : p.cuesIssued = false) (h : nonesWaking p s = true)
    (hopen : ¬ allSettled p (issueCues p s) = true) : preparePass p s = issueCues p s := by
  simp [preparePass, hcues, h, hopen]

theorem preparePass_unsettled {p : Pass} {s : State} (hcues : p.cuesIssued = true) (h : ¬ allSettled p s = true) :
    preparePass p s = s := by
  simp [preparePass, hcues, h]

theorem preparePass_settled {p : Pass} {s : State} (hcues : p.cuesIssued = true) (h : allSettled p s = true) :
    preparePass p s = resolvePass p s := by
  simp [preparePass, hcues, h]

end Sys2Proof.Machine
end

section
/-!
PROOF. PassLosses: a link that is in FAULT stays as it is when its loss aborts the pass (R162, R166); with it, the preparing pass at
its fields.
-/
namespace Sys2Proof.Machine

/-! ### A link in FAULT at an abort -/

theorem eachLink_keeps {y : LinkSet} {f : Link → State → State} {l : Link} {k : LinkRec}
    (h : ∀ m t, linkOf l t = k → linkOf l (f m t) = k) {s : State} (hs : linkOf l s = k) : linkOf l (eachLink y f s) = k := by
  unfold eachLink
  generalize membersOf y = ls
  induction ls generalizing s with
  | nil => exact hs
  | cons m ls ih => exact ih (h m s hs)

theorem linkOf_issueEarly_other {l m : Link} (h : l ≠ m) (d : Directive) (f : LinkRec → LinkRec) (s : State) :
    linkOf l (issueEarly m d f s) = linkOf l s := by
  by_cases hroom : Room (linkOf m s)
  · rw [issueEarly_room hroom, linkOf_setLinkRec_other m l _ s h]
  · rw [issueEarly_full hroom, faultLink, linkOf_congr l _ _ (raise_links ..), linkOf_setLinkRec_other m l _ s h]

theorem linkOf_releaseRequest_other {l m : Link} (h : l ≠ m) (s : State) : linkOf l (releaseRequest m s) = linkOf l s := by
  unfold releaseRequest
  split
  · exact linkOf_issueEarly_other h ..
  · rfl

theorem linkOf_closeEdit_other {l m : Link} (h : l ≠ m) (p : Pass) (x : Int) (s : State) :
    linkOf l (closeEdit p x m s) = linkOf l s := by
  simp only [closeEdit, linkOf_edited]
  unfold closeRequest
  split
  · exact linkOf_issueEarly_other h ..
  · rfl

/-- An abort has nothing to close or to release on a link in FAULT. -/
theorem linkOf_abortLink_fault {l : Link} {s : State} (hfault : (linkOf l s).state = .fault) (p : Pass) (x : Int) (m : Link) :
    linkOf l (abortLink p x m s) = linkOf l s := by
  by_cases h : l = m
  · subst h
    rw [abortLink, closeEdit_other (by simp [hfault]), releaseRequest_other (by simp [hfault])]
  · rw [abortLink, linkOf_releaseRequest_other h, linkOf_closeEdit_other h]

theorem linkOf_lateFault (before : State) (l m : Link) (s : State) : linkOf l (lateFault before m s) = linkOf l s :=
  linkOf_edited ..

theorem linkOf_abortPassNow_fault {l : Link} {s : State} (hfault : (linkOf l s).state = .fault) (cause : AbortCause) :
    linkOf l (abortPassNow cause s) = linkOf l s := by
  unfold abortPassNow
  cases s.pass with
  | none => rfl
  | some p =>
    simp only
    split
    · rfl
    · refine eachLink_keeps (fun m t ht => (linkOf_lateFault ..).trans ht) (eachLink_keeps (fun m t ht => ?_) ?_)
      · exact (linkOf_abortLink_fault (by rw [ht]; exact hfault) ..).trans ht
      · rfl

/-! ### A TROUBLE of a held link (R141, R162) -/

/-- A TROUBLE in a resolved pass: the link is in FAULT with its cause, and the pass goes on without it or is aborted. -/
theorem trouble_of_held {s : State} {p : Pass} {l : Link} {v : BitVec 24} {noted : BitVec 32} (hpass : s.pass = some p)
    (hstate : p.state = .waiting ∨ p.state = .rolling ∨ p.state = .recording) (hheld : (linkOf l s).held = true)
    (hframer : (linkOf l s).framer = .assembling noted [165]) (hv : v.toNat ≤ 65535) (hdown : (linkOf l s).state ≠ .down)
    (hfault : (linkOf l s).state ≠ .fault) :
    ∃ t, exec (.trouble l v) s = .next t ∧ (linkOf l t).state = .fault ∧ (linkOf l t).cause = some .trouble
      ∧ (¬ MemberLost l p s → t.pass = some (leftPass l p))
      ∧ (MemberLost l p s → t.pass = some (abortedPass .linkFault p)) := by
  have htake : takeReport l .trouble v.toNat (huntAgain l s) = enterFault l .trouble v.toNat v.toNat none (huntAgain l s) :=
    takeTrouble_faults (by rw [linkOf_huntAgain]; exact hdown) (by rw [linkOf_huntAgain]; exact hfault)
  have hframe : takeFrame l .trouble v s = tellLosses s (enterFault l .trouble v.toNat v.toNat none (huntAgain l s)) :=
    takeFrame_faults hframer (decide_eq_true hv) htake
  have hof : FaultOf l s (enterFault l .trouble v.toNat v.toNat none (huntAgain l s)) :=
    (faultOf_enterFault (by rw [linkOf_huntAgain]; exact hfault) ..).of_huntAgain
  have hcause : (linkOf l (enterFault l .trouble v.toNat v.toNat none (huntAgain l s))).cause = some .trouble := by
    rw [linkOf_enterFault]
    rfl
  generalize enterFault l .trouble v.toNat v.toNat none (huntAgain l s) = f at hframe hof hcause
  have hlink : linkOf l (tellLosses s f) = linkOf l f := by
    by_cases hlost : MemberLost l p s
    · rw [hof.pass_aborts hpass hheld hstate hlost]
      exact linkOf_abortPassNow_fault (s := { f with pass := some (leftPass l p) }) hof.after _
    · rw [hof.pass_goes_on hpass hheld hstate hlost]
      rfl
  refine ⟨_, congrArg Host.Outcome.next hframe, by rw [hlink, hof.after], by rw [hlink, hcause], fun hkeeps => ?_, fun hlost => ?_⟩
  · rw [hof.pass_goes_on hpass hheld hstate hkeeps]
  · exact hof.lost_pass hpass hheld hstate hlost

theorem leftPass_get (l m : Link) (p : Pass) :
    (leftPass l p).recording.get m = (p.recording.get m && decide (m ≠ l)) := by
  cases l <;> cases m <;> simp [leftPass, PerLink.set, PerLink.get]

/-! ### A pass that prepares, at a field (R153 to R155) -/

section
variable {s : State} {p : Pass} (hrun : s.port.running = true) (hpass : s.pass = some p) (hprep : p.state = .preparing)
  (hunlocked : s.follower.record.unlocked = false) (hslip : s.follower.record.slip = false)
include hrun hpass hprep hunlocked hslip

theorem passField_prepares :
    runAct .pass s = tellLosses s (preparePass (notedPass p s) { s with pass := some (notedPass p s) }) := by
  have hstate : (notedPass p s).state = .preparing := hprep
  rw [passField_byState hrun hpass (.inr ⟨hunlocked, hslip⟩), passByState, hstate]

/-- The field is noted and nothing else comes of it. -/
theorem passField_idles
    (h : preparePass (notedPass p s) { s with pass := some (notedPass p s) } = { s with pass := some (notedPass p s) }) :
    runAct .pass s = { s with pass := some (notedPass p s) } :=
  (passField_prepares hrun hpass hprep hunlocked hslip).trans
    ((congrArg (tellLosses s) h).trans (tellLosses_same_links rfl))

/-- The cues go out to every needed link that is IDLE. -/
theorem passField_cues (hroom : ∀ l, p.needed.get l = true → Room (linkOf l s)) (hcues : p.cuesIssued = false)
    (hawake : ∀ l, p.needed.get l = true → (linkOf l s).state ≠ .waking)
    (hidle : ∃ l, p.needed.get l = true ∧ (linkOf l s).state = .idle) :
    runAct .pass s
      = replaceLinks p.needed (fun l => cuedRec (now s) (cueTc p s l) (linkOf l s))
          { s with pass := some { notedPass p s with cuesIssued := true } } := by
  have hissued := issueCues_room (p := notedPass p s) (q := notedPass p s) (s := { s with pass := some (notedPass p s) }) rfl hroom
  have hcued (l : Link) : (linkOf l (replaceLinks p.needed (fun l => cuedRec (now s) (cueTc p s l) (linkOf l s))
      { s with pass := some { notedPass p s with cuesIssued := true } }))
        = if p.needed.get l = true then cuedRec (now s) (cueTc p s l) (linkOf l s) else linkOf l s := linkOf_replaceLinks ..
  have hopen : ¬ allSettled (notedPass p s) (issueCues (notedPass p s) { s with pass := some (notedPass p s) }) = true := by
    rw [allSettled_iff, hissued]
    intro hall
    obtain ⟨l, hl, hstate⟩ := hidle
    have hsettled := hall l hl
    have hrec := (hcued l).trans (if_pos hl)
    rw [cuedRec, if_pos hstate] at hrec
    have hcueing := congrArg LinkRec.state hrec
    rcases hsettled with h | h <;> exact nomatch h.symm.trans hcueing
  have hwaking : nonesWaking (notedPass p s) { s with pass := some (notedPass p s) } = true := (nonesWaking_iff ..).mpr hawake
  rw [passField_prepares hrun hpass hprep hunlocked hslip, preparePass_cues (p := notedPass p s) hcues hwaking hopen, hissued]
  refine tellLosses_quiet fun l h => ?_
  have hstate := (congrArg LinkRec.state (hcued l)).symm.trans h
  split at hstate
  · exact cuedRec_fault hstate
  · exact hstate

variable (hcues : p.cuesIssued = true)
  (hsettled : ∀ l, p.needed.get l = true → (linkOf l s).state = .armed ∨ (linkOf l s).state = .fault)
include hcues hsettled

theorem passField_resolves :
    runAct .pass s = tellLosses s (resolvePass (notedPass p s) { s with pass := some (notedPass p s) }) := by
  have hall : allSettled (notedPass p s) { s with pass := some (notedPass p s) } = true := (allSettled_iff ..).mpr hsettled
  rw [passField_prepares hrun hpass hprep hunlocked hslip, preparePass_settled (p := notedPass p s) hcues hall]

/-- Resolution for which a group has no recorder aborts the pass (R154). -/
theorem passField_noRecorder (h : noRecorder p s = true) :
    (runAct .pass s).pass = some (abortedPass .noRecorder { notedPass p s with groups := resolvedGroups p s }) := by
  have haborts := resolvePass_aborts (p := notedPass p s) (q := notedPass p s) (s := { s with pass := some (notedPass p s) }) rfl h
  have hopen : (resolvedPass (notedPass p s) (notedPass p s) { s with pass := some (notedPass p s) }).state ≠ .closing := by
    have hstate : (resolvedPass (notedPass p s) (notedPass p s) { s with pass := some (notedPass p s) }).state = .preparing := hprep
    rw [hstate]
    exact nofun
  have habort (t : State) (ht : t.pass = some (resolvedPass (notedPass p s) (notedPass p s) { s with pass := some (notedPass p s) })) :=
    abortPassNow_pass (cause := .noRecorder) ht hopen
  rw [passField_resolves hrun hpass hprep hunlocked hslip hcues hsettled, haborts, tellLosses_closing (habort _ rfl) rfl]
  exact habort _ rfl

/-- Resolution that finds its recorders lets the links go that take no part (R155). -/
theorem passField_waits (hroom : ∀ l, p.needed.get l = true → Room (linkOf l s)) (h : ¬ noRecorder p s = true) :
    runAct .pass s
      = replaceLinks (freeLinks p s) (fun l => leftRec (linkOf l s))
          { s with pass := some { notedPass p s with groups := resolvedGroups p s, state := .waiting } } := by
  have hfree (l : Link) (hl : (freeLinks p s).get l = true) : Room (linkOf l s) := hroom l ((freeLinks_get ..).mp hl).1
  have hresolved := resolvePass_room (p := notedPass p s) (q := notedPass p s) (s := { s with pass := some (notedPass p s) }) rfl h
    hfree
  rw [passField_resolves hrun hpass hprep hunlocked hslip hcues hsettled, hresolved]
  refine tellLosses_quiet fun l hl => ?_
  rw [linkOf_replaceLinks] at hl
  split at hl
  · exact leftRec_fault hl
  · exact hl

end

/-- Settles O46: the cues, the resolution, and a TROUBLE in a resolved pass. -/
theorem passPreparesResolvesAndLoses : Obligations.PassPreparesResolvesAndLoses := by
  unfold Obligations.PassPreparesResolvesAndLoses
  refine ⟨fun s p hrun hpass hprep hunlocked hslip hroom => ?_,
    fun s p l v noted hpass hstate hheld hframer hv hdown hfault => ?_⟩
  · intro index q tc cued settled armed chosen missing
    refine ⟨fun hcues hwaking => ?_, fun hcues hawake hidle => ?_, fun hcues hopen => ?_, fun hcues hsettled => ?_⟩
    · refine passField_idles hrun hpass hprep hunlocked hslip (preparePass_waits hcues ?_)
      rw [nonesWaking_iff]
      obtain ⟨l, hl, hw⟩ := hwaking
      exact fun h => h l hl hw
    · rw [passField_cues hrun hpass hprep hunlocked hslip hroom hcues hawake hidle]
      refine congrArg (fun k => withLinks k { s with pass := some { q with cuesIssued := true } }) (funext fun l => ?_)
      simp only [cued, cuedRec, ite_and]
      rfl
    · refine passField_idles hrun hpass hprep hunlocked hslip (preparePass_unsettled hcues ?_)
      exact (allSettled_iff ..).not.mpr hopen
    · have harmed (g : Fin 16) (l : Link) : (membersIn (routeOf s g).dest .armed s).get l = armed g l := by
        rw [membersIn_get]
        exact congrArg _ (beq_eq_decide ..)
      have hchosen (g : Fin 16) : (resolveRoute (routeOf s g) s).1 = ⟨chosen g .a, chosen g .b, chosen g .c⟩ := by
        refine linkSet_ext fun l => (resolveRoute_get ..).trans ?_
        have hl : (⟨chosen g .a, chosen g .b, chosen g .c⟩ : LinkSet).get l = chosen g l := by cases l <;> rfl
        rw [hl]
        simp only [chosen]
        cases (routeOf s g).mode with
        | all => simp only [harmed]
        | any => cases l <;> simp only [lowest_get, harmed]
      have hmissing (g : Fin 16) : p.groups[g.val] = .awaited ∧ (resolveRoute (routeOf s g) s).2 = true ↔ missing g := by
        rw [resolveRoute_missing]
        simp only [harmed]
        rfl
      have hnone : noRecorder p s = true ↔ ∃ g, missing g := (noRecorder_iff p s).trans (exists_congr hmissing)
      refine ⟨resolvedGroups p s, fun g => ?_, fun hmiss => ?_, fun hmiss free hfree => ?_⟩
      · rw [resolvedGroups_get, hchosen]
      · exact passField_noRecorder hrun hpass hprep hunlocked hslip hcues hsettled (hnone.mpr hmiss)
      · intro left
        have hrec : ¬ noRecorder p s = true := fun h => by
          obtain ⟨g, hg⟩ := hnone.mp h
          exact hmiss g hg
        rw [passField_waits hrun hpass hprep hunlocked hslip hcues hsettled hroom hrec]
        refine congrArg (fun k => withLinks k { s with pass := some { q with groups := resolvedGroups p s, state := .waiting } })
          (funext fun l => ?_)
        have hl : (freeLinks p s).get l = true ↔ free l = true := (freeLinks_get p s l).trans (hfree l).symm
        simp only [left, leftRec, hl]
        rfl
  · intro lost
    obtain ⟨t, hexec, hstate', hcause, hkeeps, haborts⟩ := trouble_of_held hpass hstate hheld hframer hv hdown hfault
    exact ⟨t, hexec, hstate', hcause, fun h => ⟨_, hkeeps h, fun m => leftPass_get l m p⟩, haborts⟩

end Sys2Proof.Machine
end

section
/-!
PROOF. Stages: a state as the stages of one step leave it, with the link records, LINK and the entries of all stages; and the edits of
a field, link by link (R139, R141, R157, R159 to R161).
-/
namespace Sys2Proof.Machine

/-! ### Stages of a step -/

theorem withLinks_offerAll (k : Link → LinkRec) (es : List Entry) (s : State) :
    withLinks k (offerAll es s) = offerAll es (withLinks k s) := by
  rw [offerAll_eq es s]
  exact (offerAll_from es (s := withLinks k s) (t := s) rfl).symm

theorem withLinks_flagLink (k : Link → LinkRec) (b : Bool) (s : State) :
    withLinks k (flagLink b s) = flagLink b (withLinks k s) := by cases b <;> rfl

/-- What the stages of a step have made of `s` so far: the pass, the link records, LINK raised or not, and the entries offered. -/
def staged (s : State) (p : Pass) (k : Link → LinkRec) (b : Bool) (es : List Entry) : State :=
  offerAll es (flagLink b (withLinks k { s with pass := some p }))

section
variable {s : State} {p : Pass} {k : Link → LinkRec} {b : Bool} {es : List Entry}

theorem linkOf_staged (l : Link) : linkOf l (staged s p k b es) = k l := by
  rw [staged, linkOf_offerAll, linkOf_flagLink, linkOf_withLinks]

theorem staged_frame : SideFrame s (staged s p k b es) :=
  (beginPass_frame (some p) ⟨k .a, k .b, k .c⟩ s).trans ((flagLink_frame ..).trans (offerAll_frame ..))

theorem staged_pass : (staged s p k b es).pass = some p := by
  rw [staged, offerAll_eq, flagLink_eq]
  rfl

theorem staged_eq :
    staged s p k b es
      = { s with
          port := if b = true then (raise .link s).port else s.port
          pass := some p, links := ⟨k .a, k .b, k .c⟩, journal := (offerAll es s).journal } := by
  refine (offerAll_from es (t := s) ?_).trans ?_
  · cases b <;> rfl
  · cases b <;> rfl

theorem offerAll_staged (fs : List Entry) : offerAll fs (staged s p k b es) = staged s p k b (es ++ fs) :=
  (offerAll_append ..).symm

theorem changePass_staged (f : Pass → Pass) : changePass f (staged s p k b es) = staged s (f p) k b es := by
  rw [changePass, staged_pass, staged_eq, staged_eq]
  rfl

/-- A stage that works through the links of `x`. -/
theorem eachLink_staged {x : LinkSet} {f : Link → State → State} {r : Link → LinkRec} {c : Link → Bool}
    {fs : Link → List Entry}
    (h : ∀ l, x.get l = true → ∀ t, SideFrame s t → linkOf l t = k l →
      f l t = offerAll (fs l) (flagLink (c l) (setLinkRec l (r l) t))) :
    eachLink x f (staged s p k b es)
      = staged s p (fun l => if x.get l = true then r l else k l) ((membersOf x).any c || b)
          (es ++ (membersOf x).flatMap fs) := by
  have hsteps := eachLink_steps (s := staged s p k b es) fun l hl t hframe hlink =>
    h l hl t (staged_frame.trans hframe) (hlink.trans (linkOf_staged l))
  rw [hsteps, replaceLinks]
  simp only [linkOf_staged]
  rw [staged, withLinks_offerAll, flagLink_offerAll, withLinks_flagLink, flagLink_flagLink, ← offerAll_append]
  rfl

end

/-! ### The edits, link by link (R139, R141, R157, R159) -/

theorem editOutEntry_congr {s t : State} (h : SideFrame s t) (p : Pass) (l : Link) (x : Int) :
    editOutEntry p l x t = editOutEntry p l x s := by
  rw [editOutEntry, editOutEntry, entryNow, entryNow, editTc, editTc, h.follower]

theorem editInEntry_congr {s t : State} (h : SideFrame s t) (p : Pass) (l : Link) (x : Int) (sc : RecScene) :
    editInEntry p l x sc t = editInEntry p l x sc s := by
  rw [editInEntry, editInEntry, entryNow, entryNow, editTc, editTc, h.follower]

theorem faultEntry_congr {s t : State} (h : SideFrame s t) (l : Link) (c : FaultCause) (v : Nat) (tc : Option Nat) :
    faultEntry l c v tc t = faultEntry l c v tc s := by
  rw [faultEntry, faultEntry, entryNow, entryNow, h.follower, h.grade]

theorem enterFault_eq (l : Link) (c : FaultCause) (v : Nat) (tc : Option Nat) (s : State) :
    enterFault l c 0 v tc s
      = offerAll [faultEntry l c v tc s] (flagLink true (setLinkRec l (faultRec c 0 (linkOf l s)) s)) := rfl

/-- The send queue is full (R132). -/
def fullQueue (r : LinkRec) : Bool := decide (4 ≤ r.queue.length)

theorem fullQueue_iff (r : LinkRec) : fullQueue r = true ↔ ¬ Room r := by
  rw [fullQueue, decide_eq_true_eq, Room, Nat.not_lt]

/-- A RECORDING link that leaves the recording set. -/
def outRec (r : LinkRec) : LinkRec :=
  if fullQueue r = true then faultRec .overrun 0 r
  else { r with queue := r.queue ++ [.out], state := .rolling, timer := none }

theorem editOut_eq {p : Pass} {x : Int} {l : Link} {s : State} (h : (linkOf l s).state = .recording) :
    editOut p x l s
      = offerAll (if fullQueue (linkOf l s) = true then [] else [editOutEntry p l x s])
          (flagLink (fullQueue (linkOf l s)) (setLinkRec l (outRec (linkOf l s)) s)) := by
  unfold editOut outRec
  cases hfull : fullQueue (linkOf l s) with
  | true =>
    have hout : outRequest l s = flagLink true (setLinkRec l (faultRec .overrun 0 (linkOf l s)) s) :=
      outRequest_full ((fullQueue_iff _).mp hfull) h
    simp only [hout, linkOf_flagLink, linkOf_setLinkRec_same, if_true]
    exact if_neg nofun
  | false =>
    have hroom : Room (linkOf l s) := by
      rw [← not_not (a := Room _), ← fullQueue_iff, hfull]
      exact nofun
    have hout : outRequest l s
        = setLinkRec l { linkOf l s with queue := (linkOf l s).queue ++ [.out], state := .rolling, timer := none } s := by
      rw [outRequest, if_pos h, issueEarly_room hroom]
    simp only [hout, linkOf_setLinkRec_same, if_true, Bool.false_eq_true, if_false]
    rfl

/-- An in request fails for want of the locked mark, or of room in the send queue (R132, R139). -/
def inFails (r : LinkRec) : Bool := !r.lockedMark || fullQueue r

/-- The cause with which a failing in request faults its link. -/
def inCause (r : LinkRec) : FaultCause := if r.lockedMark = true then .overrun else .notLocked

/-- The timecode is stored before the IN is issued, but for the want of the locked mark. -/
def expecting (tc : Nat) (r : LinkRec) : LinkRec := if r.lockedMark = true then { r with expectedTc := tc } else r

/-- A ROLLING link that enters the recording set. -/
def inRec (field : BitVec 32) (tc : Nat) (r : LinkRec) : LinkRec :=
  if inFails r = true then faultRec (inCause r) 0 (expecting tc r)
  else
    { r with
      queue := r.queue ++ [.recordIn], state := .recording, expectedTc := tc
      timer := some ⟨.watchdog, field, r.watchdogLimit⟩ }

theorem inRequest_fails {l : Link} {s : State} (tc : Nat) (h : (linkOf l s).state = .rolling) (hfails : inFails (linkOf l s) = true) :
    inRequest l tc s
      = offerAll [faultEntry l (inCause (linkOf l s)) (linkOf l s).state.number none s]
          (flagLink true (setLinkRec l (faultRec (inCause (linkOf l s)) 0 (expecting tc (linkOf l s))) s)) := by
  cases hmark : (linkOf l s).lockedMark with
  | false =>
    rw [inRequest_unlocked tc h hmark, enterFault_eq, inCause, expecting, hmark]
    rfl
  | true =>
    have hfull : ¬ Room (linkOf l s) := by
      rw [← fullQueue_iff]
      rwa [inFails, hmark] at hfails
    rw [inRequest_full hfull tc h hmark, overrun, enterFault_eq, linkOf_setLinkRec_same, setLinkRec_setLinkRec, inCause,
      expecting, hmark]
    rfl

theorem editIn_eq {p : Pass} {x : Int} {sc : RecScene} {l : Link} {s : State} (h : (linkOf l s).state = .rolling) :
    editIn p x sc l s
      = offerAll
          (if inFails (linkOf l s) = true then [faultEntry l (inCause (linkOf l s)) (linkOf l s).state.number none s]
            else [editInEntry p l x sc s])
          (flagLink (inFails (linkOf l s)) (setLinkRec l (inRec (now s) (editTc p l x s) (linkOf l s)) s)) := by
  unfold editIn inRec
  cases hfails : inFails (linkOf l s) with
  | true =>
    simp only [inRequest_fails _ h hfails, linkOf_offerAll, linkOf_flagLink, linkOf_setLinkRec_same, if_true]
    exact if_neg nofun
  | false =>
    rw [inFails, Bool.or_eq_false_iff, Bool.not_eq_false'] at hfails
    obtain ⟨hmark, hfull⟩ := hfails
    have hroom : Room (linkOf l s) := by
      rw [← not_not (a := Room _), ← fullQueue_iff, hfull]
      exact nofun
    have hin : inRequest l (editTc p l x s) s
        = setLinkRec l
            { linkOf l s with
              queue := (linkOf l s).queue ++ [.recordIn], state := .recording, expectedTc := editTc p l x s
              timer := some ⟨.watchdog, now s, (linkOf l s).watchdogLimit⟩ } s := by
      simp only [inRequest, if_pos h, hmark, if_true]
      rw [issue, issueOr_room _ _ _ _ _ (by rw [linkOf_setLinkRec_same]; exact hroom), linkOf_setLinkRec_same,
        setLinkRec_setLinkRec]
    simp only [hin, linkOf_setLinkRec_same, if_true, Bool.false_eq_true, if_false]
    rfl

/-- The SCENE and SPILL entries of a field (R160). -/
def sceneEntries (p : Pass) (sc : RecScene) (x : Int) (s : State) : List Entry :=
  (if newNumber p sc = true then [sceneEntry .scene sc x s] else [])
    ++ if (newStart p sc && groupOf p sc.group == .spilled) = true then [sceneEntry .spill sc x s] else []

theorem offerScene_eq (p : Pass) (sc : RecScene) (x : Int) (s : State) :
    offerScene p sc x s = offerAll (sceneEntries p sc x s) s := by
  have hentry : sceneEntry .spill sc x (offer (sceneEntry .scene sc x s) s) = sceneEntry .spill sc x s := by
    simp only [sceneEntry, entryNow, offer_follower]
  unfold offerScene sceneEntries
  cases newNumber p sc <;> cases (newStart p sc && groupOf p sc.group == .spilled) <;>
    simp only [if_true, Bool.false_eq_true, if_false, hentry] <;> rfl

/-! ### What the pass controller makes of the faults of a step (R162) -/

/-- A faulted link that is out of the recording set already, and whose groups keep a member each, changes nothing. -/
theorem memberLoss_kept {l : Link} {f : State} {p : Pass} (hpass : f.pass = some p) (hout : p.recording.get l = false)
    (hkeeps : ¬ p.groups.toList.any (groupLost l f) = true) : memberLoss l f = f := by
  have hset : changePass (fun q => { q with recording := q.recording.set l false }) f = f := by
    have hrec : p.recording.set l false = p.recording := by
      rw [← hout]
      cases l <;> rfl
    rw [changePass, hpass, Option.map_some, hrec, ← hpass]
  rw [memberLoss, hpass]
  simp only [hset, if_neg hkeeps, ite_self]

theorem memberLoss_aborts {l : Link} {f : State} {p : Pass} (hpass : f.pass = some p) (hnear : p.state.recordsOrNears = true)
    (hheld : (linkOf l f).held = true) (hlost : p.groups.toList.any (groupLost l f) = true) :
    (memberLoss l f).pass = some (abortedPass .linkFault p) := by
  have hopen : (leftPass l p).state ≠ .closing := by
    show p.state ≠ .closing
    intro h
    rw [h] at hnear
    exact nomatch hnear
  have hleft : changePass (fun q => { q with recording := q.recording.set l false }) f = { f with pass := some (leftPass l p) } := by
    rw [changePass, hpass]
    rfl
  rw [memberLoss, hpass]
  simp only [hnear, hheld, Bool.and_self, if_true, hlost, hleft]
  exact abortPassNow_pass (p := leftPass l p) rfl hopen

theorem memberLoss_closing {l : Link} {f : State} {p : Pass} (hpass : f.pass = some p) (hclosing : p.state = .closing) :
    memberLoss l f = f := by
  simp [memberLoss, hpass, hclosing, PassState.recordsOrNears]

/-- Faults of which no group is the loser. -/
theorem tellLosses_kept {s f : State} {p : Pass} (hpass : f.pass = some p)
    (h : ∀ l, faultedIn s f l = true → p.recording.get l = false ∧ ¬ p.groups.toList.any (groupLost l f) = true) :
    tellLosses s f = f := by
  unfold tellLosses
  generalize Link.all = ls
  induction ls with
  | nil => rfl
  | cons l ls ih =>
    have hl : (if faultedIn s f l = true then memberLoss l f else f) = f := by
      split
      · rename_i hfault
        exact memberLoss_kept hpass (h l hfault).1 (h l hfault).2
      · rfl
    rw [List.foldl_cons, hl, ih]

/-- One fault of which a group is the loser aborts the pass, whatever faults come before and after it. -/
theorem tellLosses_lost {s f : State} {p : Pass} (hpass : f.pass = some p) (hnear : p.state.recordsOrNears = true)
    (h : ∀ l, faultedIn s f l = true → p.recording.get l = false ∧ (linkOf l f).held = true) {l : Link}
    (hfault : faultedIn s f l = true) (hlost : p.groups.toList.any (groupLost l f) = true) :
    (tellLosses s f).pass = some (abortedPass .linkFault p) := by
  have hrest (ls : List Link) (t : State) (ht : t.pass = some (abortedPass .linkFault p)) :
      ls.foldl (fun t m => if faultedIn s f m = true then memberLoss m t else t) t = t := by
    induction ls with
    | nil => rfl
    | cons m ls ih => rw [List.foldl_cons, memberLoss_closing ht rfl, ite_self, ih]
  unfold tellLosses
  have hmem : l ∈ Link.all := by cases l <;> decide
  generalize Link.all = ls at hmem
  induction ls with
  | nil => exact nomatch hmem
  | cons m ls ih =>
    rw [List.foldl_cons]
    by_cases hm : faultedIn s f m = true ∧ p.groups.toList.any (groupLost m f) = true
    · have habort := memberLoss_aborts hpass hnear (h m hm.1).2 hm.2
      rw [if_pos hm.1, hrest ls _ habort]
      exact habort
    · have hsame : (if faultedIn s f m = true then memberLoss m f else f) = f := by
        split
        · rename_i hf
          exact memberLoss_kept hpass (h m hf).1 fun hg => hm ⟨hf, hg⟩
        · rfl
      rw [hsame]
      obtain rfl | htail := List.mem_cons.mp hmem
      · exact absurd ⟨hfault, hlost⟩ hm
      · exact ih htail

end Sys2Proof.Machine
end

section
/-!
PROOF. WorkSet: the edits of a recording field as one change (R157 to R162), and what it makes of the pass.
-/
namespace Sys2Proof.Machine

theorem staged_start {s : State} {p : Pass} (hpass : s.pass = some p) : staged s p (linkOf · s) false [] = s := by
  rw [staged, ← hpass]
  rfl

theorem withoutFault_staged (x : LinkSet) (s : State) (p : Pass) (k : Link → LinkRec) (b : Bool) (es : List Entry) :
    withoutFault x (staged s p k b es) = withoutFault x (withLinks k s) := linkSet_ext fun l => by
  rw [withoutFault_get, withoutFault_get, linkOf_staged, linkOf_withLinks]

/-! ### Who leaves and who enters (R158, R159) -/

/-- The scene in force at the field (R160). -/
def fieldScene (s : State) : RecScene := recSceneAt s.follower.record.frame s.store

/-- The recording set the field calls for (R158). -/
def calledSet (p : Pass) (s : State) : LinkSet := recordingSet p (fieldScene s) s

def leavers (p : Pass) (s : State) : LinkSet := minusOf p.recording (calledSet p s)

def enterers (p : Pass) (s : State) : LinkSet := minusOf (calledSet p s) p.recording

theorem recordingSet_get (p : Pass) (sc : RecScene) (s : State) (l : Link) :
    (recordingSet p sc s).get l
      = match p.groups[sc.group.val] with
        | .resolved set _ _ => set.get l && decide ((linkOf l s).state ≠ .fault)
        | .unused => false
        | .spilled => false
        | .awaited => false := by
  rw [recordingSet, groupOf]
  cases p.groups[sc.group.val] with
  | resolved set mode safety =>
    have hne : ((linkOf l s).state != .fault) = decide ((linkOf l s).state ≠ .fault) := by
      rw [Bool.eq_iff_iff, bne_iff_ne, decide_eq_true_eq]
    exact (withoutFault_get set s l).trans (congrArg _ hne)
  | unused => exact noLinks_get l
  | spilled => exact noLinks_get l
  | awaited => exact noLinks_get l

theorem calledSet_live {p : Pass} {s : State} {l : Link} (h : (calledSet p s).get l = true) : (linkOf l s).state ≠ .fault := by
  rw [calledSet, recordingSet_get] at h
  split at h
  · exact of_decide_eq_true (Bool.and_eq_true_iff.mp h).2
  all_goals exact nomatch h

/-- The links told to stop run as recorders, and those told to record roll: all are held (R152, R158). -/
structure EditsRun (p : Pass) (s : State) : Prop where
  leaving : ∀ l, (leavers p s).get l = true → (linkOf l s).held = true ∧ (linkOf l s).state = .recording
  entering : ∀ l, (enterers p s).get l = true → (linkOf l s).held = true ∧ (linkOf l s).state = .rolling

/-- The link faults at its edit. -/
def editFails (p : Pass) (s : State) (l : Link) : Bool :=
  ((leavers p s).get l && fullQueue (linkOf l s)) || ((enterers p s).get l && inFails (linkOf l s))

/-- The link once those that leave are told to stop. -/
def stoppedRec (p : Pass) (s : State) (l : Link) : LinkRec :=
  if (leavers p s).get l = true then outRec (linkOf l s) else linkOf l s

/-- The link after its edit. -/
def editedRec (p : Pass) (x : Int) (s : State) (l : Link) : LinkRec :=
  if (enterers p s).get l = true then inRec (now s) (editTc p l x s) (linkOf l s) else stoppedRec p s l

/-- The entry of a link told to stop that stops. -/
def stopEntries (p : Pass) (x : Int) (s : State) (l : Link) : List Entry :=
  if fullQueue (linkOf l s) = true then [] else [editOutEntry p l x s]

/-- The entry of a link told to record. -/
def startEntries (p : Pass) (x : Int) (s : State) (l : Link) : List Entry :=
  if inFails (linkOf l s) = true then [faultEntry l (inCause (linkOf l s)) (linkOf l s).state.number none s]
  else [editInEntry p l x (fieldScene s) s]

/-- The entry of a link told to stop that faults. -/
def lateEntries (s : State) (l : Link) : List Entry :=
  if fullQueue (linkOf l s) = true then [faultEntry l .overrun (linkOf l s).state.number none s] else []

/-- The entries of the edits, in their order (R160). -/
def editEntries (p : Pass) (x : Int) (s : State) : List Entry :=
  sceneEntries p (fieldScene s) x s ++ (membersOf (leavers p s)).flatMap (stopEntries p x s)
    ++ (membersOf (enterers p s)).flatMap (startEntries p x s) ++ (membersOf (leavers p s)).flatMap (lateEntries s)

/-- Some link is told to stop that faults. -/
def stopsRaise (p : Pass) (s : State) : Bool := (membersOf (leavers p s)).any fun l => fullQueue (linkOf l s)

/-- LINK is raised by a link that faults at its edit, and by no other. -/
def editsRaise (p : Pass) (s : State) : Bool :=
  (membersOf (enterers p s)).any (fun l => inFails (linkOf l s)) || stopsRaise p s

/-- The pass after the edits. -/
def editedPass (p : Pass) (x : Int) (s : State) : Pass :=
  { p with
    state := .recording, lastScene := some (fieldScene s)
    recording := withoutFault (calledSet p s) (withLinks (editedRec p x s) s) }

section
variable {p : Pass} {x : Int} {s : State} {l : Link}

theorem not_leaver_of_enterer (h : (enterers p s).get l = true) : (leavers p s).get l = false := by
  rw [enterers, minusOf_get, Bool.and_eq_true_iff] at h
  rw [leavers, minusOf_get, h.1, Bool.not_true, Bool.and_false]

theorem not_enterer_of_leaver (hl : (leavers p s).get l = true) : (enterers p s).get l = false := by
  rw [← Bool.not_eq_true]
  intro he
  rw [not_leaver_of_enterer he] at hl
  exact nomatch hl

theorem outRec_fault_iff (r : LinkRec) : (outRec r).state = .fault ↔ fullQueue r = true := by
  unfold outRec
  cases fullQueue r with
  | true => exact iff_of_true rfl rfl
  | false => exact iff_of_false nofun nofun

theorem inRec_fault_iff (field : BitVec 32) (tc : Nat) (r : LinkRec) : (inRec field tc r).state = .fault ↔ inFails r = true := by
  unfold inRec
  cases inFails r with
  | true => exact iff_of_true rfl rfl
  | false => exact iff_of_false nofun nofun

theorem offerScene_staged (hpass : s.pass = some p) :
    offerScene p (fieldScene s) x s = staged s p (linkOf · s) false (sceneEntries p (fieldScene s) x s) := by
  calc offerScene p (fieldScene s) x s
      = offerAll (sceneEntries p (fieldScene s) x s) (staged s p (linkOf · s) false []) := by
        rw [staged_start hpass, offerScene_eq]
    _ = _ := offerAll_staged _

/-- The links out. -/
theorem eachLink_editOut (h : EditsRun p s) (es : List Entry) :
    eachLink (leavers p s) (editOut p x) (staged s p (linkOf · s) false es)
      = staged s p (stoppedRec p s) (stopsRaise p s) (es ++ (membersOf (leavers p s)).flatMap (stopEntries p x s)) := by
  have hsteps := eachLink_staged (s := s) (p := p) (k := (linkOf · s)) (b := false) (es := es) (x := leavers p s)
    (f := editOut p x) (r := fun l => outRec (linkOf l s)) (c := fun l => fullQueue (linkOf l s)) (fs := stopEntries p x s)
    fun l hl t hframe hlink => by
      rw [editOut_eq (hlink ▸ (h.leaving l hl).2), hlink, editOutEntry_congr hframe]
      rfl
  rw [hsteps, Bool.or_false]
  rfl

/-- The links in. -/
theorem eachLink_editIn (h : EditsRun p s) (q : Pass) (es : List Entry) :
    eachLink (enterers p s) (editIn p x (fieldScene s)) (staged s q (stoppedRec p s) (stopsRaise p s) es)
      = staged s q (editedRec p x s) (editsRaise p s) (es ++ (membersOf (enterers p s)).flatMap (startEntries p x s)) :=
  eachLink_staged fun l hl t hframe hlink => by
    have hrec : linkOf l t = linkOf l s := hlink.trans (if_neg (by rw [not_leaver_of_enterer hl]; exact nofun))
    have htc : editTc p l x t = editTc p l x s := by rw [editTc, editTc, hframe.follower]
    have hnow : now t = now s := by rw [now, now, hframe.follower]
    rw [editIn_eq (hrec ▸ (h.entering l hl).2), hrec, editInEntry_congr hframe, faultEntry_congr hframe, htc, hnow]
    rfl

theorem editedRec_of_leaver (hl : (leavers p s).get l = true) : editedRec p x s l = outRec (linkOf l s) := by
  have hno : (enterers p s).get l ≠ true := by
    rw [not_enterer_of_leaver hl]
    exact nofun
  rw [editedRec, if_neg hno, stoppedRec, if_pos hl]

/-- The LINK_FAULT entries of the links out, last of all. -/
theorem eachLink_lateFault (h : EditsRun p s) (q : Pass) (b : Bool) (es : List Entry) :
    eachLink (leavers p s) (lateFault s) (staged s q (editedRec p x s) b es)
      = staged s q (editedRec p x s) b (es ++ (membersOf (leavers p s)).flatMap (lateEntries s)) := by
  have hsteps := eachLink_staged (s := s) (p := q) (k := editedRec p x s) (b := b) (es := es) (x := leavers p s)
    (f := lateFault s) (r := editedRec p x s) (c := fun _ => false) (fs := lateEntries s)
    fun l hl t hframe hlink => by
      have hne : (linkOf l s).state ≠ .fault := by
        rw [(h.leaving l hl).2]
        exact nofun
      have hfault : faultedIn s t l = fullQueue (linkOf l s) := by
        rw [Bool.eq_iff_iff, faultedIn, hlink, editedRec_of_leaver hl, Bool.and_eq_true_iff, bne_iff_ne, beq_iff_eq,
          outRec_fault_iff]
        exact and_iff_right hne
      have hsame : setLinkRec l (editedRec p x s l) t = t := by rw [← hlink, setLinkRec_self]
      rw [lateFault, hfault, hsame, faultEntry_congr hframe, lateEntries]
      cases fullQueue (linkOf l s) <;> rfl
  have hquiet : (membersOf (leavers p s)).any (fun _ => false) = false := by simp
  rw [hsteps, hquiet, Bool.false_or]
  simp only [ite_self]

/-- The pass with the new set in force. -/
def enteredPass (p : Pass) (s : State) : Pass :=
  { p with state := .recording, recording := calledSet p s, lastScene := some (fieldScene s) }

/-- The scene, the links out and the links in; the LINK_FAULT entries of the links out are still to come. -/
def setWorked (p : Pass) (x : Int) (s : State) : State :=
  eachLink (enterers p s) (editIn p x (fieldScene s))
    (changePass (fun q => { q with state := .recording, recording := calledSet p s, lastScene := some (fieldScene s) })
      (eachLink (leavers p s) (editOut p x) (offerScene p (fieldScene s) x s)))

theorem setWorked_eq (hpass : s.pass = some p) (h : EditsRun p s) :
    setWorked p x s
      = staged s (enteredPass p s) (editedRec p x s) (editsRaise p s)
          (sceneEntries p (fieldScene s) x s ++ (membersOf (leavers p s)).flatMap (stopEntries p x s)
            ++ (membersOf (enterers p s)).flatMap (startEntries p x s)) := by
  rw [setWorked, offerScene_staged hpass, eachLink_editOut h, changePass_staged, eachLink_editIn h]
  rfl

/-- The edits of a field as one change. -/
theorem workSet_eq (hpass : s.pass = some p) (h : EditsRun p s) :
    workSet p x s = staged s (editedPass p x s) (editedRec p x s) (editsRaise p s) (editEntries p x s) := by
  have hlast : workSet p x s
      = eachLink (leavers p s) (lateFault s)
          (changePass (fun q => { q with recording := withoutFault (calledSet p s) (setWorked p x s) }) (setWorked p x s)) := rfl
  rw [hlast, setWorked_eq hpass h, changePass_staged, eachLink_lateFault h, withoutFault_staged]
  rfl

end

end Sys2Proof.Machine
end

section
/-!
PROOF. RecordingSet: which links fault at their edits, what the pass controller makes of it, and O44.
-/
namespace Sys2Proof.Machine

section
variable {p : Pass} {x : Int} {s : State} {l : Link}

/-! ### The links after their edits -/

theorem editFails_of_enterer (hl : (enterers p s).get l = true) : editFails p s l = inFails (linkOf l s) := by
  rw [editFails, hl, not_leaver_of_enterer hl, Bool.false_and, Bool.true_and, Bool.false_or]

theorem editFails_of_leaver (hl : (leavers p s).get l = true) : editFails p s l = fullQueue (linkOf l s) := by
  rw [editFails, hl, not_enterer_of_leaver hl, Bool.false_and, Bool.true_and, Bool.or_false]

theorem editFails_of_neither (hin : (enterers p s).get l = false) (hout : (leavers p s).get l = false) :
    editFails p s l = false := by
  rw [editFails, hin, hout]
  rfl

theorem editedRec_of_enterer (hl : (enterers p s).get l = true) :
    editedRec p x s l = inRec (now s) (editTc p l x s) (linkOf l s) := if_pos hl

theorem editedRec_of_neither (hin : (enterers p s).get l = false) (hout : (leavers p s).get l = false) :
    editedRec p x s l = linkOf l s := by
  rw [editedRec, hin, stoppedRec, hout]
  rfl

/-- A link is told to record, or told to stop, or left alone. -/
theorem edit_cases (p : Pass) (s : State) (l : Link) :
    (enterers p s).get l = true ∨ (leavers p s).get l = true ∨ ((enterers p s).get l = false ∧ (leavers p s).get l = false) := by
  cases (enterers p s).get l <;> cases (leavers p s).get l <;> simp

theorem editFails_told (h : EditsRun p s) (hfails : editFails p s l = true) :
    (linkOf l s).held = true ∧ (linkOf l s).state ≠ .fault := by
  obtain hl | hl | ⟨hin, hout⟩ := edit_cases p s l
  · exact ⟨(h.entering l hl).1, by rw [(h.entering l hl).2]; exact nofun⟩
  · exact ⟨(h.leaving l hl).1, by rw [(h.leaving l hl).2]; exact nofun⟩
  · rw [editFails_of_neither hin hout] at hfails
    exact nomatch hfails

theorem editedRec_live_iff (h : EditsRun p s) :
    (editedRec p x s l).state ≠ .fault ↔ (linkOf l s).state ≠ .fault ∧ editFails p s l = false := by
  obtain hl | hl | ⟨hin, hout⟩ := edit_cases p s l
  · rw [editedRec_of_enterer hl, editFails_of_enterer hl, Ne, inRec_fault_iff, Bool.not_eq_true, (h.entering l hl).2]
    exact (and_iff_right nofun).symm
  · rw [editedRec_of_leaver hl, editFails_of_leaver hl, Ne, outRec_fault_iff, Bool.not_eq_true, (h.leaving l hl).2]
    exact (and_iff_right nofun).symm
  · rw [editedRec_of_neither hin hout, editFails_of_neither hin hout]
    exact (and_iff_left rfl).symm

theorem editedRec_held : (editedRec p x s l).held = (linkOf l s).held := by
  unfold editedRec stoppedRec inRec outRec expecting faultRec
  split_ifs <;> rfl

theorem faultedIn_edited (h : EditsRun p s) (q : Pass) (b : Bool) (es : List Entry) :
    faultedIn s (staged s q (editedRec p x s) b es) l = editFails p s l := by
  have hlive := editedRec_live_iff (x := x) (l := l) h
  rw [Bool.eq_iff_iff, faultedIn, linkOf_staged, Bool.and_eq_true_iff, bne_iff_ne, beq_iff_eq]
  constructor
  · rintro ⟨hbefore, hafter⟩
    rw [← Bool.not_eq_false]
    exact fun hno => hlive.mpr ⟨hbefore, hno⟩ hafter
  · intro hfails
    refine ⟨(editFails_told h hfails).2, not_not.mp fun hafter => ?_⟩
    rw [(hlive.mp hafter).2] at hfails
    exact nomatch hfails

/-- The links that fault at their edit leave the set (R162). -/
theorem editedPass_recording (h : EditsRun p s) :
    (editedPass p x s).recording.get l = ((calledSet p s).get l && !editFails p s l) := by
  show (withoutFault (calledSet p s) (withLinks (editedRec p x s) s)).get l = _
  rw [withoutFault_get, linkOf_withLinks, Bool.eq_iff_iff, Bool.and_eq_true_iff, Bool.and_eq_true_iff, bne_iff_ne,
    editedRec_live_iff h, Bool.not_eq_true']
  exact and_congr_right fun hl => and_iff_right (calledSet_live hl)

/-! ### What the pass controller makes of it (R162) -/

/-- A group has a link that faults at its edit, and does not stand it. -/
def EditsLose (p : Pass) (s : State) : Prop :=
  ∃ (l : Link) (g : Fin 16) (set : LinkSet) (mode : RouteMode) (safety : Bool),
    editFails p s l = true ∧ p.groups[g.val] = .resolved set mode safety ∧ set.get l = true
      ∧ ¬ (mode = .all ∧ safety = true ∧ ∃ m, set.get m = true ∧ (linkOf m s).state ≠ .fault ∧ editFails p s m = false)

/-- A group is lost with the link. -/
theorem memberLost_edited (h : EditsRun p s) (hfails : editFails p s l = true) (b : Bool) (es : List Entry) :
    (editedPass p x s).groups.toList.any (groupLost l (staged s (editedPass p x s) (editedRec p x s) b es)) = true
      ↔ ∃ (g : Fin 16) (set : LinkSet) (mode : RouteMode) (safety : Bool),
          p.groups[g.val] = .resolved set mode safety ∧ set.get l = true
            ∧ ¬ (mode = .all ∧ safety = true
                  ∧ ∃ m, set.get m = true ∧ (linkOf m s).state ≠ .fault ∧ editFails p s m = false) := by
  have hfault : (linkOf l (staged s (editedPass p x s) (editedRec p x s) b es)).state = .fault := by
    rw [← faultedIn_edited h (editedPass p x s) b es, faultedIn, Bool.and_eq_true_iff, beq_iff_eq] at hfails
    exact hfails.2
  have hmember (set : LinkSet) :
      (∃ m, m ≠ l ∧ set.get m = true ∧ (linkOf m (staged s (editedPass p x s) (editedRec p x s) b es)).state ≠ .fault)
        ↔ ∃ m, set.get m = true ∧ (linkOf m s).state ≠ .fault ∧ editFails p s m = false := by
    simp only [linkOf_staged, editedRec_live_iff h]
    refine exists_congr fun m => and_iff_right_of_imp ?_
    rintro ⟨-, -, hm⟩ rfl
    rw [hm] at hfails
    exact nomatch hfails
  rw [groupsLost_iff hfault, MemberLost]
  simp only [hmember]
  rfl

theorem faulted_edited (h : EditsRun p s) {b : Bool} {es : List Entry}
    (hl : faultedIn s (staged s (editedPass p x s) (editedRec p x s) b es) l = true) :
    (editedPass p x s).recording.get l = false
      ∧ (linkOf l (staged s (editedPass p x s) (editedRec p x s) b es)).held = true := by
  rw [faultedIn_edited h] at hl
  rw [editedPass_recording h, hl, linkOf_staged, editedRec_held]
  exact ⟨Bool.and_false _, (editFails_told h hl).1⟩

theorem edits_kept (hpass : s.pass = some p) (h : EditsRun p s) (hkeeps : ¬ EditsLose p s) :
    tellLosses s (workSet p x s) = staged s (editedPass p x s) (editedRec p x s) (editsRaise p s) (editEntries p x s) := by
  rw [workSet_eq hpass h]
  refine tellLosses_kept staged_pass fun l hl => ⟨(faulted_edited h hl).1, fun hlost => ?_⟩
  rw [faultedIn_edited h] at hl
  rw [memberLost_edited h hl] at hlost
  obtain ⟨g, set, mode, safety, hgroup⟩ := hlost
  exact hkeeps ⟨l, g, set, mode, safety, hl, hgroup⟩

theorem edits_lost (hpass : s.pass = some p) (h : EditsRun p s) (hlose : EditsLose p s) :
    (tellLosses s (workSet p x s)).pass = some (abortedPass .linkFault (editedPass p x s)) := by
  obtain ⟨l, g, set, mode, safety, hfails, hgroup⟩ := hlose
  rw [workSet_eq hpass h]
  exact tellLosses_lost staged_pass rfl (fun l hl => faulted_edited h hl) ((faultedIn_edited h ..).trans hfails)
    ((memberLost_edited h hfails ..).mpr ⟨g, set, mode, safety, hgroup⟩)

/-! ### The outcome of the edits as R157 to R162 state it -/

theorem editsRaise_eq : editsRaise p s = (editFails p s .a || editFails p s .b || editFails p s .c) := by
  simp only [editsRaise, stopsRaise, membersOf_any, editFails]
  ac_rfl

/-- The cause with which a link faults at its edit. -/
def editCause (p : Pass) (s : State) (l : Link) : FaultCause :=
  if (enterers p s).get l = true ∧ (linkOf l s).lockedMark = false then .notLocked else .overrun

theorem editCause_of_enterer (hl : (enterers p s).get l = true) : editCause p s l = inCause (linkOf l s) := by
  unfold editCause inCause
  cases (linkOf l s).lockedMark with
  | true => exact if_neg fun h => nomatch h.2
  | false => exact if_pos ⟨hl, rfl⟩

theorem editCause_of_leaver (hl : (leavers p s).get l = true) : editCause p s l = .overrun :=
  if_neg fun h => by
    rw [not_enterer_of_leaver hl] at h
    exact nomatch h.1

theorem editedRec_eq (h : EditsRun p s) :
    editedRec p x s l
      = if editFails p s l = true then
          { linkOf l s with
            state := .fault, cause := some (editCause p s l), recorderCode := 0, lockedMark := false, timer := none
            queue := (linkOf l s).queue.take 1 ++ [.out]
            expectedTc :=
              if (enterers p s).get l = true ∧ (linkOf l s).lockedMark = true then editTc p l x s
              else (linkOf l s).expectedTc }
        else if (leavers p s).get l = true then
          { linkOf l s with queue := (linkOf l s).queue ++ [.out], state := .rolling, timer := none }
        else if (enterers p s).get l = true then
          { linkOf l s with
            queue := (linkOf l s).queue ++ [.recordIn], state := .recording, expectedTc := editTc p l x s
            timer := some ⟨.watchdog, now s, (linkOf l s).watchdogLimit⟩ }
        else linkOf l s := by
  obtain hl | hl | ⟨hin, hout⟩ := edit_cases p s l
  · have hstate := (h.entering l hl).2
    rw [editedRec_of_enterer hl, editFails_of_enterer hl, editCause_of_enterer hl, not_leaver_of_enterer hl, inRec, faultRec_eq,
      expecting]
    cases hmark : (linkOf l s).lockedMark <;> simp [hl, hstate, hmark]
  · have hstate := (h.leaving l hl).2
    rw [editedRec_of_leaver hl, editFails_of_leaver hl, editCause_of_leaver hl, not_enterer_of_leaver hl, outRec, faultRec_eq]
    simp [hl, hstate]
  · rw [editedRec_of_neither hin hout, editFails_of_neither hin hout, hin, hout]
    simp

theorem newNumber_iff (p : Pass) (sc : RecScene) :
    newNumber p sc = true ↔ p.lastScene = none ∨ (lastRecorded p).number ≠ sc.number := by
  unfold newNumber lastRecorded
  cases p.lastScene <;> simp

theorem newStart_iff (p : Pass) (sc : RecScene) :
    newStart p sc = true ↔ p.lastScene = none ∨ (lastRecorded p).start ≠ sc.start := by
  unfold newStart lastRecorded
  cases p.lastScene <;> simp

theorem sceneEntries_eq (p : Pass) (sc : RecScene) (x : Int) (s : State) :
    sceneEntries p sc x s
      = (if p.lastScene = none ∨ (lastRecorded p).number ≠ sc.number then [sceneEntry .scene sc x s] else [])
        ++ (if (p.lastScene = none ∨ (lastRecorded p).start ≠ sc.start) ∧ p.groups[sc.group.val] = .spilled then
              [sceneEntry .spill sc x s] else []) := by
  simp only [sceneEntries, Bool.and_eq_true_iff, newNumber_iff, newStart_iff, beq_iff_eq]
  rfl

theorem flatMap_filter_eq_map {f g : Link → Bool} {es : Link → List Entry} {e : Link → Entry}
    (h : ∀ l, (if f l = true then es l else []) = if g l = true then [e l] else []) (ls : List Link) :
    (ls.filter f).flatMap es = (ls.filter g).map e := by
  induction ls with
  | nil => rfl
  | cons l ls ih =>
    have hl := h l
    cases hf : f l <;> cases hg : g l <;> simp_all

/-- The LINK_FAULT entry of a link that faults at its edit. -/
def editFault (p : Pass) (s : State) (l : Link) : Entry :=
  faultEntry l (editCause p s l) (linkOf l s).state.number none s

theorem editEntries_eq :
    editEntries p x s
      = sceneEntries p (fieldScene s) x s
        ++ (Link.all.filter fun l => (leavers p s).get l && !editFails p s l).map (fun l => editOutEntry p l x s)
        ++ (Link.all.filter (enterers p s).get).map
            (fun l => if editFails p s l = true then editFault p s l else editInEntry p l x (fieldScene s) s)
        ++ (Link.all.filter fun l => (leavers p s).get l && editFails p s l).map (editFault p s) := by
  refine congrArg₂ _ (congrArg₂ _ (congrArg _ ?_) ?_) ?_ <;> refine flatMap_filter_eq_map (fun l => ?_) _
  · cases hl : (leavers p s).get l with
    | false => simp
    | true =>
      rw [editFails_of_leaver hl, stopEntries]
      cases fullQueue (linkOf l s) <;> rfl
  · cases hl : (enterers p s).get l with
    | false => simp
    | true =>
      rw [editFails_of_enterer hl, editFault, editCause_of_enterer hl, startEntries]
      cases inFails (linkOf l s) <;> rfl
  · cases hl : (leavers p s).get l with
    | false => simp
    | true =>
      rw [editFails_of_leaver hl, editFault, editCause_of_leaver hl, lateEntries]
      cases fullQueue (linkOf l s) <;> rfl

/-- The field at the in-point, or a FIRST field below the end index, is one of edits (R157, R159). -/
theorem passByState_works {n : Nat} (hmode : s.follower.record.mode = .locked n x)
    (h : (p.state = .rolling ∧ x = p.inIndex)
      ∨ (p.state = .recording ∧ s.follower.record.parity = .first ∧ x < p.endIndex)) :
    passByState p s = workSet p x s := by
  obtain ⟨hstate, hx⟩ | ⟨hstate, hfirst, hx⟩ := h
  · simp only [passByState, hstate, hmode, atIndex, rollingPass, if_pos hx]
  · simp only [passByState, hstate, hmode, atIndex, recordPass, if_pos hfirst, if_pos hx]

end

/-- Settles O44: the stages of the edits are one change, and the faults among them keep the pass or abort it. -/
theorem recordingSetFollowsTheScene : Obligations.RecordingSetFollowsTheScene := by
  unfold Obligations.RecordingSetFollowsTheScene
  intro s p n x hrun hpass r sc new leaves enters full fails cause tc moved entry faultOf last links entries lost worked
    hcase hunlocked hslip hmode hleaves henters
  let q : Pass := { p with lastIndex := some x }
  let t : State := { s with pass := some q }
  have hnew (l : Link) : (calledSet q t).get l = new l := recordingSet_get ..
  have hout (l : Link) : (leavers q t).get l = leaves l := (minusOf_get ..).trans (by rw [hnew])
  have hin (l : Link) : (enterers q t).get l = enters l := (minusOf_get ..).trans (by rw [hnew, Bool.and_comm])
  have hfails (l : Link) : editFails q t l = fails l := by rw [editFails, hout, hin]; rfl
  have hruns : EditsRun q t := ⟨fun l hl => hleaves l (hout l ▸ hl), fun l hl => henters l (hin l ▸ hl)⟩
  have hlost : EditsLose q t ↔ lost := by
    simp only [EditsLose, hfails]
    rfl
  have hcause (l : Link) : editCause q t l = cause l := by rw [editCause, hin]; rfl
  have hmoved (l : Link) : editedRec q x t l = moved l := by
    rw [editedRec_eq hruns, hfails, hcause, hout, hin]
    rfl
  have hfault : editFault q t = faultOf := funext fun l => by rw [editFault, hcause]; rfl
  have hentries : editEntries q x t = entries := by
    rw [editEntries_eq, sceneEntries_eq, hfault]
    simp only [hfails, hout, funext hin]
    rfl
  have hworked : editedPass q x t = worked := by
    have hset : (editedPass q x t).recording = worked.recording := linkSet_ext fun l => by
      rw [editedPass_recording hruns, hnew, hfails]
      cases l <;> rfl
    exact congrArg (fun set => { worked with recording := set }) hset
  have hfield : runAct .pass s = tellLosses t (workSet q x t) := by
    rw [passField_byState hrun hpass (.inr ⟨hunlocked, hslip⟩), notedPass_locked hmode]
    exact congrArg (tellLosses s) (passByState_works (p := q) (s := t) hmode hcase)
  rw [hfield]
  constructor
  · intro hkeeps
    rw [edits_kept rfl hruns (hlost.not.mpr hkeeps), staged_eq, editsRaise_eq, hworked, hentries]
    simp only [hfails, hmoved]
    rw [offerAll_journal_congr entries (s := t) (t := s) rfl]
    rfl
  · intro hloses
    rw [edits_lost rfl hruns (hlost.mpr hloses), hworked]
    rfl

end Sys2Proof.Machine
end

section
/-!
PROOF. RunState: the commands that leave the run state alone (R170, R171, R177).
-/
namespace Sys2Proof.Machine

/-- Between `s` and `t` the run state has not changed. -/
def RunKept (s t : State) : Prop := t.port.running = s.port.running

theorem RunKept.refl (s : State) : RunKept s s := rfl

theorem RunKept.trans {s t u : State} (h : RunKept s t) (k : RunKept t u) : RunKept s u := Eq.trans k h

theorem ite_runKept {p : Prop} [Decidable p] {s t u : State} (ht : RunKept s t) (hu : RunKept s u) :
    RunKept s (if p then t else u) := by
  split <;> assumption

theorem SideFrame.runKept {s t : State} (h : SideFrame s t) : RunKept s t := h.field.running

theorem withOrder_runKept {code : BitVec 8} {s : State} {take : OrderBlock → State} (h : ∀ b, RunKept s (take b)) :
    RunKept s (withOrder code s take) := by
  obtain he | ⟨b, -, he⟩ := withOrder_cases code s take <;> rw [he]
  · exact .refl s
  · exact h b

theorem withProgress_runKept {s : State} {take : OrderBlock → Progress → State} (h : ∀ b p, RunKept s (take b p)) :
    RunKept s (withProgress s take) := by
  obtain he | ⟨b, p, -, he⟩ := withProgress_cases s take <;> rw [he]
  · exact .refl s
  · exact h b p

theorem complete_runKept {isKind : AccessKind → Bool} {s : State} {live stale : Access → State → State}
    (hlive : ∀ a t, RunKept t (live a t)) (hstale : ∀ a t, RunKept t (stale a t)) :
    RunKept s (complete isKind s live stale) := by
  have hend (a : Access) : RunKept s (endAccess a s) := rfl
  obtain he | ⟨a, -, -, ⟨-, he⟩ | ⟨-, he⟩ | ⟨-, he⟩⟩ := complete_cases isKind s live stale <;> rw [he]
  · exact .refl s
  · exact (hend a).trans (hlive a _)
  · exact (hend a).trans (hstale a _)
  · exact hend a

/-! ### The port's completions -/

theorem judgeLink_runKept (v : BitVec 32) (n : Nat) (s : State) : RunKept s (judgeLink v n s) := by
  rw [judgeLink_port]
  rfl

theorem closeBlock_runKept (b : OrderBlock) (s : State) : RunKept s (closeBlock b s) := by
  rw [closeBlock_port]
  rfl

theorem afterHeader_runKept (s : State) : RunKept s (afterHeader s) := by
  have hpoll : RunKept s (pollComplete s) := rfl
  unfold afterHeader
  cases s.port.walker with
  | idle => exact ite_runKept (hpoll.trans (judgeLink_runKept ..)) rfl
  | _ => exact hpoll

theorem afterBlock_runKept (block : BitVec 256) (s : State) : RunKept s (afterBlock block s) := by
  unfold afterBlock
  cases s.port.walker with
  | reading o n => exact ite_runKept rfl (ite_runKept rfl (ite_runKept (judgeLink_runKept ..) rfl))
  | _ => exact .refl s

theorem afterTaken_runKept (s : State) : RunKept s (afterTaken s) := by
  unfold afterTaken
  cases s.port.walker with
  | taking b halted =>
    cases halted with
    | false => exact ite_runKept rfl rfl
    | true => rfl
  | _ => exact .refl s

theorem afterAborted_runKept (s : State) : RunKept s (afterAborted s) := by
  unfold afterAborted
  cases s.port.walker with
  | closing b n halted => exact ite_runKept (closeBlock_runKept ..) ((closeBlock_runKept b s).trans (judgeLink_runKept ..))
  | aborting b => exact closeBlock_runKept ..
  | _ => exact .refl s

theorem afterFinal_runKept (s : State) : RunKept s (afterFinal s) := by
  refine withProgress_runKept fun b p => ?_
  cases p with
  | finishing r => exact closeBlock_runKept ..
  | _ => exact .refl s

theorem nextRead_runKept (b : OrderBlock) (run : SceneRead) (s : State) : RunKept s (nextRead b run s) := ite_runKept rfl rfl

theorem afterSceneFetch_runKept (record : BitVec 512) (s : State) : RunKept s (afterSceneFetch record s) := by
  refine withProgress_runKept fun b p => ?_
  cases p with
  | fetchScene o =>
    simp only [putFetched_eq]
    rfl
  | _ => exact .refl s

theorem afterLoadFetch_runKept (record : BitVec 512) (s : State) : RunKept s (afterLoadFetch record s) := by
  refine withProgress_runKept fun b p => ?_
  cases p with
  | fetchLoad run => exact ite_runKept rfl rfl
  | _ => exact .refl s

theorem afterLookFetch_runKept (record : BitVec 256) (s : State) : RunKept s (afterLookFetch record s) := by
  refine withProgress_runKept fun b p => ?_
  cases p with
  | fetchLook i o =>
    simp only [putLook]
    split <;> rfl
  | _ => exact .refl s

theorem afterSceneSlot_runKept (s : State) : RunKept s (afterSceneSlot s) := by
  refine withProgress_runKept fun b p => ?_
  cases p with
  | slotScene run => exact nextRead_runKept ..
  | _ => exact .refl s

theorem afterLookSlot_runKept (s : State) : RunKept s (afterLookSlot s) := by
  refine withProgress_runKept fun b p => ?_
  cases p with
  | slotLook run => exact ite_runKept rfl rfl
  | _ => exact .refl s

theorem afterJournal_runKept (a : Access) (s : State) : RunKept s (afterJournal a s) := by
  have hadvance (t : State) : RunKept t (advanceFill t) := ite_runKept rfl rfl
  unfold afterJournal
  cases a.kind with
  | journal pops advances =>
    have hpop : RunKept s (if pops then { s with journal := { s.journal with queue := s.journal.queue.tail } } else s) :=
      ite_runKept rfl rfl
    exact ite_runKept (hpop.trans (hadvance _)) hpop
  | _ => exact .refl s

theorem afterReport_runKept (a : Access) (s : State) : RunKept s (afterReport a s) := by
  unfold afterReport
  cases a.kind <;> rfl

theorem grantAccess_runKept (s : State) : RunKept s (grantAccess s) := by
  obtain he | ⟨r, -, -, he⟩ := grantAccess_cases s <;> rw [he]
  · exact .refl s
  · cases r <;> rfl

/-! ### The orders -/

theorem takeLoadScenes_runKept (b : OrderBlock) (s : State) : RunKept s (takeLoadScenes b s) := by
  refine ite_runKept rfl (ite_runKept rfl ?_)
  cases flagCode (param b 18 1) <;> rfl

theorem takeSetStandard_runKept (b : OrderBlock) (s : State) : RunKept s (takeSetStandard b s) := by
  refine ite_runKept rfl (ite_runKept rfl ?_)
  cases standardOf (param b 12 1) with
  | none => rfl
  | some std => exact ite_runKept rfl rfl

theorem takeSetFollow_runKept (b : OrderBlock) (s : State) : RunKept s (takeSetFollow b s) := by
  refine ite_runKept rfl ?_
  cases flagCode (param b 12 1) with
  | none => rfl
  | some on =>
    cases on with
    | false => rfl
    | true => exact ite_runKept rfl rfl

theorem takeSetPicture_runKept (b : OrderBlock) (s : State) : RunKept s (takeSetPicture b s) := by
  refine ite_runKept rfl ?_
  cases flagCode (param b 12 1) with
  | none => rfl
  | some clip => cases flagCode (param b 13 1) <;> rfl

theorem takeSetMonitor_runKept (b : OrderBlock) (s : State) : RunKept s (takeSetMonitor b s) := by
  unfold takeSetMonitor
  cases monitorArgs b with
  | none => rfl
  | some a => exact ite_runKept rfl rfl

theorem takeSetRoute_runKept (b : OrderBlock) (s : State) : RunKept s (takeSetRoute b s) := by
  refine ite_runKept rfl ?_
  split
  · rfl
  · cases (routeArgs b).mode with
    | none => rfl
    | some mode => exact ite_runKept rfl (ite_runKept rfl rfl)

theorem finish_runKept {s t : State} (h : RunKept s t) (b : OrderBlock) (o : OutcomeCode) (d : Nat) :
    RunKept s (finish b o d t) := h

theorem takeSetLink_runKept (b : OrderBlock) (s : State) : RunKept s (takeSetLink b s) := by
  unfold takeSetLink
  simp only
  cases (linkArgs b).link with
  | none => rfl
  | some l =>
    cases (linkArgs b).autoWake with
    | none => rfl
    | some w => exact ite_runKept (finish_runKept (changeLink_frame (linkArgs b) w l s).runKept ..) rfl

theorem takeWakeLink_runKept (b : OrderBlock) (s : State) : RunKept s (takeWakeLink b s) := by
  unfold takeWakeLink
  cases linkOfCode (param b 12 1) with
  | none => rfl
  | some l => exact ite_runKept rfl (finish_runKept (wakeByOrder_frame l s).runKept ..)

theorem takeResetLink_runKept (b : OrderBlock) (s : State) : RunKept s (takeResetLink b s) := by
  unfold takeResetLink
  cases linkOfCode (param b 12 1) with
  | none => rfl
  | some l => exact ite_runKept rfl rfl

theorem takeStartPass_runKept (b : OrderBlock) (s : State) : RunKept s (takeStartPass b s) := by
  unfold takeStartPass
  simp only
  cases startRefused (passArgs b) s with
  | none => exact finish_runKept (acceptPass_frame (passArgs b) s).runKept ..
  | some r => rfl

theorem takeSetReports_runKept (b : OrderBlock) (s : State) : RunKept s (takeSetReports b s) := by
  unfold takeSetReports
  cases flagCode (param b 17 1) with
  | none => rfl
  | some on =>
    cases on with
    | false => rfl
    | true => exact ite_runKept rfl rfl

/-! ### The commands -/

theorem takeReading_runKept (reading : Nat) (s : State) : RunKept s (takeReading reading s) := by
  have hoffer (e : Entry) (t : State) : RunKept t (offer e t) := (offer_frame e t).runKept
  have hlow : RunKept s (lowReading reading s) := ite_runKept (hoffer ..) rfl
  have hservice (t : State) : RunKept t (serviceCheck t) := ite_runKept (hoffer ..) rfl
  have haccepted (l : Light) : RunKept s (serviceCheck { s with light := l }) := hservice _
  exact ite_runKept rfl (ite_runKept rfl (ite_runKept hlow (haccepted _)))

theorem fieldStep_runKept (p : Parity) (timer : Bool) (order : List FieldAct) (s : State) :
    RunKept s (fieldStep p timer order s) := by
  rw [RunKept, fieldStep, (runActs_frame ..).running, publish_running, (settleField_frame s).running]

/-- The commands that can change the run state: the writes to RUN, the resets, and a bus error. -/
def changesRun : Instr → Bool
  | .runWritten1 | .runWritten0 | .softReset | .powerOnReset | .boardReset | .busError => true
  | _ => false

/-- Every other command leaves the run state. -/
theorem exec_runKept {c : Instr} (h : changesRun c = false) (s : State) : ∃ t, exec c s = .next t ∧ RunKept s t := by
  have completion {isKind : AccessKind → Bool} {live : Access → State → State} (h : ∀ a t, RunKept t (live a t)) :
      RunKept s (complete isKind s live unused) := complete_runKept h fun _ t => .refl t
  have message (l : Link) (bytes : List Byte) : RunKept s (tellLosses s (takeBytes l bytes s)) :=
    ((takeBytes_frame ..).trans (tellLosses_frame ..)).runKept
  have expiry (k : TimerKind) (l : Link) : RunKept s (tellLosses s (expiryOf k l s)) :=
    ((expiryOf_frame ..).trans (tellLosses_frame ..)).runKept
  cases c with
  | clearScenes | lockScenes | unlockScenes | readLooks | ackMonitor =>
    exact ⟨_, rfl, withOrder_runKept fun b => ite_runKept rfl rfl⟩
  | putScene | clearHouseLooks | setJournal => exact ⟨_, rfl, withOrder_runKept fun b => ite_runKept rfl (ite_runKept rfl rfl)⟩
  | removeScene | setHouseArea | setPosition =>
    exact ⟨_, rfl, withOrder_runKept fun b => ite_runKept rfl (ite_runKept rfl (ite_runKept rfl rfl))⟩
  | putLook =>
    exact ⟨_, rfl, withOrder_runKept fun b =>
      ite_runKept rfl (ite_runKept rfl (ite_runKept rfl (ite_runKept rfl (ite_runKept rfl rfl))))⟩
  | readScenes => exact ⟨_, rfl, withOrder_runKept fun b => ite_runKept rfl (nextRead_runKept ..)⟩
  | setLight =>
    have hrest : RunKept s (decideRest s) := ite_runKept rfl rfl
    exact ⟨_, rfl, withOrder_runKept fun b => ite_runKept (finish_runKept hrest ..) rfl⟩
  | mark => exact ⟨_, rfl, withOrder_runKept fun b => rfl⟩
  | loadScenes => exact ⟨_, rfl, withOrder_runKept (takeLoadScenes_runKept · s)⟩
  | setStandard => exact ⟨_, rfl, withOrder_runKept (takeSetStandard_runKept · s)⟩
  | setFollow => exact ⟨_, rfl, withOrder_runKept (takeSetFollow_runKept · s)⟩
  | setPicture => exact ⟨_, rfl, withOrder_runKept (takeSetPicture_runKept · s)⟩
  | setMonitor => exact ⟨_, rfl, withOrder_runKept (takeSetMonitor_runKept · s)⟩
  | setRoute => exact ⟨_, rfl, withOrder_runKept (takeSetRoute_runKept · s)⟩
  | setLink => exact ⟨_, rfl, withOrder_runKept (takeSetLink_runKept · s)⟩
  | wakeLink => exact ⟨_, rfl, withOrder_runKept (takeWakeLink_runKept · s)⟩
  | resetLink => exact ⟨_, rfl, withOrder_runKept (takeResetLink_runKept · s)⟩
  | startPass => exact ⟨_, rfl, withOrder_runKept (takeStartPass_runKept · s)⟩
  | abortPass =>
    exact ⟨_, rfl, withOrder_runKept fun b => ite_runKept (finish_runKept (abortPassNow_frame .order s).runKept ..) rfl⟩
  | setReports => exact ⟨_, rfl, withOrder_runKept (takeSetReports_runKept · s)⟩
  | sceneFetchComplete record => exact ⟨_, rfl, completion fun _ => afterSceneFetch_runKept record⟩
  | loadRecordFetchComplete record => exact ⟨_, rfl, completion fun _ => afterLoadFetch_runKept record⟩
  | lookFetchComplete record => exact ⟨_, rfl, completion fun _ => afterLookFetch_runKept record⟩
  | readScenesSlotWritten => exact ⟨_, rfl, completion fun _ => afterSceneSlot_runKept⟩
  | readLooksSlotWritten => exact ⟨_, rfl, completion fun _ => afterLookSlot_runKept⟩
  | headerReadComplete bytes => exact ⟨_, rfl, complete_runKept (fun _ _ => rfl) fun _ _ => rfl⟩
  | headerWriteComplete => exact ⟨_, rfl, completion fun _ => afterHeader_runKept⟩
  | linkReadComplete link => exact ⟨_, rfl, completion fun _ _ => judgeLink_runKept ..⟩
  | blockReadComplete block => exact ⟨_, rfl, completion fun _ => afterBlock_runKept block⟩
  | takenWriteComplete => exact ⟨_, rfl, completion fun _ => afterTaken_runKept⟩
  | resultIndexWriteComplete =>
    exact ⟨_, rfl, completion fun _ _ => withProgress_runKept fun _ p => by cases p <;> rfl⟩
  | finalWriteComplete => exact ⟨_, rfl, completion fun _ => afterFinal_runKept⟩
  | abortedWriteComplete => exact ⟨_, rfl, completion fun _ => afterAborted_runKept⟩
  | journalWriteComplete => exact ⟨_, rfl, completion afterJournal_runKept⟩
  | reportWriteComplete => exact ⟨_, rfl, completion afterReport_runKept⟩
  | accessGrant => exact ⟨_, rfl, grantAccess_runKept s⟩
  | baseWrite | enterRest | sampleTriple => exact ⟨_, rfl, ite_runKept rfl rfl⟩
  | attentionWrite | noticeMaskWrite | perfEvent | directiveSent => exact ⟨_, rfl, rfl⟩
  | fieldEvent p order => exact ⟨_, rfl, fieldStep_runKept p false order s⟩
  | referenceWatchExpiry order => exact ⟨_, rfl, ite_runKept rfl (fieldStep_runKept _ true order s)⟩
  | standInField order => exact ⟨_, rfl, ite_runKept (fieldStep_runKept _ true order s) rfl⟩
  | lightSampleEvent reading => exact ⟨_, rfl, takeReading_runKept ..⟩
  | awake | cued | locked | written | done | trouble | damagedFrame => exact ⟨_, rfl, message ..⟩
  | wakeTimerExpiry | cueTimerExpiry | watchdogExpiry | closeTimerExpiry => exact ⟨_, rfl, expiry ..⟩
  | startByte l => exact ⟨_, rfl, ((takeByte_frame ..).trans (tellLosses_frame ..)).runKept⟩
  | autoDown l => exact ⟨_, rfl, ite_runKept ((autoDownNow_frame l s).trans (tellLosses_frame ..)).runKept rfl⟩
  | runWritten1 | runWritten0 | softReset | powerOnReset | boardReset | busError => cases h

end Sys2Proof.Machine
end

section
/-!
PROOF. HaltedPart: what the part is while it is HALTED, and that every command keeps it so (R110, R126, R147, R168, R171, R183).
-/
namespace Sys2Proof.Machine

/-! ### The law, block by block -/

/-- Every link is DOWN (R147). -/
def LinksRest (x : PerLink LinkRec) : Prop := ∀ l, (x.get l).state = .down

/-- Nothing is measured (R126). -/
def LevelRests (l : Level) : Prop := l.openMeas = none ∧ l.last = none ∧ l.tally = none

/-- The port has only those writes to let complete that R171 lets complete, and a holdoff waits for a field event (R171, R183). -/
def PortRests (p : Port) : Prop :=
  p.poll = .idle ∧ (p.holdoff = .clear ∨ p.holdoff = .nextField) ∧ HaltedWalker p.walker
    ∧ ∀ a, p.access = some a → HaltedAccess a

/-- All that the law says of a HALTED part. -/
def Rests (s : State) : Prop :=
  LinksRest s.links ∧ s.pass = none ∧ LevelRests s.level ∧ s.light.rest = false ∧ s.reports.waiting = none ∧ PortRests s.port

theorem haltedOk_iff (s : State) : HaltedOk s ↔ (s.port.running = false → Rests s) := by
  refine imp_congr_right fun _ => ?_
  simp only [Rests, LinksRest, LevelRests, PortRests, linkOf, and_assoc]
  tauto

section
variable {s : State} (h : Rests s)
include h

theorem Rests.down (l : Link) : (linkOf l s).state = .down := h.1 l

theorem Rests.pass : s.pass = none := h.2.1

theorem Rests.port : PortRests s.port := h.2.2.2.2.2

theorem Rests.walker : HaltedWalker s.port.walker := h.port.2.2.1

theorem Rests.access {a : Access} (ha : s.port.access = some a) : HaltedAccess a := h.port.2.2.2 a ha

theorem Rests.no_open : s.level.openMeas = none := h.2.2.1.1

theorem Rests.no_report : s.reports.waiting = none := h.2.2.2.2.1

theorem Rests.withPort {p : Port} (hp : PortRests p) : Rests { s with port := p } :=
  ⟨h.1, h.2.1, h.2.2.1, h.2.2.2.1, h.2.2.2.2.1, hp⟩

theorem Rests.withLinks {x : PerLink LinkRec} (hx : LinksRest x) : Rests { s with links := x } := ⟨hx, h.2⟩

theorem Rests.withWalker {w : Walker} (hw : HaltedWalker w) : Rests (setWalker w s) :=
  h.withPort ⟨h.port.1, h.port.2.1, hw, h.port.2.2.2⟩

theorem Rests.raise (c : Cause) : Rests (raise c s) := h

theorem Rests.setLinkRec {l : Link} {r : LinkRec} (hr : r.state = .down) : Rests (setLinkRec l r s) := by
  refine h.withLinks fun m => ?_
  by_cases hm : m = l
  · subst hm
    exact (congrArg LinkRec.state (linkOf_setLinkRec_same m r s)).trans hr
  · exact (congrArg LinkRec.state (linkOf_setLinkRec_other l m r s hm)).trans (h.down m)

theorem Rests.setFramer (l : Link) (f : Framer) : Rests (setFramer l f s) := h.setLinkRec (h.down l)

end

theorem ite_rests {p : Prop} [Decidable p] {s t : State} (hs : Rests s) (ht : Rests t) : Rests (if p then s else t) := by
  split <;> assumption

/-! ### Halts and resets bring it about (R170, R171) -/

theorem haltedWalker_haltWalker (p : Port) : HaltedWalker (haltWalker p) := by
  unfold haltWalker
  cases p.walker with
  | idle | reading | aborting => trivial
  | taking | closing =>
    simp only
    split <;> trivial
  | flight b q =>
    cases q with
    | finishing r =>
      simp only
      split <;> trivial
    | _ => trivial

theorem not_live_giveUp (a : Access) : a.giveUp.status ≠ .live := by
  unfold Access.giveUp
  split
  · exact nofun
  · assumption

theorem haltedAccess_haltAccess (a : Access) : HaltedAccess (haltAccess a) := by
  have hgone : HaltedAccess a.giveUp := fun hlive => absurd hlive (not_live_giveUp a)
  unfold haltAccess
  cases hk : a.kind with
  | takenWrite | abortedWrite | finalWrite | journal | report =>
    intro _
    simp [hk, AccessKind.isJournal, AccessKind.isReport]
  | _ => exact hgone

theorem haltPart_rests (cause : HaltCause) (s : State) : Rests (haltPart cause s) := by
  have hholdoff : (haltPart cause s).port.holdoff = .clear ∨ (haltPart cause s).port.holdoff = .nextField := by
    show s.port.holdoff.afterRunChange = .clear ∨ s.port.holdoff.afterRunChange = .nextField
    cases s.port.holdoff with
    | clear => exact .inl rfl
    | nextPoll | thisPoll | nextField => exact .inr rfl
  refine ⟨fun l => by cases l <;> rfl, rfl, ⟨rfl, rfl, rfl⟩, rfl, rfl, rfl, hholdoff, haltedWalker_haltWalker _, fun a ha => ?_⟩
  obtain ⟨b, -, rfl⟩ := Option.map_eq_some_iff.mp ha
  exact haltedAccess_haltAccess b

theorem resetPort_rests (kind : ResetKind) (base : BitVec 16) (mask : BitVec 9) (p : Port) :
    PortRests (resetPort kind base mask p) := by
  refine ⟨rfl, .inl rfl, trivial, fun a ha hlive => ?_⟩
  obtain ⟨b, -, rfl⟩ := Option.map_eq_some_iff.mp ha
  exact nomatch hlive

theorem softReset_rests (s : State) : Rests (softReset s) :=
  ⟨fun l => by cases l <;> rfl, rfl, ⟨rfl, rfl, rfl⟩, rfl, rfl, resetPort_rests ..⟩

theorem powerOn_rests (s : State) : Rests (powerOn s) :=
  ⟨fun l => by cases l <;> rfl, rfl, ⟨rfl, rfl, rfl⟩, rfl, rfl, resetPort_rests ..⟩

theorem boardReset_rests (s : State) : Rests (boardReset s) :=
  ⟨fun l => by cases l <;> rfl, rfl, ⟨rfl, rfl, rfl⟩, rfl, rfl, resetPort_rests ..⟩

/-! ### What a HALTED part does not do -/

section
variable {s : State} (h : Rests s)
include h

/-- No order is handed over (R171). -/
theorem Rests.withOrder_eq (code : BitVec 8) (take : OrderBlock → State) : withOrder code s take = s := by
  obtain he | ⟨b, hb, -⟩ := withOrder_cases code s take
  · exact he
  · have hw := h.walker
    rw [hb.1] at hw
    exact hw.elim

/-- No link takes a report (R147), so a byte moves the framer at most. -/
theorem Rests.takeByte (l : Link) (x : Byte) : Rests (takeByte l x s) := by
  unfold Machine.takeByte
  cases (linkOf l s).framer with
  | hunting => exact ite_rests (h.setFramer ..) h
  | assembling noted bytes =>
    refine ite_rests (h.setFramer ..) ?_
    have hhunts : Rests (huntAgain l s) := h.setFramer l .hunting
    have hdown (k : ReportKind) : ¬ Takes k (linkOf l (huntAgain l s)).state := by
      rw [hhunts.down l]
      cases k <;> simp [Takes]
    rw [completeBytes, completeFrame]
    split
    · exact hhunts
    · rename_i k _
      rw [takeReport_ignored (hdown k)]
      exact hhunts

theorem Rests.takeBytes (l : Link) (bytes : List Byte) : Rests (takeBytes l bytes s) := by
  unfold Machine.takeBytes
  induction bytes generalizing s with
  | nil => exact h
  | cons x bytes ih => exact ih (h.takeByte l x)

/-- With no pass there is nobody to tell of a loss (R168). -/
theorem Rests.tellLosses (before : State) : Rests (tellLosses before s) := by
  rw [tellLosses_of_no_pass h.pass]
  exact h

theorem Rests.takeTriple (x : Rgb Int) : Rests (takeTriple x s) := by
  rw [takeTriple_of_no_copy (.inr fun m hm => nomatch h.no_open.symm.trans hm)]
  exact h

end

/-! ### Field events while HALTED -/

theorem publish_rests (p : Parity) (timer : Bool) {s : State} (h : Rests s) : Rests (publish p timer s) := by
  rw [publish_eq]
  generalize (offerAll (publishedEntries p timer s) s).journal = j
  have hport : PortRests (if s.follower.standIn = timer then s.port else (raise .reference s).port) := by
    split <;> exact h.port
  exact h.withPort hport

theorem runAct_rests (a : FieldAct) {s : State} (hrun : s.port.running = false) (h : Rests s) : Rests (runAct a s) := by
  cases a with
  | grade =>
    rw [runAct, gradeField_halted hrun]
    exact h
  | restEntry =>
    rw [runAct, decideRest_stays (not_entersRest_halted hrun)]
    exact h
  | autoDown l =>
    rw [runAct, downField, decideDown_stays (not_goesDown_halted hrun l)]
    have hstays : Rests (setLinkRec l { linkOf l s with downDue := false } s) := h.setLinkRec (h.down l)
    exact hstays.tellLosses s
  | poll =>
    rw [runAct, pollField_halted hrun]
    exact h.withPort ⟨h.port.1, .inl rfl, h.port.2.2⟩
  | timer l =>
    rw [runAct_halted hrun (by cases l <;> simp)]
    exact h
  | restCount | measure | framers | silence | pass | report =>
    rw [runAct_halted hrun (by simp)]
    exact h

theorem runActs_rests (acts : List FieldAct) {s : State} (hrun : s.port.running = false) (h : Rests s) :
    Rests (acts.foldl (fun s a => runAct a s) s) := by
  induction acts generalizing s with
  | nil => exact h
  | cons a acts ih => exact ih ((runAct_frame a s).running.trans hrun) (runAct_rests a hrun h)

theorem fieldStep_rests (p : Parity) (timer : Bool) (order : List FieldAct) {s : State} (hrun : s.port.running = false)
    (h : Rests s) : Rests (fieldStep p timer order s) := by
  have hsettled : Rests (settleField s) := runActs_rests optionalActs hrun h
  refine runActs_rests _ ?_ (publish_rests p timer hsettled)
  rw [publish_running, (settleField_frame s).running, hrun]

/-! ### The port while HALTED -/

/-- The kinds of access whose result the part still wants while HALTED (R171). -/
abbrev StillWanted (k : AccessKind) : Prop :=
  k = .takenWrite ∨ k = .abortedWrite ∨ k = .finalWrite ∨ k.isJournal = true ∨ k.isReport = true

section
variable {s : State} (h : Rests s)
include h

theorem Rests.endAccess (a : Access) : Rests (endAccess a s) :=
  h.withPort ⟨h.port.1, h.port.2.1, h.walker, nofun⟩

theorem Rests.dropAccess : Rests (dropAccess s) := h.withPort ⟨h.port.1, h.port.2.1, h.walker, nofun⟩

theorem Rests.closeBlock (b : OrderBlock) : Rests (closeBlock b s) := by
  rw [closeBlock_port]
  exact h.withPort ⟨h.port.1, h.port.2.1, trivial, h.port.2.2.2⟩

theorem Rests.complete {isKind : AccessKind → Bool} {live stale : Access → State → State}
    (hlive : ∀ a t, StillWanted a.kind → isKind a.kind = true → Rests t → Rests (live a t))
    (hstale : ∀ a t, Rests t → Rests (stale a t)) : Rests (complete isKind s live stale) := by
  obtain he | ⟨a, ha, hk, ⟨hs, he⟩ | ⟨-, he⟩ | ⟨-, he⟩⟩ := complete_cases isKind s live stale <;> rw [he]
  · exact h
  · exact hlive a _ (h.access ha hs) hk (h.endAccess a)
  · exact hstale a _ (h.endAccess a)
  · exact h.endAccess a

/-- The result of an access that R171 does not let complete is not used. -/
theorem Rests.complete_unwanted {k : AccessKind} {live stale : Access → State → State} (hk : ¬ StillWanted k)
    (hstale : ∀ a t, Rests t → Rests (stale a t)) : Rests (Machine.complete (· == k) s live stale) :=
  h.complete (fun _ _ hwanted ha => absurd (eq_of_beq ha ▸ hwanted) hk) hstale

theorem Rests.afterTaken : Rests (afterTaken s) := by
  have hw := h.walker
  unfold Machine.afterTaken
  cases hstands : s.port.walker with
  | taking b halted =>
    rw [hstands] at hw
    cases hw
    exact h.withWalker trivial
  | _ => exact h

theorem Rests.afterAborted : Rests (afterAborted s) := by
  have hw := h.walker
  unfold Machine.afterAborted
  cases hstands : s.port.walker with
  | closing b n halted =>
    rw [hstands] at hw
    cases hw
    exact h.closeBlock b
  | aborting b => exact h.closeBlock b
  | _ => exact h

theorem Rests.afterFinal : Rests (afterFinal s) := by
  obtain he | ⟨b, p, -, he⟩ := withProgress_cases s _ <;> rw [Machine.afterFinal, he]
  · exact h
  · cases p with
    | finishing r => exact h.closeBlock b
    | _ => exact h

theorem Rests.afterJournal (a : Access) : Rests (afterJournal a s) := by
  unfold Machine.afterJournal
  cases a.kind with
  | journal pops advances =>
    have hadvance (t : State) (ht : Rests t) : Rests (advanceFill t) := ite_rests ht ht
    have hpop : Rests (if pops then { s with journal := { s.journal with queue := s.journal.queue.tail } } else s) :=
      ite_rests h h
    exact ite_rests (hadvance _ hpop) hpop
  | _ => exact h

theorem Rests.afterReport (a : Access) : Rests (afterReport a s) := by
  unfold Machine.afterReport
  cases a.kind <;> exact h

/-- A grant is of a write that R171 lets complete. -/
theorem Rests.grantAccess : Rests (grantAccess s) := by
  obtain he | ⟨r, -, hr, he⟩ := grantAccess_cases s <;> rw [he]
  · exact h
  · have hwants := chosen_wants r s hr
    have hwaiting : (clearGranted r s.reports).waiting = none := by
      cases r with
      | report => rfl
      | poll | journal | order => exact h.no_report
    have hform : HaltedAccess (formAccess r s (Config.freeBits s.freeIndex)) := by
      intro _
      cases r with
      | poll => simp [wants, h.port.1, pollKind] at hwants
      | journal => simp [formAccess, AccessKind.isJournal]
      | report => simp [formAccess, AccessKind.isReport]
      | order =>
        have hw := h.walker
        simp only [formAccess]
        cases hstands : s.port.walker with
        | idle => simp [wants, hstands, walkerKind] at hwants
        | reading => rw [hstands] at hw; exact hw.elim
        | taking | closing | aborting => simp [walkerKind]
        | flight b p =>
          rw [hstands] at hw
          cases p with
          | finishing => simp [walkerKind, progressKind]
          | _ => exact hw.elim
    refine ⟨h.1, h.2.1, h.2.2.1, h.2.2.2.1, hwaiting, ?_⟩
    refine ⟨?_, ?_, ?_, fun a ha => ?_⟩
    · cases r <;> exact h.port.1
    · cases r <;> exact h.port.2.1
    · cases r <;> exact h.walker
    · cases ha
      exact hform

/-- A bus error while HALTED raises BUS at most, and lets an order block be (R177). -/
theorem Rests.busErrorNow (hrun : s.port.running = false) : Rests (busErrorNow s) := by
  have hlet (a : Access) {t : State} (ht : Rests t) : Rests (letBlockBe a t) := ite_rests (ht.withWalker trivial) ht
  have hdrop := h.dropAccess
  unfold Machine.busErrorNow
  cases s.port.access with
  | none => exact h
  | some a =>
    simp only [hrun, Bool.false_eq_true, if_false]
    refine ite_rests hdrop ?_
    unfold errorHalted
    cases errorClass a.kind with
    | port => exact hlet a hdrop
    | data | journal | report => exact hdrop

end

/-! ### Every command -/

/-- A part that rests goes on resting; RUN 1 only sets it running (R171). -/
theorem exec_rests (c : Instr) {s : State} (hrun : s.port.running = false) (h : Rests s) : ∃ t, exec c s = .next t ∧ Rests t := by
  have order {code : BitVec 8} {take : OrderBlock → State} : Rests (withOrder code s take) := by
    rw [h.withOrder_eq]
    exact h
  have unwanted {k : AccessKind} {live : Access → State → State} (hk : ¬ StillWanted k) :
      Rests (complete (· == k) s live unused) := h.complete_unwanted hk fun _ _ ht => ht
  have message (l : Link) (bytes : List Byte) : Rests (tellLosses s (takeBytes l bytes s)) := (h.takeBytes l bytes).tellLosses s
  have expiry (k : TimerKind) (l : Link) : Rests (tellLosses s (expiryOf k l s)) := by
    have hstays : expiryOf k l s = s := by rw [expiryOf, checkTimer_halted hrun, ite_self]
    rw [hstays]
    exact h.tellLosses s
  cases c with
  | putScene | removeScene | clearScenes | lockScenes | unlockScenes | loadScenes | readScenes | putLook | readLooks
  | setHouseArea | clearHouseLooks | setStandard | setPosition | setFollow | setPicture | setLight | setMonitor | ackMonitor
  | setRoute | setLink | wakeLink | resetLink | startPass | abortPass | setJournal | setReports | mark => exact ⟨_, rfl, order⟩
  | sceneFetchComplete | loadRecordFetchComplete | lookFetchComplete | readScenesSlotWritten | readLooksSlotWritten
  | headerWriteComplete | linkReadComplete | blockReadComplete | resultIndexWriteComplete =>
    exact ⟨_, rfl, unwanted (by decide)⟩
  | headerReadComplete => exact ⟨_, rfl, h.complete_unwanted (by decide) fun _ _ ht => ht⟩
  | takenWriteComplete => exact ⟨_, rfl, h.complete (fun _ _ _ _ ht => ht.afterTaken) fun _ _ ht => ht⟩
  | abortedWriteComplete => exact ⟨_, rfl, h.complete (fun _ _ _ _ ht => ht.afterAborted) fun _ _ ht => ht⟩
  | finalWriteComplete => exact ⟨_, rfl, h.complete (fun _ _ _ _ ht => ht.afterFinal) fun _ _ ht => ht⟩
  | journalWriteComplete => exact ⟨_, rfl, h.complete (fun a _ _ _ ht => ht.afterJournal a) fun _ _ ht => ht⟩
  | reportWriteComplete => exact ⟨_, rfl, h.complete (fun a _ _ _ ht => ht.afterReport a) fun _ _ ht => ht⟩
  | accessGrant => exact ⟨_, rfl, h.grantAccess⟩
  | busError => exact ⟨_, rfl, h.busErrorNow hrun⟩
  | runWritten1 =>
    have hchanged : s.port.holdoff.afterRunChange = .clear ∨ s.port.holdoff.afterRunChange = .nextField :=
      h.port.2.1.imp (fun hclear => by rw [hclear]; rfl) fun hfield => by rw [hfield]; rfl
    exact ⟨_, rfl, ite_rests h (h.withPort ⟨h.port.1, hchanged, h.port.2.2⟩)⟩
  | runWritten0 => exact ⟨_, rfl, ite_rests (haltPart_rests ..) h⟩
  | softReset => exact ⟨_, rfl, softReset_rests s⟩
  | powerOnReset => exact ⟨_, rfl, powerOn_rests s⟩
  | boardReset => exact ⟨_, rfl, boardReset_rests s⟩
  | baseWrite => exact ⟨_, rfl, ite_rests h h⟩
  | attentionWrite =>
    have hholdoff : startHoldoff s.port = .nextField := if_neg (by simp [hrun])
    exact ⟨_, rfl, h.withPort ⟨h.port.1, .inr hholdoff, h.port.2.2⟩⟩
  | noticeMaskWrite | perfEvent => exact ⟨_, rfl, h⟩
  | fieldEvent p order => exact ⟨_, rfl, fieldStep_rests p false order hrun h⟩
  | referenceWatchExpiry order => exact ⟨_, rfl, ite_rests h (fieldStep_rests _ true order hrun h)⟩
  | standInField order => exact ⟨_, rfl, ite_rests (fieldStep_rests _ true order hrun h) h⟩
  | sampleTriple x => exact ⟨_, rfl, h.takeTriple _⟩
  | lightSampleEvent reading =>
    refine ⟨_, rfl, ?_⟩
    rw [takeReading_ignored (s := blankOutput s) (.inl hrun)]
    exact h
  | enterRest => exact ⟨_, exec_enterRest_stays (not_entersRest_halted hrun), h⟩
  | autoDown l => exact ⟨_, exec_autoDown_stays (not_goesDown_halted hrun l), h⟩
  | awake | cued | locked | written | done | trouble | damagedFrame => exact ⟨_, rfl, message ..⟩
  | wakeTimerExpiry | cueTimerExpiry | watchdogExpiry | closeTimerExpiry => exact ⟨_, rfl, expiry ..⟩
  | startByte l => exact ⟨_, rfl, (h.takeByte l _).tellLosses s⟩
  | directiveSent l => exact ⟨_, rfl, h.setLinkRec (h.down l)⟩

/-- A part that runs goes on running, or rests: only RUN 0, a reset and a bus error stop it (R170, R171, R177). -/
theorem exec_runs (c : Instr) {s : State} (hrun : s.port.running = true) :
    ∃ t, exec c s = .next t ∧ (t.port.running = true ∨ Rests t) := by
  cases hc : changesRun c with
  | false =>
    obtain ⟨t, ht, hkept⟩ := exec_runKept hc s
    exact ⟨t, ht, .inl (Eq.trans hkept hrun)⟩
  | true =>
    cases c with
    | runWritten1 => exact ⟨s, congrArg Host.Outcome.next (if_pos hrun), .inl hrun⟩
    | runWritten0 => exact ⟨_, congrArg Host.Outcome.next (if_pos hrun), .inr (haltPart_rests ..)⟩
    | softReset => exact ⟨_, rfl, .inr (softReset_rests s)⟩
    | powerOnReset => exact ⟨_, rfl, .inr (powerOn_rests s)⟩
    | boardReset => exact ⟨_, rfl, .inr (boardReset_rests s)⟩
    | busError =>
      refine ⟨_, rfl, ?_⟩
      have hdata (t : State) : RunKept t (dataFault t) := withProgress_runKept fun _ p => by cases p <;> rfl
      unfold busErrorNow
      cases s.port.access with
      | none => exact .inl hrun
      | some a =>
        simp only [if_pos hrun]
        split
        · exact .inl hrun
        · unfold errorRunning
          cases errorClass a.kind with
          | data => exact .inl (Eq.trans (ite_runKept (hdata (dropAccess s)) rfl) hrun)
          | port | journal => exact .inr (haltPart_rests ..)
          | report => exact .inl hrun
    | _ => cases hc

theorem exec_haltedOk (c : Instr) {s : State} (h : HaltedOk s) : ∃ t, exec c s = .next t ∧ HaltedOk t := by
  rw [haltedOk_iff] at h
  cases hrun : s.port.running with
  | false =>
    obtain ⟨t, ht, hrests⟩ := exec_rests c hrun (h hrun)
    exact ⟨t, ht, (haltedOk_iff t).mpr fun _ => hrests⟩
  | true =>
    obtain ⟨t, ht, hruns⟩ := exec_runs c hrun
    exact ⟨t, ht, (haltedOk_iff t).mpr fun hno => hruns.resolve_left (by simp [hno])⟩

/-- Settles O57: every command keeps the law. -/
theorem haltedPartRests : Obligations.HaltedPartRests := by
  unfold Obligations.HaltedPartRests
  intro s t h hstep
  unfold step at hstep
  split at hstep
  · cases hstep
    exact h
  · rename_i c rest _
    obtain ⟨u, hu, hok⟩ := exec_haltedOk (s := { s with pending := rest }) c h
    cases hu.symm.trans hstep
    exact hok

end Sys2Proof.Machine
end

section
/-!
PROOF. PortCompletions: what the completions of the port's accesses do: polls, walks, order blocks, and accesses whose result is
given up or forgotten (R170 to R176, R180 to R183).
-/
namespace Sys2Proof.Machine

/-! ### Completions by the status of the access -/

section
variable {s : State} {a : Access} {k : AccessKind}

theorem next_complete_live (h : Live s a k) (live stale : Access → State → State) :
    (Host.Outcome.next (complete (· == k) s live stale) : Host.Outcome State Fault Refusal) = .next (live a (endAccess a s)) :=
  congrArg Host.Outcome.next (complete_of_live h live stale)

/-- A reset has forgotten the access: its bytes land, and the port is free (R170). -/
theorem complete_forgotten {isKind : AccessKind → Bool} (ha : s.port.access = some a) (hs : a.status = .forgotten)
    (hk : isKind a.kind = true) (live stale : Access → State → State) : complete isKind s live stale = endAccess a s := by
  simp [complete, ha, hs, hk]

/-- The access's result is given up (R171, R172, R182). -/
theorem complete_stale {isKind : AccessKind → Bool} (ha : s.port.access = some a) (hs : a.status = .stale)
    (hk : isKind a.kind = true) (live stale : Access → State → State) :
    complete isKind s live stale = stale a (endAccess a s) := by
  simp [complete, ha, hs, hk]

theorem complete_unused {isKind : AccessKind → Bool} (ha : s.port.access = some a)
    (hs : a.status = .forgotten ∨ a.status = .stale) (hk : isKind a.kind = true) (live : Access → State → State) :
    complete isKind s live unused = endAccess a s := by
  obtain hs | hs := hs
  · exact complete_forgotten ha hs hk ..
  · exact complete_stale ha hs hk ..

end

/-! ### Links (R174, R175) -/

theorem isBroken_iff (link : BitVec 32) : isBroken link = true ↔ Broken link := by
  simp only [isBroken, Config.windowSize, Bool.or_eq_true, bne_iff_ne, or_assoc]
  exact or_congr_right (or_congr decide_eq_true_iff decide_eq_true_iff)

theorem judgeLink_judged (link : BitVec 32) (count : Nat) (s : State) : Judged link count s (judgeLink link count s) := by
  have hwalk : Config.walkLimit = 16 := rfl
  have hzero : ¬ Broken link → link ≠ 0 := by
    rintro h rfl
    exact h (.inr (.inl (by decide)))
  have hvalid (h : ¬ Broken link) : isBroken link = false := by rwa [← Bool.not_eq_true, isBroken_iff]
  refine ⟨?_, fun h0 hbroken hnoted => ?_, fun h0 hbroken hnew => ?_, fun hlink hcount => ?_, fun hlink hcount => ?_⟩
  · rintro rfl
    exact judgeLink_zero count s
  · rw [judgeLink_broken link count s ((isBroken_iff link).mpr hbroken) h0, if_pos hnoted]
    rfl
  · rw [judgeLink_broken link count s ((isBroken_iff link).mpr hbroken) h0, if_neg hnew]
    rfl
  · exact judgeLink_valid link count s (hvalid hlink) (hzero hlink) hcount
  · have hfull : ¬ count < Config.walkLimit := by omega
    have hne : ¬ link = 0 := hzero hlink
    rw [judgeLink]
    simp only [hne, hvalid hlink, hfull, if_false, Bool.false_eq_true]
    rfl

/-! ### The field poll and the walk -/

theorem afterPoll_eq (x : Holdoff) : x.afterPoll = if x = .nextPoll then .nextPoll else .clear := by cases x <;> rfl

section
variable {s : State}

/-- With no walk and no order in flight the first order's link is judged at once, when no block has been followed (R174). -/
theorem afterHeader_judges (hw : s.port.walker = .idle) (hpoint : s.port.followPoint = 0) :
    afterHeader s = judgeLink s.port.firstOrder 0 (pollComplete s) := by simp [afterHeader, hw, hpoint]

theorem afterHeader_reads (hw : s.port.walker = .idle) (hpoint : s.port.followPoint ≠ 0) :
    afterHeader s = setPoll .linkRead s := by
  have hne : ¬ s.port.followPoint = 0#32 := hpoint
  simp [afterHeader, hw, hne]

theorem afterHeader_busy (hw : s.port.walker ≠ .idle) : afterHeader s = pollComplete s := by
  unfold afterHeader
  cases h : s.port.walker with
  | idle => exact absurd h hw
  | _ => rfl

end

/-- A bit as the layouts read it is the word's bit. -/
theorem bitsOf_one_eq_getLsbD {n : Nat} (w : BitVec n) (i : Nat) : (bitsOf w.toNat i 1 == 1) = w.getLsbD i := by
  rw [bitsOf_beq_one, BitVec.getLsbD, Nat.testBit_eq_decide_div_mod_eq]
  rfl

/-- The fields of a block read lie where the order block's layout places them (R173). -/
theorem decodeBlock_eq (o : BitVec 32) (block : BitVec 256) :
    decodeBlock o block
      = ⟨o, block.extractLsb' 0 32, block.extractLsb' 32 8, block.getLsbD 40, block.extractLsb' 96 160⟩ :=
  congrArg (fun notify => (⟨o, block.extractLsb' 0 32, block.extractLsb' 32 8, notify, block.extractLsb' 96 160⟩ : OrderBlock))
    (bitsOf_one_eq_getLsbD block 40)

theorem blockStateOf_eq (block : BitVec 256) : blockStateOf block = block.toNat / 2 ^ 48 % 65536 :=
  congrArg (· % 65536) (Nat.shiftRight_eq_div_pow ..)

theorem exec_blockReadComplete {s : State} {a : Access} {o : BitVec 32} {n : Nat} (block : BitVec 256) (h : Live s a .blockRead)
    (hw : s.port.walker = .reading o n) :
    exec (.blockReadComplete block) s
      = .next (actOnBlock
          ⟨o, block.extractLsb' 0 32, block.extractLsb' 32 8, block.getLsbD 40, block.extractLsb' 96 160⟩
          (block.toNat / 2 ^ 48 % 65536) (n + 1) (endAccess a s)) := by
  refine (next_complete_live h _ _).trans (congrArg Host.Outcome.next ?_)
  have hreads : (endAccess a s).port.walker = .reading o n := hw
  rw [afterBlock, hreads, ← decodeBlock_eq, ← blockStateOf_eq]

/-- Settles O47: the header read, the header write and the link read move the poll on, and the block read the walk. -/
theorem portPollsAndWalks : Obligations.PortPollsAndWalks := by
  unfold Obligations.PortPollsAndWalks
  refine ⟨fun s a => ?_, fun s a o n block h hwalker => ?_⟩
  · intro u polled
    have hpolled : pollComplete u = polled := by
      show { u with port := { u.port with poll := .idle, holdoff := u.port.holdoff.afterPoll } } = polled
      rw [afterPoll_eq]
      rfl
    refine ⟨fun bytes h => next_complete_live h _ _, fun h hbusy => ?_, fun h hidle hpoint => ?_, fun h hidle hpoint => ?_,
      fun link h => ?_⟩
    · refine (next_complete_live h _ _).trans (congrArg Host.Outcome.next ?_)
      exact (afterHeader_busy (s := u) hbusy).trans hpolled
    · refine (next_complete_live h _ _).trans (congrArg Host.Outcome.next ?_)
      exact afterHeader_reads (s := u) hidle hpoint
    · refine ⟨_, next_complete_live h _ _, ?_⟩
      rw [afterHeader_judges (s := endAccess a s) hidle hpoint, ← hpolled]
      exact judgeLink_judged ..
    · refine ⟨_, next_complete_live h _ _, ?_⟩
      rw [← hpolled]
      exact judgeLink_judged ..
  · intro u state b
    simp only [exec_blockReadComplete block h hwalker]
    refine ⟨fun h1 => ?_, fun h2 => ?_, fun h35 => ⟨_, rfl, ?_⟩, fun hother => ?_⟩
    · rw [actOnBlock, if_pos h1]
      rfl
    · rw [actOnBlock, if_neg (by omega), if_pos h2]
      rfl
    · rw [actOnBlock, if_neg (by omega), if_neg (by omega), if_pos (by omega)]
      exact judgeLink_judged ..
    · rw [actOnBlock, if_neg (by omega), if_neg (by omega), if_neg (by omega)]
      rfl

/-! ### Order blocks (R171, R176) -/

section
variable {s : State} {b : OrderBlock}

theorem afterTaken_runs (hw : s.port.walker = .taking b false) :
    afterTaken s = if knownCodes.contains b.code then proceed b .handed s else finish b .badOrder 0 s := by simp [afterTaken, hw]

theorem afterTaken_halted (hw : s.port.walker = .taking b true) : afterTaken s = setWalker (.aborting b) s := by
  simp [afterTaken, hw]

theorem afterAborted_aborting (hw : s.port.walker = .aborting b) : afterAborted s = closeBlock b s := by simp [afterAborted, hw]

theorem afterAborted_halted {n : Nat} (hw : s.port.walker = .closing b n true) : afterAborted s = closeBlock b s := by
  simp [afterAborted, hw]

theorem afterAborted_walks {n : Nat} (hw : s.port.walker = .closing b n false) :
    afterAborted s = judgeLink b.link n (closeBlock b s) := by simp [afterAborted, hw]

theorem afterResultIndex_eq {i : Nat} {r : Result} (hw : s.port.walker = .flight b (.resultIndex i r)) :
    afterResultIndex s = finish b r.outcome r.detail s := withProgress_flight s b _ _ hw

theorem afterFinal_eq {r : Result} (hw : s.port.walker = .flight b (.finishing r)) : afterFinal s = closeBlock b s :=
  withProgress_flight s b _ _ hw

end

theorem knownCodes_contains_iff (code : BitVec 8) :
    knownCodes.contains code = true
      ↔ code.toNat ∈ [1, 2, 3, 4, 5, 6, 7, 16, 17, 18, 19, 32, 33, 34, 40, 48, 56, 57, 64, 65, 66, 67, 80, 81, 96, 97, 98] := by
  rw [List.contains_iff_mem, ← List.mem_map_of_injective (f := BitVec.toNat) fun _ _ => BitVec.eq_of_toNat_eq]
  rfl

/-- Settles O48: each write of an order block moves the walker on, and the last one closes the block. -/
theorem orderBlocksPassToTheirEnd : Obligations.OrderBlocksPassToTheirEnd := by
  unfold Obligations.OrderBlocksPassToTheirEnd
  intro s a b u known ended
  have hnext {k : AccessKind} {live stale : Access → State → State} {t : State} (h : Live s a k) (ht : live a u = t) :
      (Host.Outcome.next (complete (· == k) s live stale) : Host.Outcome State Fault Refusal) = .next t :=
    (next_complete_live h live stale).trans (congrArg Host.Outcome.next ht)
  refine ⟨fun h hw => ?_, fun h hw => hnext h (afterTaken_halted hw), fun i r h hw => hnext h (afterResultIndex_eq hw),
    fun r h hw => hnext h (afterFinal_eq hw), fun h hw => ?_, fun n h hw => ?_⟩
  · have htaken := hnext (stale := unused) (live := fun _ => afterTaken) h (afterTaken_runs hw)
    refine ⟨fun hknown => htaken.trans ?_, fun hunknown => htaken.trans ?_⟩
    · rw [if_pos ((knownCodes_contains_iff b.code).mpr hknown)]
    · rw [if_neg ((knownCodes_contains_iff b.code).not.mpr hunknown)]
  · obtain hw | ⟨n, hw⟩ := hw
    · exact hnext h (afterAborted_aborting hw)
    · exact hnext h (afterAborted_halted hw)
  · exact ⟨_, hnext h (afterAborted_walks hw), judgeLink_judged ..⟩

/-! ### Journal and report writes, and accesses given up or forgotten (R170 to R172, R180 to R182) -/

/-- Unread reaches the threshold as the fill mark moves on by one (R180). -/
def ReachesThreshold (j : Journal) : Prop := ∃ x, j.setting = some x ∧ (j.fill + 1 - j.taken).toNat = x.threshold

theorem reachesThreshold_iff (j : Journal) :
    j.setting.map JournalSet.threshold = some (unread { j with fill := j.fill + 1 }) ↔ ReachesThreshold j := by
  rw [Option.map_eq_some_iff]
  simp only [unread, ReachesThreshold, eq_comm]

theorem advanceFill_reaches {s : State} (h : ReachesThreshold s.journal) :
    advanceFill s = raise .journal { s with journal := { s.journal with fill := s.journal.fill + 1 } } :=
  if_pos ((reachesThreshold_iff s.journal).mpr h)

theorem advanceFill_below {s : State} (h : ¬ ReachesThreshold s.journal) :
    advanceFill s = { s with journal := { s.journal with fill := s.journal.fill + 1 } } :=
  if_neg ((reachesThreshold_iff s.journal).not.mpr h)

/-- A slot write takes its entry from the queue and moves the fill mark, each where a halt or a SET JOURNAL leaves it to. -/
theorem afterJournal_eq {a : Access} {pops advances : Bool} (hk : a.kind = .journal pops advances) (s : State) :
    afterJournal a s
      = (fun t => if advances = true then advanceFill t else t)
          { s with journal := { s.journal with queue := if pops = true then s.journal.queue.drop 1 else s.journal.queue } } := by
  cases pops <;> simp [afterJournal, hk, List.drop_one]

/-- Settles O52: a wanted write moves its marks, an unwanted access only lands its bytes and frees the port. -/
theorem writesMoveTheirMarks : Obligations.WritesMoveTheirMarks := by
  unfold Obligations.WritesMoveTheirMarks
  intro s a u
  refine ⟨fun pops advances h => ?_, fun slot h => ?_, fun ha hs hk v => ?_, fun ha hs hk v => ?_, fun ha hs => ?_⟩
  · intro queue fill t reached
    obtain ⟨ha, hk, hs⟩ := h
    have hdone : exec .journalWriteComplete s
        = .next ((fun t => if advances = true then advanceFill t else t) { u with journal := { s.journal with queue := queue } }) := by
      refine congrArg Host.Outcome.next ((complete_live _ s _ _ a ha (by simp [hk, AccessKind.isJournal]) hs).trans ?_)
      exact afterJournal_eq hk u
    cases advances with
    | false => exact ⟨fun h => absurd h.1 nofun, fun _ => hdone⟩
    | true =>
      exact ⟨fun h => hdone.trans (congrArg Host.Outcome.next (advanceFill_reaches h.2)),
        fun h => hdone.trans (congrArg Host.Outcome.next (advanceFill_below fun hno => h ⟨rfl, hno⟩))⟩
  · obtain ⟨ha, hk, hs⟩ := h
    refine congrArg Host.Outcome.next ((complete_live _ s _ _ a ha (by simp [hk, AccessKind.isReport]) hs).trans ?_)
    simp [afterReport, hk, u]
  · exact congrArg Host.Outcome.next (complete_forgotten (isKind := (· == .headerRead)) ha hs (beq_iff_eq.mpr hk) ..)
  · exact congrArg Host.Outcome.next (complete_stale (isKind := (· == .headerRead)) ha hs (beq_iff_eq.mpr hk) ..)
  · have given_up {isKind : AccessKind → Bool} (hk : isKind a.kind = true) (live : Access → State → State) :
        (Host.Outcome.next (complete isKind s live unused) : Host.Outcome State Fault Refusal) = .next u :=
      congrArg Host.Outcome.next (complete_unused ha hs hk live)
    have kind {k : AccessKind} (hk : a.kind = k) (live : Access → State → State) :=
      given_up (isKind := (· == k)) (beq_iff_eq.mpr hk) live
    exact ⟨fun hk => kind hk _, fun hk v => kind hk _, fun hk v => kind hk _, fun hk => kind hk _, fun hk => kind hk _,
      fun hk => kind hk _, fun hk => kind hk _, fun hk v => kind hk _, fun hk v => kind hk _, fun hk => kind hk _,
      fun hk => kind hk _, fun hk v => kind hk _, fun ⟨p, v, hk⟩ => given_up (by simp [hk, AccessKind.isJournal]) _,
      fun ⟨n, hk⟩ => given_up (by simp [hk, AccessKind.isReport]) _⟩

end Sys2Proof.Machine
end

section
/-!
PROOF. Arbiter: what waits for the memory port, and which of the waiting requests is granted (R169, R178).
-/
namespace Sys2Proof.Machine

/-! ### What waits (R169, R171, R178, R180) -/

/-- There is room in the journal by the taken mark last read (R180). -/
theorem journalRoom_iff (j : Journal) :
    journalRoom j = true ↔ ∃ x, j.setting = some x ∧ (j.fill - j.taken).toNat < x.capacity := by
  unfold journalRoom unread
  cases j.setting <;> simp

section
variable (s : State)

theorem wants_poll_iff : wants .poll s = true ↔ s.port.poll ≠ .idle := by
  cases h : s.port.poll <;> simp [wants, pollKind, h]

theorem wants_journal_iff :
    wants .journal s = true
      ↔ s.port.running = true ∧ s.journal.queue ≠ []
          ∧ ∃ x, s.journal.setting = some x ∧ (s.journal.fill - s.journal.taken).toNat < x.capacity := by
  rw [wants, journalWants, Bool.and_eq_true_iff, Bool.and_eq_true_iff, journalRoom_iff, bne_iff_ne, and_assoc,
    and_comm (b := s.journal.queue ≠ [])]

/-- The walker waits in every place but two: with nothing to do, and while an owner has its order (R174 to R176). -/
theorem wants_order_iff : wants .order s = true ↔ s.port.walker ≠ .idle ∧ ∀ b, s.port.walker ≠ .flight b .handed := by
  cases h : s.port.walker with
  | flight b p => cases p <;> simp [wants, walkerKind, progressKind, h]
  | _ => simp [wants, walkerKind, h]

theorem wants_report_iff : wants .report s = true ↔ s.reports.waiting ≠ none := by
  rw [wants, Option.isSome_iff_ne_none]

theorem accessPending_iff :
    accessPending s = true ↔ s.port.access ≠ none ∨ ∃ r, wants r s = true := by
  have hany : (∃ r, wants r s = true)
      ↔ wants .poll s = true ∨ wants .journal s = true ∨ wants .order s = true ∨ wants .report s = true := by
    constructor
    · rintro ⟨r, hr⟩
      cases r <;> simp [hr]
    · rintro (h | h | h | h) <;> exact ⟨_, h⟩
  simp only [hany, accessPending, Bool.or_eq_true, Option.isSome_iff_ne_none, or_assoc]

end

/-! ### Which is granted (R178) -/

section
variable {s : State} {a b last : Requester}

theorem pick_first (ha : wants a s = true) (hb : wants b s = true → last ≠ a) : pick a b last s = some a := by
  cases hwants : wants b s with
  | false => simp [pick, ha, hwants]
  | true => simp [pick, ha, hwants, hb hwants]

theorem pick_second (hb : wants b s = true) (ha : wants a s = true → last = a) : pick a b last s = some b := by
  cases hwants : wants a s with
  | false => simp [pick, hb, hwants]
  | true => simp [pick, hb, hwants, ha hwants]

/-- Of two, one is picked when one waits. -/
theorem exists_pick (h : wants a s = true ∨ wants b s = true) : ∃ r, pick a b last s = some r := by
  unfold pick
  split
  · exact ⟨_, rfl⟩
  · split
    · exact ⟨_, rfl⟩
    · exact ⟨_, if_pos (h.resolve_left ‹_›)⟩

theorem pick_none (ha : ¬ wants a s = true) (hb : ¬ wants b s = true) : pick a b last s = none := by simp [pick, ha, hb]

end

section
variable {s : State}

/-- The high class goes first. -/
theorem chosen_high {r : Requester} (h : pick .poll .journal s.port.lastHigh s = some r) : chosen s = some r := by
  simp [chosen, h]

theorem chosen_low (hpoll : ¬ wants .poll s = true) (hjournal : ¬ wants .journal s = true) :
    chosen s = pick .order .report s.port.lastLow s := by simp [chosen, pick_none hpoll hjournal]

theorem chosen_poll (hpoll : wants .poll s = true) (hturn : wants .journal s = true → s.port.lastHigh ≠ .poll) :
    chosen s = some .poll := chosen_high (pick_first hpoll hturn)

theorem chosen_journal (hjournal : wants .journal s = true) (hturn : wants .poll s = true → s.port.lastHigh = .poll) :
    chosen s = some .journal := chosen_high (pick_second hjournal hturn)

theorem chosen_order (hpoll : ¬ wants .poll s = true) (hjournal : ¬ wants .journal s = true) (horder : wants .order s = true)
    (hturn : wants .report s = true → s.port.lastLow ≠ .order) : chosen s = some .order :=
  (chosen_low hpoll hjournal).trans (pick_first horder hturn)

theorem chosen_report (hpoll : ¬ wants .poll s = true) (hjournal : ¬ wants .journal s = true) (hreport : wants .report s = true)
    (hturn : wants .order s = true → s.port.lastLow = .order) : chosen s = some .report :=
  (chosen_low hpoll hjournal).trans (pick_second hreport hturn)

/-- Something is granted when something waits. -/
theorem exists_chosen {q : Requester} (h : wants q s = true) : ∃ r, chosen s = some r := by
  by_cases hhigh : wants .poll s = true ∨ wants .journal s = true
  · obtain ⟨r, hr⟩ := exists_pick hhigh
    exact ⟨r, chosen_high hr⟩
  · obtain ⟨hpoll, hjournal⟩ := not_or.mp hhigh
    rw [chosen_low hpoll hjournal]
    cases q with
    | poll => exact absurd h hpoll
    | journal => exact absurd h hjournal
    | order => exact exists_pick (.inl h)
    | report => exact exists_pick (.inr h)

theorem chosen_eq_none (h : ∀ r, ¬ wants r s = true) : chosen s = none := by
  rw [chosen_low (h .poll) (h .journal), pick_none (h .order) (h .report)]

end

theorem grantAccess_taken {s : State} (h : s.port.access ≠ none) : grantAccess s = s :=
  if_pos (Option.isSome_iff_ne_none.mpr h)

theorem grantAccess_idle {s : State} (h : ∀ r, ¬ wants r s = true) : grantAccess s = s := by
  simp [grantAccess, chosen_eq_none h]

theorem grantAccess_grants {s : State} {r : Requester} (hfree : s.port.access = none) (h : chosen s = some r) :
    grantAccess s = grantTo r s := by simp [grantAccess, hfree, h]

/-- A granted access is wanted (R172, R176, R178). -/
theorem formAccess_live {r : Requester} {s : State} (h : wants r s = true) (free : BitVec 512) :
    (formAccess r s free).status = .live := by
  cases r with
  | poll =>
    rw [wants_poll_iff] at h
    rw [formAccess]
    cases hp : s.port.poll with
    | idle => exact absurd hp h
    | _ => rfl
  | journal | order | report => rfl

/-- Settles O49: the arbiter's choice by class and turn, and what a grant changes. -/
theorem grantsFollowTheClasses : Obligations.GrantsFollowTheClasses := by
  unfold Obligations.GrantsFollowTheClasses
  intro s poll journal order report free
  have hpoll : wants .poll s = true ↔ poll := wants_poll_iff s
  have hjournal : wants .journal s = true ↔ journal := wants_journal_iff s
  have horder : wants .order s = true ↔ order := wants_order_iff s
  have hreport : wants .report s = true ↔ report := wants_report_iff s
  refine ⟨fun hidle => congrArg Host.Outcome.next ?_, fun hfree hwaits => ?_⟩
  · obtain htaken | ⟨nopoll, nojournal, noorder, noreport⟩ := hidle
    · exact grantAccess_taken htaken
    · refine grantAccess_idle fun r => ?_
      cases r with
      | poll => exact hpoll.not.mpr nopoll
      | journal => exact hjournal.not.mpr nojournal
      | order => exact horder.not.mpr noorder
      | report => exact hreport.not.mpr noreport
  · obtain ⟨q, hq⟩ : ∃ q, wants q s = true := by
      obtain h | h | h | h := hwaits
      exacts [⟨_, hpoll.mpr h⟩, ⟨_, hjournal.mpr h⟩, ⟨_, horder.mpr h⟩, ⟨_, hreport.mpr h⟩]
    obtain ⟨r, hr⟩ := exists_chosen hq
    have only {x : Requester} (h : chosen s = some x) : r = x := Option.some.inj (hr.symm.trans h)
    have hrest : { s with port := { s.port with access := none } } = s := by rw [← hfree]
    refine ⟨_, _, r, congrArg Host.Outcome.next (grantAccess_grants hfree hr), rfl, rfl, formAccess_live (chosen_wants r s hr) _,
      fun h => only ?_, fun h => only ?_, fun nopoll nojournal h => only ?_, fun nopoll nojournal h => only ?_, ?_, ?_, ?_, rfl, ?_⟩
    · obtain ⟨hp, hno⟩ | ⟨hp, -, hturn⟩ := h
      · exact chosen_poll (hpoll.mpr hp) fun hj => absurd (hjournal.mp hj) hno
      · exact chosen_poll (hpoll.mpr hp) fun _ => hturn
    · obtain ⟨hj, hno⟩ | ⟨hj, -, hturn⟩ := h
      · exact chosen_journal (hjournal.mpr hj) fun hp => absurd (hpoll.mp hp) hno
      · exact chosen_journal (hjournal.mpr hj) fun _ => hturn
    · have hlow := chosen_order (hpoll.not.mpr nopoll) (hjournal.not.mpr nojournal)
      obtain ⟨ho, hno⟩ | ⟨ho, -, hturn⟩ := h
      · exact hlow (horder.mpr ho) fun hp => absurd (hreport.mp hp) hno
      · exact hlow (horder.mpr ho) fun _ => hturn
    · have hlow := chosen_report (hpoll.not.mpr nopoll) (hjournal.not.mpr nojournal)
      obtain ⟨hp, hno⟩ | ⟨hp, -, hturn⟩ := h
      · exact hlow (hreport.mpr hp) fun ho => absurd (horder.mp ho) hno
      · exact hlow (hreport.mpr hp) fun _ => hturn
    · cases r <;> rfl
    · cases r <;> rfl
    · cases r <;> rfl
    · cases r <;> exact hrest

end Sys2Proof.Machine
end

section
/-!
PROOF. RegisterWrites: the writes to the registers (R169, R183).
-/
namespace Sys2Proof.Machine

/-! ### CONTROL (R169, R171) -/

theorem getLsbD_eq_true_iff {n : Nat} (v : BitVec n) (i : Nat) : v.getLsbD i = true ↔ v.toNat / 2 ^ i % 2 = 1 := by
  rw [BitVec.getLsbD, Nat.testBit_eq_decide_div_mod_eq, decide_eq_true_iff]

section
variable {v : BitVec 32}

theorem controlCommand_reset (h : v.toNat / 2 % 2 = 1) : controlCommand v = .softReset :=
  if_pos ((getLsbD_eq_true_iff v 1).mpr h)

theorem controlCommand_run (h : v.toNat / 2 % 2 = 0) :
    controlCommand v = if v.toNat % 2 = 1 then .runWritten1 else .runWritten0 := by
  have hreset : ¬ v.getLsbD 1 = true := (getLsbD_eq_true_iff v 1).not.mpr fun h1 => by
    rw [pow_one, h] at h1
    exact nomatch h1
  have hrun : v.getLsbD 0 = true ↔ v.toNat % 2 = 1 := by rw [getLsbD_eq_true_iff, pow_zero, Nat.div_one]
  rw [controlCommand, if_neg hreset]
  exact if_congr hrun rfl rfl

end

/-! ### BASE (R169) -/

section
variable {s : State} (v : BitVec 32)

theorem exec_baseWrite_refused (h : s.port.running = true ∨ accessPending s = true) : exec (.baseWrite v) s = .next s :=
  congrArg Host.Outcome.next (if_pos (Bool.or_eq_true_iff.mpr h))

theorem exec_baseWrite_taken (hrun : s.port.running = false) (hidle : accessPending s = false) :
    exec (.baseWrite v) s = .next { s with port := { s.port with base := BitVec.ofNat 16 (v.toNat >>> 16) } } :=
  congrArg Host.Outcome.next (if_neg (by simp [hrun, hidle]))

end

/-! ### The notice line (R183) -/

/-- Every bit of ATTENTION is that of a cause. -/
theorem exists_cause {i : Nat} (h : i < 9) : ∃ c : Cause, c.bitIndex = i := by
  interval_cases i
  exacts [⟨.order, rfl⟩, ⟨.journal, rfl⟩, ⟨.pass, rfl⟩, ⟨.link, rfl⟩, ⟨.alert, rfl⟩, ⟨.tube, rfl⟩, ⟨.chain, rfl⟩, ⟨.bus, rfl⟩,
    ⟨.reference, rfl⟩]

theorem and_ne_zero_iff (x y : BitVec 9) :
    x &&& y ≠ 0 ↔ ∃ c : Cause, x.getLsbD c.bitIndex = true ∧ y.getLsbD c.bitIndex = true := by
  constructor
  · intro hne
    by_contra hno
    refine hne (BitVec.eq_of_getLsbD_eq fun i hi => ?_)
    obtain ⟨c, rfl⟩ := exists_cause hi
    have hzero : (0 : BitVec 9).getLsbD c.bitIndex = false := BitVec.getLsbD_zero
    rw [BitVec.getLsbD_and, hzero, ← Bool.not_eq_true, Bool.and_eq_true_iff]
    exact fun h => hno ⟨c, h⟩
  · rintro ⟨c, hx, hy⟩ hzero
    have hbit := congrArg (BitVec.getLsbD · c.bitIndex) hzero
    rw [BitVec.getLsbD_and, hx, hy] at hbit
    exact nomatch hbit.trans BitVec.getLsbD_zero

theorem noticeLine_iff (s : State) :
    noticeLine s = true
      ↔ s.port.holdoff = .clear ∧ ∃ c : Cause, isPending c s = true ∧ s.port.mask.getLsbD c.bitIndex = true := by
  rw [noticeLine, Bool.and_eq_true_iff, beq_iff_eq, bne_iff_ne, and_ne_zero_iff]
  rfl

/-- Settles O27: each register takes its write by its own rule. -/
theorem registerWritesTakeEffect : Obligations.RegisterWritesTakeEffect := by
  unfold Obligations.RegisterWritesTakeEffect
  intro s v
  have hpending := accessPending_iff s
  refine ⟨⟨rfl, rfl, rfl, fun h => ?_, fun h hrun => ?_, fun h hrun => ?_, fun o h4 h8 h12 h16 => ?_, fun o c hc => ?_⟩,
    fun h => exec_baseWrite_refused v ?_, fun hrun hfree hpoll hwalker hreport => ?_, ?_, ?_⟩
  · exact congrArg some (controlCommand_reset h)
  · exact congrArg some ((controlCommand_run h).trans (if_pos hrun))
  · exact congrArg some ((controlCommand_run h).trans (if_neg (by omega)))
  · have hnone : writeCommand o v = none := by simp [writeCommand, h4, h8, h12, h16]
    rw [sendWrite, hnone]
    exact congrArg (fun q => { s with pending := q }) (List.append_nil s.pending)
  · rw [sendWrite, hc]
    rfl
  · obtain hrun | haccess | ⟨b, hb⟩ := h
    · exact .inl hrun
    · exact .inr (hpending.mpr (.inl haccess))
    · have horder : wants .order s = true := (wants_order_iff s).mpr (by simp [hb])
      exact .inr (hpending.mpr (.inr ⟨_, horder⟩))
  · have hidle : accessPending s = false := by
      rw [← Bool.not_eq_true, hpending]
      rintro (haccess | ⟨r, hr⟩)
      · exact haccess hfree
      · cases r with
        | poll => exact (wants_poll_iff s).mp hr hpoll
        | journal => simp [wants_journal_iff, hrun] at hr
        | order => exact ((wants_order_iff s).mp hr).1 hwalker
        | report => exact (wants_report_iff s).mp hr hreport
    refine ⟨_, exec_baseWrite_taken v hrun hidle, ?_⟩
    have hlt := v.isLt
    rw [BitVec.toNat_ofNat, Nat.shiftRight_eq_div_pow]
    omega
  · have hholdoff : startHoldoff s.port = if s.port.running = true then .nextPoll else .nextField := rfl
    refine ⟨_, rfl, ?_, hholdoff, fun i hi => ?_, rfl⟩
    · rw [← Bool.not_eq_true, noticeLine_iff]
      rintro ⟨hclear, -⟩
      have hclear : startHoldoff s.port = .clear := hclear
      rw [hholdoff] at hclear
      split at hclear <;> exact nomatch hclear
    · show (s.port.attention &&& ~~~(v.setWidth 9)).getLsbD i = _
      simp [hi]
  · refine ⟨_, rfl, fun i hi => ?_, rfl, ?_⟩
    · show (v.setWidth 9).getLsbD i = _
      simp [hi]
    · rw [noticeLine_iff]
      refine and_congr_right fun _ => exists_congr fun c => and_congr_right fun _ => ?_
      have hbit : c.bitIndex < 9 := by cases c <;> decide
      show (v.setWidth 9).getLsbD c.bitIndex = true ↔ _
      simp [hbit]

end Sys2Proof.Machine
end

section
/-!
PROOF. RegisterReads: what the registers read, and what a header write stores (R169, R172; Layouts, Registers and Header).
-/
namespace Sys2Proof.Machine

/-! ### Fields of a register beside its unnamed bits -/

theorem placeAll_zero (fields : List (Nat × Int)) : placeAll 0 fields = pack fields := by
  rw [placeAll_eq, pow_zero, Nat.one_mul]

/-- The unnamed bits of a register leave the bits outside their mask. -/
theorem bitsOf_or_unnamed (w mask : BitVec 32) (offset : Nat) {pos len : Nat} (h : mask.extractLsb' pos len = 0) :
    bitsOf (w ||| unnamed offset mask).toNat pos len = bitsOf w.toNat pos len := by
  simp only [bitsOf, ← BitVec.extractLsb'_toNat]
  rw [BitVec.extractLsb'_or, unnamed, BitVec.extractLsb'_and, h]
  simp

/-- A field of a register whose fields stand side by side from bit 0 up. -/
theorem register_field {w mask : BitVec 32} {offset k pos len : Nat} {v : Int} (fields : List (Nat × Int))
    (hw : w = BitVec.ofNat 32 (pack fields)) (hwidth : width fields ≤ 32) (hk : fields[k]? = some (len, v))
    (hpos : width (fields.take k) = pos) (hmask : mask.extractLsb' pos len = 0) :
    (w ||| unnamed offset mask).toNat / 2 ^ pos % 2 ^ len = (v % 2 ^ len).toNat := by
  have hlt : pack fields < 2 ^ 32 := (pack_lt fields).trans_le (Nat.pow_le_pow_right Nat.two_pos hwidth)
  rw [← Nat.shiftRight_eq_div_pow]
  refine (bitsOf_or_unnamed w mask offset hmask).trans ?_
  rw [hw, BitVec.toNat_ofNat, Nat.mod_eq_of_lt hlt]
  exact bitsOf_pack hk hpos

/-- IDENT from bit 0 up: the unit's number, the revision, and the last reset. -/
def identFields (s : State) : List (Nat × Int) := [(16, 340), (8, Config.revision), (2, s.port.resetKind.code)]

/-- CONTROL from bit 0 up: RUN, SOFT RESET, ACCESS, an unnamed bit, and the halt cause. -/
def controlFields (s : State) : List (Nat × Int) :=
  [(1, bit s.port.running), (1, 0), (1, bit (accessPending s)), (1, 0), (2, s.port.haltCause.code)]

section
variable (s : State)

theorem readIdent_eq : readIdent s = BitVec.ofNat 32 (pack (identFields s)) ||| unnamed 0 0xFC000000 := by
  rw [← placeAll_zero]
  simp only [readIdent, identFields, placeAll, Nat.reduceAdd, Nat.add_zero, Nat.add_assoc]
  rfl

theorem readControl_eq : readControl s = BitVec.ofNat 32 (pack (controlFields s)) ||| unnamed 8 0xFFFFFFC8 := by
  rw [← placeAll_zero]
  simp only [readControl, controlFields, placeAll, place_zero, Nat.reduceAdd, Nat.zero_add, Nat.add_zero, Nat.add_assoc]

theorem ident_field (k pos : Nat) {len : Nat} {v : Int} (hk : (identFields s)[k]? = some (len, v))
    (hpos : width ((identFields s).take k) = pos) (hmask : (0xFC000000 : BitVec 32).extractLsb' pos len = 0) :
    (readIdent s).toNat / 2 ^ pos % 2 ^ len = (v % 2 ^ len).toNat := by
  rw [readIdent_eq]
  exact register_field _ rfl (by simp [identFields, width]) hk hpos hmask

theorem control_field (k pos : Nat) {len : Nat} {v : Int} (hk : (controlFields s)[k]? = some (len, v))
    (hpos : width ((controlFields s).take k) = pos) (hmask : (0xFFFFFFC8 : BitVec 32).extractLsb' pos len = 0) :
    (readControl s).toNat / 2 ^ pos % 2 ^ len = (v % 2 ^ len).toNat := by
  rw [readControl_eq]
  exact register_field _ rfl (by simp [controlFields, width]) hk hpos hmask

/-- ATTENTION and NOTICE MASK hold their nine bits lowest. -/
theorem nine_bits (x : BitVec 9) (offset : Nat) : (x.zeroExtend 32 ||| unnamed offset 0xFFFFFE00).toNat / 2 ^ 0 % 2 ^ 9 = x.toNat := by
  rw [← Nat.shiftRight_eq_div_pow]
  refine (bitsOf_or_unnamed _ _ offset (by decide)).trans ?_
  have hlt := x.isLt
  rw [bitsOf, BitVec.toNat_setWidth, Nat.shiftRight_zero]
  omega

theorem readBase_toNat : (readBase s).toNat = s.port.base.toNat * 65536 := by
  rw [readBase, BitVec.toNat_append, Nat.shiftLeft_eq]
  exact Nat.or_zero _

theorem accessPending_iff_blocks :
    accessPending s = true
      ↔ s.port.access ≠ none ∨ s.port.poll ≠ .idle ∨ s.reports.waiting ≠ none
          ∨ (s.port.walker ≠ .idle ∧ ∀ b, s.port.walker ≠ .flight b .handed)
          ∨ (s.port.running = true ∧ s.journal.queue ≠ []
              ∧ ∃ x, s.journal.setting = some x ∧ (s.journal.fill - s.journal.taken).toNat < x.capacity) := by
  rw [← wants_poll_iff, ← wants_report_iff, ← wants_order_iff, ← wants_journal_iff, accessPending_iff]
  refine or_congr_right ⟨?_, ?_⟩
  · rintro ⟨r, hr⟩
    cases r <;> simp [hr]
  · rintro (h | h | h | h) <;> exact ⟨_, h⟩

theorem bit_eq_one (b : Bool) : bit b = 1 ↔ b = true := by cases b <;> simp [bit]

end

/-! ### The header (R172; Layouts, Header) -/

/-- A word's bytes, low byte first, by division. -/
theorem cellsOf_eq (address n w : Nat) :
    cellsOf address n w = (List.range n).map fun i => (address + i, BitVec.ofNat 8 (w / 256 ^ i)) := by
  unfold cellsOf
  refine List.map_congr_left fun i _ => ?_
  have hpow : 2 ^ (8 * i) = 256 ^ i := pow_mul 2 8 i
  rw [Nat.shiftRight_eq_div_pow, hpow]

/-- The header status from bit 0 up. -/
def statusFields (s : State) (free : BitVec 512) : List (Nat × Int) :=
  [(1, bit s.port.running), (3, passNumber s), (2, s.follower.record.mode.number), (1, bit s.light.rest),
    (1, bit (wearSaturated s)), (1, bit s.journal.lostFlag), (23, bitsOf free.toNat 0 23)]

/-- Header bytes 36 to 43 from bit 0 up: the wear total, and bytes that the layout leaves open. -/
def wearFields (s : State) (free : BitVec 512) : List (Nat × Int) := [(40, s.light.wear), (24, bitsOf free.toNat 23 24)]

theorem statusWord_eq (s : State) (free : BitVec 512) : statusWord s free = pack (statusFields s free) := by
  rw [← placeAll_zero]
  simp only [statusWord, statusFields, placeAll, Nat.reduceAdd, Nat.add_zero, Nat.add_assoc]

theorem status_field (s : State) (free : BitVec 512) (k pos : Nat) {len : Nat} {v : Int}
    (hk : (statusFields s free)[k]? = some (len, v)) (hpos : width ((statusFields s free).take k) = pos) :
    statusWord s free / 2 ^ pos % 2 ^ len = (v % 2 ^ len).toNat := by
  rw [statusWord_eq, ← Nat.shiftRight_eq_div_pow]
  exact bitsOf_pack hk hpos

theorem passNumber_lt (s : State) : passNumber s < 2 ^ 3 := by
  unfold passNumber
  cases publishedPass s with
  | none => decide
  | some x => cases x <;> decide

theorem mode_number_lt (m : FieldMode) : m.number < 2 ^ 2 := by cases m <;> simp [FieldMode.number]

/-- Settles O28: the registers and the header show the state, field by field. -/
theorem registersAndHeaderShowTheState : Obligations.RegistersAndHeaderShowTheState := by
  unfold Obligations.RegistersAndHeaderShowTheState
  intro s bits base bytes room
  refine ⟨⟨rfl, rfl, rfl, rfl, rfl, fun o h0 h4 h8 h12 h16 => by simp [readRegister, h0, h4, h8, h12, h16]⟩, ⟨?_, ?_, ?_⟩,
    readBase_toNat s, ⟨?_, ?_, ?_, ?_⟩, nine_bits .., nine_bits .., fun hpoll free => ?_⟩
  · exact ident_field s 0 0 rfl rfl (by decide)
  · refine le_of_le_of_eq ?_ (ident_field s 1 16 rfl rfl (by decide)).symm
    have hlt := Config.revisionLessOne.isLt
    rw [toNat_emod_natCast (by rw [Config.revision]; omega), Config.revision]
    omega
  · refine (ident_field s 2 24 rfl rfl (by decide)).trans ?_
    cases s.port.resetKind <;> rfl
  · exact (control_field s 0 0 rfl rfl (by decide)).trans (toNat_emod_bit _)
  · exact control_field s 1 1 rfl rfl (by decide)
  · refine (control_field s 4 4 rfl rfl (by decide)).trans ?_
    cases s.port.haltCause <;> rfl
  · have haccess : bits (readControl s) 2 1 = bit (accessPending s) :=
      (control_field s 2 2 rfl rfl (by decide)).trans (toNat_emod_bit _)
    rw [haccess, bit_eq_one, accessPending_iff_blocks]
  · have hform : formAccess .poll s free = ⟨.headerWrite, areaAddress s 8, headerCells s free, .live⟩ := by
      simp [formAccess, hpoll]
    have hframe : place 0 32 s.follower.record.frame = (s.follower.record.frame % 4294967296).toNat := by simp [place]
    have hbit {k pos : Nat} {b : Bool} (hk : (statusFields s free)[k]? = some (1, (bit b : Int)))
        (hpos : width ((statusFields s free).take k) = pos) : statusWord s free / 2 ^ pos % 2 = bit b :=
      (status_field s free k pos hk hpos).trans (toNat_emod_bit b)
    refine ⟨statusWord s free, pack (wearFields s free), ?_, ?_, ?_, ?_, hbit (k := 3) rfl rfl, ?_, hbit (k := 5) rfl rfl,
      fun hwear => ?_⟩
    · rw [hform, headerCells, hframe, ← placeAll_zero]
      simp only [cellsOf_eq]
      rfl
    · have hrun := hbit (k := 0) (pos := 0) (b := s.port.running) rfl rfl
      rwa [pow_zero, Nat.div_one] at hrun
    · refine ((status_field s free 1 1 rfl rfl).trans (toNat_emod_natCast (passNumber_lt s))).trans ?_
      rw [passNumber, publishedPass]
      cases s.pass.map Pass.state with
      | none => rfl
      | some x => cases x <;> rfl
    · refine ((status_field s free 2 4 rfl rfl).trans (toNat_emod_natCast (mode_number_lt _))).trans ?_
      cases s.follower.record.mode <;> rfl
    · have hfull := hbit (k := 4) (pos := 7) (b := wearSaturated s) rfl rfl
      have htop : wearSaturated s = true ↔ s.light.wear = 2 ^ 40 - 1 := beq_iff_eq
      exact (iff_of_eq (congrArg (· = 1) hfull)).trans ((bit_eq_one _).trans htop)
    · have hlow := bitsOf_pack (fields := wearFields s free) (k := 0) (pos := 0) rfl rfl
      exact hlow.trans (toNat_emod_natCast hwear)

end Sys2Proof.Machine
end

section
/-!
PROOF. JournalOrders: SET JOURNAL, SET REPORTS and MARK as they are taken, and offered entries (R179, R181, R182, R184).
-/
namespace Sys2Proof.Machine

/-! ### What the parameters ask (R181, R182) -/

theorem journalCapacity_iff (n : Nat) :
    [16, 32, 64, 128, 256, 512, 1024, 2048, 4096].contains n = true ↔ ∃ k, 4 ≤ k ∧ k ≤ 12 ∧ n = 2 ^ k := by
  rw [List.contains_iff_mem]
  constructor
  · intro h
    simp only [List.mem_cons, List.not_mem_nil, or_false] at h
    obtain rfl | rfl | rfl | rfl | rfl | rfl | rfl | rfl | rfl := h
    exacts [⟨4, by decide⟩, ⟨5, by decide⟩, ⟨6, by decide⟩, ⟨7, by decide⟩, ⟨8, by decide⟩, ⟨9, by decide⟩, ⟨10, by decide⟩,
      ⟨11, by decide⟩, ⟨12, by decide⟩]
  · rintro ⟨k, hlow, hhigh, rfl⟩
    interval_cases k <;> decide

theorem journalArgs_inRange_iff (a : JournalSet) :
    a.inRange = true
      ↔ (∃ k, 4 ≤ k ∧ k ≤ 12 ∧ a.capacity = 2 ^ k) ∧ (1 ≤ a.threshold ∧ a.threshold ≤ a.capacity) ∧ 64 ≤ a.offset
          ∧ OffsetOk a.offset (32 * a.capacity) := by
  have hwindow : Config.windowSize = 1048576 := rfl
  simp only [JournalSet.inRange, Bool.and_eq_true, decide_eq_true_eq, beq_iff_eq, journalCapacity_iff]
  rw [hwindow]
  tauto

theorem reportArgs_inRange_iff (a : ReportSet) :
    a.inRange = true ↔ (2 ≤ a.slots ∧ a.slots ≤ 64) ∧ 64 ≤ a.offset ∧ OffsetOk a.offset (32 * a.slots) := by
  have hwindow : Config.windowSize = 1048576 := rfl
  simp only [ReportSet.inRange, Bool.and_eq_true, decide_eq_true_eq, beq_iff_eq]
  rw [hwindow]
  tauto

/-! ### An access in progress under new settings (R181, R182) -/

theorem detachJournal_journal {a : Access} {pops advances : Bool} (h : a.kind = .journal pops advances) :
    detachJournal a = { a with kind := .journal pops false } := by simp [detachJournal, h]

theorem detachJournal_other {a : Access} (h : ∀ p v, a.kind ≠ .journal p v) : detachJournal a = a := by
  unfold detachJournal
  cases hk : a.kind with
  | journal p v => exact absurd hk (h p v)
  | _ => rfl

theorem isReport_iff (k : AccessKind) : k.isReport = true ↔ ∃ n, k = .report n := by cases k <;> simp [AccessKind.isReport]

theorem map_access_self {f : Access → Access} {x : Option Access} (h : ∀ a, x = some a → f a = a) : x.map f = x := by
  cases x with
  | none => rfl
  | some a => exact congrArg some (h a rfl)

section
variable {p : Port}

theorem detachReport_other (h : ∀ a n, p.access = some a → a.kind ≠ .report n) : detachReport p = p := by
  have hsame : (p.access.map fun a => if a.kind.isReport then a.giveUp else a) = p.access :=
    map_access_self fun a ha => if_neg fun hreport => by
      obtain ⟨n, hn⟩ := (isReport_iff a.kind).mp hreport
      exact h a n ha hn
  rw [detachReport, hsame]

theorem detachReport_report {a : Access} {n : Nat} (ha : p.access = some a) (h : a.kind = .report n) :
    detachReport p = { p with access := some a.giveUp } := by
  rw [detachReport, ha, Option.map_some, if_pos ((isReport_iff a.kind).mpr ⟨n, h⟩)]

end

/-! ### The orders as they are taken -/

section
variable {b : OrderBlock} {s : State}

theorem exec_setJournal (h : Handed s b 96) : exec .setJournal s = .next (takeSetJournal b s) := next_withOrder h _

theorem exec_setReports (h : Handed s b 97) : exec .setReports s = .next (takeSetReports b s) := next_withOrder h _

theorem takeSetJournal_passActive (h : s.pass ≠ none) : takeSetJournal b s = finish b .passActive 0 s :=
  if_pos ((passExists_iff s).mpr h)

theorem takeSetJournal_range (hpass : s.pass = none) (h : ¬ (journalArgs b).inRange = true) :
    takeSetJournal b s = finish b .range 0 s := by simp [takeSetJournal, hpass, h]

theorem takeSetJournal_new (hpass : s.pass = none) (h : (journalArgs b).inRange = true) :
    takeSetJournal b s = finish b .ok 0 (newJournal (journalArgs b) s) := by simp [takeSetJournal, hpass, h]

theorem takeSetReports_range (h : 1 < param b 17 1 ∨ (param b 17 1 = 1 ∧ ¬ (reportArgs b).inRange = true)) :
    takeSetReports b s = finish b .range 0 s := by
  obtain hcode | ⟨hon, hrange⟩ := h
  · simp [takeSetReports, flagCode_eq_none.mpr (not_le.mpr hcode)]
  · simp [takeSetReports, flagCode, hon, hrange]

/-- Reports are turned off, or on with no slot written yet (R182). -/
theorem takeSetReports_set (h : param b 17 1 = 0 ∨ (param b 17 1 = 1 ∧ (reportArgs b).inRange = true)) :
    takeSetReports b s
      = finish b .ok 0
          { s with
            port := detachReport s.port
            reports :=
              if param b 17 1 = 0 then { s.reports with setting := none, waiting := none }
              else ⟨some (reportArgs b), 65535, none⟩ } := by
  obtain hoff | ⟨hon, hrange⟩ := h
  · simp [takeSetReports, flagCode, hoff]
  · simp [takeSetReports, flagCode, hon, hrange, Config.noReportSlot]

end

/-! ### Offered entries (R179) -/

section
variable {s : State} (e : Entry)

theorem offer_discarded (h : s.journal.setting = none) : offer e s = s := by simp [offer, h]

theorem offer_joins (h : s.journal.setting ≠ none) (hroom : s.journal.queue.length < 8) :
    offer e s = { s with journal := { s.journal with queue := s.journal.queue ++ [e] } } := by
  simp [offer, h, hroom, Config.stagingCapacity]

theorem offer_dropped (h : s.journal.setting ≠ none) (hfull : 8 ≤ s.journal.queue.length) :
    offer e s = { s with journal := { s.journal with lost := min 65535 (s.journal.lost + 1), lostFlag := true } } := by
  have hno : ¬ s.journal.queue.length < Config.stagingCapacity := not_lt.mpr hfull
  simp [offer, h, hno, Config.countTop]

end

theorem exec_finalWriteComplete {s : State} {a : Access} {b : OrderBlock} {r : Result} (h : Live s a .finalWrite)
    (hw : s.port.walker = .flight b (.finishing r)) : exec .finalWriteComplete s = .next (closeBlock b (endAccess a s)) :=
  (next_complete_live h _ _).trans (congrArg Host.Outcome.next (afterFinal_eq (s := endAccess a s) hw))

/-- Settles O23: the checks of each order in turn, what an accepted one leaves of the access in progress, and offered entries. -/
theorem journalReportsAndMark : Obligations.JournalReportsAndMark := by
  unfold Obligations.JournalReportsAndMark
  refine ⟨fun s b hb => ?_, fun s b hb => ?_, fun s b hb => ⟨next_withOrder hb _, fun a u hw h hnotify => ?_⟩, fun s e => ?_⟩
  · intro offset capacity threshold ok new
    have hok : (journalArgs b).inRange = true ↔ ok := journalArgs_inRange_iff (journalArgs b)
    rw [exec_setJournal hb]
    refine ⟨fun hpass => ?_, fun hpass hno => ?_, fun hpass hyes => ?_⟩
    · rw [takeSetJournal_passActive hpass]
    · rw [takeSetJournal_range hpass (hok.not.mpr hno)]
    · rw [takeSetJournal_new hpass (hok.mpr hyes), newJournal]
      refine ⟨fun hother => ?_, fun a p v ha hk => ?_⟩
      · rw [map_access_self fun a ha => detachJournal_other fun p v => hother a p v ha]
        rfl
      · rw [ha, Option.map_some, detachJournal_journal hk]
        rfl
  · intro offset slots on ok
    have hok : (reportArgs b).inRange = true ↔ ok := reportArgs_inRange_iff (reportArgs b)
    rw [exec_setReports hb, ← hok]
    refine ⟨fun h => by rw [takeSetReports_range h], fun h => ?_⟩
    intro new
    rw [takeSetReports_set h]
    refine ⟨fun hother => ?_, fun a n ha hk => ?_⟩
    · rw [detachReport_other hother]
      rfl
    · rw [detachReport_report ha hk]
      rfl
  · refine ⟨_, exec_finalWriteComplete h hw, ?_⟩
    rw [closeBlock, if_pos hnotify]
    exact isPending_raise ..
  · exact ⟨offer_discarded e, offer_joins e, offer_dropped e⟩

end Sys2Proof.Machine
end

section
/-!
PROOF. RunAndResets: what the resets and the writes to RUN leave of the part (R23, R41, R63, R66, R84, R86, R110, R111, R126 to R128,
R147, R148, R168, R170, R171, R183).
-/
namespace Sys2Proof.Machine

/-! ### Power-on and board resets -/

/-- What a power-on and a board reset have in common: they differ in the reset kind, the looks and the wear total. -/
def cleared (kind : ResetKind) (table : LookTable) (wear : Nat) (s : State) : State :=
  { powerOn s with port := resetPort kind 0 0 s.port, table := table, light := { Light.reset with wear := wear } }

theorem powerOn_eq (s : State) : powerOn s = cleared .power LookTable.reset 0 s := rfl

theorem boardReset_eq (s : State) : boardReset s = cleared .board (unlockAll s.table) s.light.wear s := rfl

theorem linkOf_cleared (kind : ResetKind) (table : LookTable) (wear : Nat) (s : State) (l : Link) :
    linkOf l (cleared kind table wear s) = LinkRec.reset := linkOf_reset l

theorem routes_cleared (kind : ResetKind) (table : LookTable) (wear : Nat) (s : State) (g : Fin 16) :
    (cleared kind table wear s).routes[g.val] = Route.invalid := Vector.getElem_replicate _

/-- Settles O24: both resets clear the part in the same way, but for the reset kind, the looks and the wear total. -/
theorem powerAndBoardResetsClear : Obligations.PowerAndBoardResetsClear := by
  unfold Obligations.PowerAndBoardResetsClear
  intro s isCleared
  have hcleared (kind : ResetKind) (table : LookTable) (wear : Nat) : isCleared (cleared kind table wear s) := by
    refine ⟨rfl, rfl, ?_, rfl, ?_, ?_, rfl, routes_cleared kind table wear s, fun l => ?_, ?_, rfl, rfl, rfl⟩
    · exact ⟨rfl, rfl, rfl, rfl, rfl, rfl, rfl, rfl, rfl, rfl, rfl, rfl⟩
    · exact ⟨rfl, rfl, rfl, rfl⟩
    · exact ⟨rfl, rfl, rfl, rfl, rfl, rfl, rfl, rfl, rfl, rfl, rfl, rfl, rfl, rfl⟩
    · rw [linkOf_cleared]
      exact ⟨rfl, rfl, rfl, rfl, rfl, rfl, rfl, rfl, rfl, rfl, rfl, rfl, rfl, rfl, rfl, rfl, rfl, rfl⟩
    · exact ⟨rfl, rfl, rfl, rfl, rfl, rfl, rfl, rfl, rfl, rfl, rfl, rfl, rfl, rfl⟩
  exact ⟨⟨_, congrArg Host.Outcome.next (powerOn_eq s), hcleared .power LookTable.reset 0, rfl, rfl, rfl, lookAt_reset⟩,
    ⟨_, congrArg Host.Outcome.next (boardReset_eq s), hcleared .board (unlockAll s.table) s.light.wear, rfl, rfl, rfl,
      lookAt_unlockAll s.table⟩⟩

/-! ### Links at a halt and at a soft reset (R132, R146 to R148) -/

theorem resetQueue_eq (r : LinkRec) :
    resetQueue r
      = r.queue.take 1
        ++ (if r.state = .down then []
            else if r.state = .rolling ∨ r.state = .recording then [.out, .standby] else [.standby]) := by
  refine congrArg (r.queue.take 1 ++ ·) (if_congr Iff.rfl rfl ?_)
  exact if_congr (rollsOrRecords_iff r.state) rfl rfl

/-- Settles O25: each block's rule, put together. -/
theorem softResetKeepsSettings : Obligations.SoftResetKeepsSettings := by
  unfold Obligations.SoftResetKeepsSettings
  intro s down
  have hdown : softRec = down := funext fun r =>
    congrArg (fun q => { down r with queue := q }) (resetQueue_eq r)
  have hlinks : s.links.map softRec = ⟨down s.links.a, down s.links.b, down s.links.c⟩ := by rw [hdown]; rfl
  refine congrArg Host.Outcome.next ?_
  rw [softReset, hlinks]
  rfl

/-! ### Writes to RUN (R171) -/

theorem afterRunChange_eq (x : Holdoff) : x.afterRunChange = if x = .clear then .clear else .nextField := by cases x <;> rfl

theorem liveIs_iff (k : AccessKind) (p : Port) :
    liveIs k p = true ↔ ∃ a, p.access = some a ∧ a.status = .live ∧ a.kind = k := by
  rw [liveIs, Option.any_eq_true]
  simp only [Bool.and_eq_true, beq_iff_eq]

section
variable {p : Port} {b : OrderBlock}

theorem haltWalker_taking {h : Bool} (hw : p.walker = .taking b h) :
    haltWalker p = if liveIs .takenWrite p = true then .taking b true else .idle := by simp [haltWalker, hw]

theorem haltWalker_closing {n : Nat} {h : Bool} (hw : p.walker = .closing b n h) :
    haltWalker p = if liveIs .abortedWrite p = true then .closing b n true else .idle := by simp [haltWalker, hw]

theorem haltWalker_finishing {r : Result} (hw : p.walker = .flight b (.finishing r)) :
    haltWalker p = if liveIs .finalWrite p = true then .flight b (.finishing r) else .aborting b := by simp [haltWalker, hw]

theorem haltWalker_flight {q : Progress} (hw : p.walker = .flight b q) (hq : ∀ r, q ≠ .finishing r) :
    haltWalker p = .aborting b := by
  cases q with
  | finishing r => exact absurd rfl (hq r)
  | _ => simp [haltWalker, hw]

end

section
variable {a : Access}

theorem haltAccess_journal {p v : Bool} (h : a.kind = .journal p v) : haltAccess a = { a with kind := .journal false v } := by
  simp [haltAccess, h]

theorem haltAccess_lands (h : a.kind = .takenWrite ∨ a.kind = .abortedWrite ∨ a.kind = .finalWrite ∨ ∃ n, a.kind = .report n) :
    haltAccess a = a := by
  obtain h | h | h | ⟨n, h⟩ := h <;> simp [haltAccess, h]

theorem haltAccess_given_up (hjournal : ∀ p v, a.kind ≠ .journal p v) (htaken : a.kind ≠ .takenWrite)
    (haborted : a.kind ≠ .abortedWrite) (hfinal : a.kind ≠ .finalWrite) (hreport : ∀ n, a.kind ≠ .report n) :
    haltAccess a = a.giveUp := by
  unfold haltAccess
  cases hk : a.kind with
  | journal p v => exact absurd hk (hjournal p v)
  | takenWrite => exact absurd hk htaken
  | abortedWrite => exact absurd hk haborted
  | finalWrite => exact absurd hk hfinal
  | report n => exact absurd hk (hreport n)
  | _ => rfl

end

/-- Settles O26: the state that holds stays, RUN 1 sets the part running, and RUN 0 halts every block. -/
theorem runWritesStartAndHalt : Obligations.RunWritesStartAndHalt := by
  unfold Obligations.RunWritesStartAndHalt
  intro s
  refine ⟨fun hrun => congrArg Host.Outcome.next (if_pos hrun), fun hhalted => ?_,
    fun hhalted => congrArg Host.Outcome.next (if_neg (by simp [hhalted])), fun hrun => ?_⟩
  · refine congrArg Host.Outcome.next ((if_neg (by simp [hhalted])).trans ?_)
    rw [runPart, afterRunChange_eq]
  · intro down granted
    have hdown : haltRec = down := funext fun r => congrArg (fun q => { down r with queue := q }) (resetQueue_eq r)
    have hlinks : s.links.map haltRec = ⟨down s.links.a, down s.links.b, down s.links.c⟩ := by rw [hdown]; rfl
    have hgranted (k : AccessKind) : liveIs k s.port = true ↔ granted k := liveIs_iff k s.port
    refine ⟨haltWalker s.port, s.port.access.map haltAccess, ?_, fun hw => ?_, fun o n hw => ?_, fun b h hw => ?_, fun b n h hw => ?_,
      fun b r hw => ?_, fun b q hw hq => haltWalker_flight hw hq, fun b hw => ?_, fun ha => ?_, fun a ha => ?_⟩
    · refine congrArg Host.Outcome.next ((if_pos hrun).trans ?_)
      rw [haltPart, haltPort, hlinks, afterRunChange_eq]
      rfl
    · simp [haltWalker, hw]
    · simp [haltWalker, hw]
    · rw [haltWalker_taking hw, ← hgranted]
      exact ⟨fun hyes => if_pos hyes, fun hno => if_neg hno⟩
    · rw [haltWalker_closing hw, ← hgranted]
      exact ⟨fun hyes => if_pos hyes, fun hno => if_neg hno⟩
    · rw [haltWalker_finishing hw, ← hgranted]
      exact ⟨fun hyes => if_pos hyes, fun hno => if_neg hno⟩
    · simp [haltWalker, hw]
    · rw [ha]
      rfl
    · rw [ha, Option.map_some]
      exact ⟨fun p v hk => congrArg some (haltAccess_journal hk), fun hk => congrArg some (haltAccess_lands hk),
        fun h1 h2 h3 h4 h5 => congrArg some (haltAccess_given_up h1 h2 h3 h4 h5)⟩

end Sys2Proof.Machine
end

section
/-!
PROOF. AccessBytes: where each access goes and the bytes that it stores (R18, R20, R38, R173 to R176, R180, R182; Layouts, Journal entry
and Order block).
-/
namespace Sys2Proof.Machine

/-! ### The fields of a journal entry -/

/-- A journal entry's fields from bit 0 up (Layouts, Journal entry). -/
def entryFields (e : Entry) (seq : Nat) (free : BitVec 512) : List (Nat × Int) :=
  [(8, e.kind.number), (8, ((e.link.map linkCode).getD 0 : Nat)), (1, bit e.timecode.isSome), (1, bit e.regained),
    (14, bitsOf free.toNat 0 14), (32, e.frame), (32, e.field.toNat), (32, (e.timecode.getD 0 : Nat)), (16, e.scene), (16, seq),
    (32, e.value1), (32, e.value2)]

/-- The lengths of a journal entry's fields, from bit 0 up. -/
def entryLengths : List Nat := [8, 8, 1, 1, 14, 32, 32, 32, 16, 16, 32, 32]

section
variable (e : Entry) (seq : Nat) (free : BitVec 512)

theorem entryFields_lengths : (entryFields e seq free).map Prod.fst = entryLengths := rfl

theorem encodeEntry_eq : encodeEntry e seq free = pack (entryFields e seq free) := by
  rw [← placeAll_zero]
  simp only [encodeEntry, entryFields, placeAll, Nat.reduceAdd, Nat.add_zero, Nat.add_assoc]

variable {e seq free}

/-- The bits at a field's place in an entry are the field. -/
theorem entry_field (k pos : Nat) {len : Nat} {v : Int} (hk : (entryFields e seq free)[k]? = some (len, v))
    (hpos : (entryLengths.take k).sum = pos) : encodeEntry e seq free / 2 ^ pos % 2 ^ len = (v % 2 ^ len).toNat := by
  rw [← Nat.shiftRight_eq_div_pow, encodeEntry_eq]
  exact bitsOf_pack hk (by rw [width_eq_sum, List.map_take, entryFields_lengths, hpos])

theorem entry_natCast (k pos : Nat) {len n : Nat} (hk : (entryFields e seq free)[k]? = some (len, (n : Int)))
    (hpos : (entryLengths.take k).sum = pos) (hn : n < 2 ^ len) : encodeEntry e seq free / 2 ^ pos % 2 ^ len = n := by
  rw [entry_field k pos hk hpos, toNat_emod_natCast hn]

/-- An entry's last four bytes are 0. -/
theorem entry_top : encodeEntry e seq free / 2 ^ 224 = 0 := by
  have hlt := pack_lt (entryFields e seq free)
  rw [width_eq_sum, entryFields_lengths] at hlt
  rw [encodeEntry_eq]
  exact Nat.div_eq_of_lt hlt

end

theorem entryKind_number_lt (k : EntryKind) : k.number < 2 ^ 8 := by cases k <;> decide

theorem linkCode_getD (l : Option Link) :
    (l.map linkCode).getD 0 < 2 ^ 8
      ∧ (l.map linkCode).getD 0 = (match l with | none => 0 | some .a => 1 | some .b => 2 | some .c => 4) := by
  cases l with
  | none => exact ⟨by decide, rfl⟩
  | some l => cases l <;> exact ⟨by decide, rfl⟩

/-! ### The journal's access (R180) -/

section
variable {s : State}

theorem exec_grant_journal {x : JournalSet} {e : Entry} {rest : List Entry} (hset : s.journal.setting = some x)
    (hqueue : s.journal.queue = e :: rest) (hrun : s.port.running = true) (hfree : s.port.access = none)
    (hpoll : s.port.poll = .idle) (hroom : (s.journal.fill - s.journal.taken).toNat < x.capacity) :
    exec .accessGrant s = .next (grantTo .journal s) := by
  have hwants : wants .journal s = true := (wants_journal_iff s).mpr ⟨hrun, by simp [hqueue], x, hset, hroom⟩
  have hnopoll : ¬ wants .poll s = true := fun h => (wants_poll_iff s).mp h hpoll
  exact congrArg Host.Outcome.next (grantAccess_grants hfree (chosen_journal hwants fun h => absurd h hnopoll))

theorem journalCells_entry {x : JournalSet} {e : Entry} {rest : List Entry} (hset : s.journal.setting = some x)
    (hqueue : s.journal.queue = e :: rest) (free : BitVec 512) :
    journalCells s free
      = (areaAddress s (journalSlot x s.journal.fill),
          cellsOf (areaAddress s (journalSlot x s.journal.fill)) 32 (encodeEntry e s.journal.fill.toNat free)) := by
  simp [journalCells, hset, hqueue]

theorem progressKind_not_journal (p : Progress) {k : AccessKind} (h : progressKind p = some k) : k.isJournal = false := by
  cases p <;> cases h <;> rfl

/-- Only the journal's own request makes a slot write. -/
theorem formAccess_not_journal {r : Requester} (hr : r ≠ .journal) (s : State) (free : BitVec 512) :
    (formAccess r s free).kind.isJournal = false := by
  cases r with
  | journal => exact absurd rfl hr
  | report => rfl
  | poll =>
    rw [formAccess]
    cases s.port.poll <;> rfl
  | order =>
    show ((walkerKind s.port.walker).getD .blockRead).isJournal = false
    cases s.port.walker with
    | flight b p =>
      cases hp : progressKind p with
      | none => simp [walkerKind, hp, AccessKind.isJournal]
      | some k => simpa [walkerKind, hp] using progressKind_not_journal p hp
    | _ => rfl

end

/-! ### The walker's accesses (R173 to R176) -/

theorem areaAddress_zero (s : State) : areaAddress s 0 = s.port.base.toNat * 65536 := Nat.add_zero _

theorem outcomeWord_eq {r : Result} (h : r.detail ≤ 65535) :
    outcomeWord r = r.outcome.blockState + 65536 * r.outcome.number + 2 ^ 32 * r.detail := by
  have hstate : r.outcome.blockState < 2 ^ 16 := by cases r.outcome <;> decide
  have hnumber : r.outcome.number < 2 ^ 16 := by cases r.outcome <;> decide
  have hdetail : r.detail < 2 ^ 16 := by omega
  have hpack : outcomeWord r = pack [(16, r.outcome.blockState), (16, r.outcome.number), (16, r.detail)] := by
    rw [← placeAll_zero]
    simp only [outcomeWord, placeAll, Nat.reduceAdd, Nat.add_zero, Nat.add_assoc]
  rw [hpack]
  simp only [pack, toNat_emod_natCast hstate, toNat_emod_natCast hnumber, toNat_emod_natCast hdetail]
  omega

/-- Settles O50: each access is formed as its block's layout places it. -/
theorem accessesStoreTheirBytes : Obligations.AccessesStoreTheirBytes := by
  unfold Obligations.AccessesStoreTheirBytes
  intro s free base bytes room
  refine ⟨fun x e rest hset hqueue hrun hfree hpoll hroom => ?_, fun x hset hfull hfree => ?_, fun h => ?_, fun h => ?_,
    fun o n hw => ?_, fun b h hw => ?_, fun b r hw hdetail => ?_, fun b hw => ?_, fun b i r hw => ?_, fun b run hw => ?_,
    fun b run x hw hleft hx => ?_, fun b run i hw hi => ?_, fun x hx => ?_⟩
  · intro slot
    have hcells := journalCells_entry hset hqueue (Config.freeBits s.freeIndex)
    refine ⟨_, encodeEntry e s.journal.fill.toNat (Config.freeBits s.freeIndex),
      exec_grant_journal hset hqueue hrun hfree hpoll hroom, ?_, ?_, ?_, ?_, ?_, ?_, ?_, ?_, ?_, ?_, ?_, ?_, ?_, entry_top⟩
    · show some (formAccess .journal s (Config.freeBits s.freeIndex)) = _
      rw [formAccess, hcells]
      simp only [cellsOf_eq]
      rfl
    · have hkind := entry_natCast (e := e) (seq := s.journal.fill.toNat) (free := Config.freeBits s.freeIndex) 0 0 rfl rfl
        (entryKind_number_lt e.kind)
      rwa [pow_zero, Nat.div_one] at hkind
    · exact (entry_natCast 1 8 rfl rfl (linkCode_getD e.link).1).trans (linkCode_getD e.link).2
    · exact (entry_field 2 16 rfl rfl).trans (toNat_emod_bit _)
    · exact (entry_field 3 17 rfl rfl).trans (toNat_emod_bit _)
    · exact entry_field 5 32 rfl rfl
    · exact entry_natCast 6 64 rfl rfl e.field.isLt
    · intro hnone
      have hzero : e.timecode.getD 0 = 0 := by rw [hnone]; rfl
      exact (entry_natCast 7 96 rfl rfl (by rw [hzero]; decide)).trans hzero
    · intro tc htc hlt
      have hcode : e.timecode.getD 0 = tc := by rw [htc]; rfl
      exact (entry_natCast 7 96 rfl rfl (by rwa [hcode])).trans hcode
    · exact fun hscene => entry_natCast 8 128 rfl rfl (Nat.lt_succ_of_le hscene)
    · exact entry_natCast 9 144 rfl rfl s.journal.fill.isLt
    · exact entry_field 10 160 rfl rfl
    · exact entry_field 11 192 rfl rfl
  · refine ⟨_, rfl, fun a p v ha hk => ?_⟩
    obtain he | ⟨r, -, hr, he⟩ := grantAccess_cases s
    · rw [he, hfree] at ha
      exact nomatch ha
    · rw [he] at ha
      have hother : r ≠ .journal := by
        rintro rfl
        obtain ⟨-, -, y, hy, hroom⟩ := (wants_journal_iff s).mp (chosen_wants _ s hr)
        cases hset.symm.trans hy
        exact hfull hroom
      have hno := formAccess_not_journal hother s (Config.freeBits s.freeIndex)
      cases ha
      rw [hk] at hno
      exact nomatch hno
  · simp only [formAccess, h, areaAddress_zero, base]
  · simp only [formAccess, h]
    rfl
  · simp only [formAccess, walkerCells, hw]
    rfl
  · simp only [formAccess, walkerCells, hw, cellsOf_eq]
    rfl
  · simp only [formAccess, walkerCells, hw, progressCells, cellsOf_eq, outcomeWord_eq hdetail]
    cases r.outcome <;> rfl
  · have haborted : outcomeWord ⟨.aborted, 0⟩ = 5 + 65536 * 14 := rfl
    obtain hw | ⟨n, h, hw⟩ := hw <;> simp only [formAccess, walkerCells, hw, cellsOf_eq, haborted] <;> rfl
  · simp only [formAccess, walkerCells, hw, progressCells, cellsOf_eq]
    rfl
  · simp only [formAccess, walkerCells, hw, progressCells]
    rfl
  · have hnext : nextRecord run s = some x := (if_pos hleft).trans hx
    simp only [formAccess, walkerCells, hw, progressCells, hnext, cellsOf_eq]
    rfl
  · have hindex : Fin.ofNat 64 (run.first + run.written) = i := Fin.ext ((congrArg (· % 64) hi).symm.trans (Nat.mod_eq_of_lt i.isLt))
    rw [formAccess_lookSlot hw, hindex, cellsOf_eq]
    rfl
  · simp only [formAccess, reportCells, hx, cellsOf_eq]
    rfl

end Sys2Proof.Machine
end

section
/-!
PROOF. BusErrors: what a bus error does by what its access was for, while RUNNING and while HALTED (R170, R177).
-/
namespace Sys2Proof.Machine

/-! ### The rows of R177's table -/

/-- The walker makes this kind of access to an order block (R176). -/
def WalkKind (k : AccessKind) : Prop :=
  k = .blockRead ∨ k = .takenWrite ∨ k = .abortedWrite ∨ k = .resultIndex ∨ k = .finalWrite

/-- The access is to the header, to a link or to an order block. -/
def PortKind (k : AccessKind) : Prop := WalkKind k ∨ k = .headerRead ∨ k = .headerWrite ∨ k = .linkRead

theorem isBlock_iff (k : AccessKind) : k.isBlock = true ↔ WalkKind k := by
  simp only [AccessKind.isBlock, WalkKind, Bool.or_eq_true, beq_iff_eq, or_assoc]

theorem errorClass_port {k : AccessKind} (h : PortKind k) : errorClass k = .port := by
  obtain (rfl | rfl | rfl | rfl | rfl) | rfl | rfl | rfl := h <;> rfl

theorem errorClass_data {k : AccessKind} (h : ¬ (PortKind k ∨ (∃ p v, k = .journal p v) ∨ ∃ n, k = .report n)) :
    errorClass k = .data := by
  cases k with
  | journal p v => exact absurd (.inr (.inl ⟨p, v, rfl⟩)) h
  | report n => exact absurd (.inr (.inr ⟨n, rfl⟩)) h
  | sceneFetch | loadFetch | lookFetch | sceneSlot | lookSlot => rfl
  | _ => exact absurd (.inl (by simp [PortKind, WalkKind])) h

/-! ### What the error leaves -/

section
variable {s : State} {a : Access}

theorem letBlockBe_walk (hlive : a.status = .live) (hwalk : WalkKind a.kind) (s : State) : letBlockBe a s = setWalker .idle s :=
  if_pos ⟨hlive, (isBlock_iff a.kind).mpr hwalk⟩

theorem letBlockBe_other (h : ¬ (a.status = .live ∧ WalkKind a.kind)) (s : State) : letBlockBe a s = s :=
  if_neg fun hblock => h ⟨hblock.1, (isBlock_iff a.kind).mp hblock.2⟩

theorem letBlockBe_running (a : Access) (s : State) : (letBlockBe a s).port.running = s.port.running := by
  unfold letBlockBe
  split <;> rfl

theorem exec_busError_forgotten (ha : s.port.access = some a) (hs : a.status = .forgotten) :
    exec .busError s = .next (dropAccess s) := by
  refine congrArg Host.Outcome.next ?_
  simp [busErrorNow, ha, hs]

theorem exec_busError_running (ha : s.port.access = some a) (hs : a.status ≠ .forgotten) (hrun : s.port.running = true) :
    exec .busError s = .next (errorRunning a (dropAccess s)) := by
  refine congrArg Host.Outcome.next ?_
  simp [busErrorNow, ha, hs, hrun]

theorem exec_busError_halted (ha : s.port.access = some a) (hs : a.status ≠ .forgotten) (hhalted : s.port.running = false) :
    exec .busError s = .next (errorHalted a (dropAccess s)) := by
  refine congrArg Host.Outcome.next ?_
  simp [busErrorNow, ha, hs, hhalted]

theorem errorRunning_data (hk : errorClass a.kind = .data) (hlive : a.status = .live) (s : State) :
    errorRunning a s = dataFault s := by simp [errorRunning, hk, hlive]

theorem errorRunning_data_unused (hk : errorClass a.kind = .data) (hlive : a.status ≠ .live) (s : State) : errorRunning a s = s := by
  simp [errorRunning, hk, hlive]

/-- A failed header, link, order-block or journal access halts the part (R177). -/
theorem errorRunning_halts (hk : PortKind a.kind ∨ ∃ p v, a.kind = .journal p v) (s : State) :
    errorRunning a s = haltPart .bus (raise .bus (letBlockBe a s)) := by
  obtain hk | ⟨p, v, hk⟩ := hk
  · simp [errorRunning, errorClass_port hk]
  · have hlet : letBlockBe a s = s := letBlockBe_other (by simp [WalkKind, hk]) s
    simp [errorRunning, errorClass, hk, hlet]

theorem errorRunning_report {n : Nat} (hk : a.kind = .report n) (s : State) :
    errorRunning a s = raise .bus { s with reports := { s.reports with setting := none, waiting := none } } := by
  simp [errorRunning, errorClass, hk]

theorem errorHalted_data (hk : errorClass a.kind = .data) (s : State) : errorHalted a s = s := by simp [errorHalted, hk]

/-- While HALTED every failed access but a data access raises BUS (R177). -/
theorem errorHalted_raises (hk : PortKind a.kind ∨ (∃ p v, a.kind = .journal p v) ∨ ∃ n, a.kind = .report n) (s : State) :
    errorHalted a s = raise .bus (letBlockBe a s) := by
  obtain hk | hk := hk
  · simp [errorHalted, errorClass_port hk]
  · have hlet : letBlockBe a s = s := letBlockBe_other (by obtain ⟨p, v, hk⟩ | ⟨n, hk⟩ := hk <;> simp [WalkKind, hk]) s
    obtain ⟨p, v, hk⟩ | ⟨n, hk⟩ := hk <;> simp [errorHalted, errorClass, hk, hlet]

/-- A halt by a bus error is RUN 0 but for its halt cause (R177). -/
theorem runWritten0_haltCause (hrun : s.port.running = true) :
    ∃ v, exec .runWritten0 s = .next v ∧ haltPart .bus s = { v with port := { v.port with haltCause := .bus } } :=
  ⟨haltPart .order s, congrArg Host.Outcome.next (if_pos hrun), rfl⟩

end

/-- Settles O51: the error's row of the table, by what the access was for and by the run state. -/
theorem busErrorActsByAccess : Obligations.BusErrorActsByAccess := by
  unfold Obligations.BusErrorActsByAccess
  intro s a ha u live walk port other left halted
  have hleft : letBlockBe a u = left := by
    by_cases hwalk : live ∧ walk
    · rw [letBlockBe_walk hwalk.1 hwalk.2]
      simp only [left, if_pos hwalk, setWalker]
    · rw [letBlockBe_other hwalk]
      simp only [left, if_neg hwalk]
  refine ⟨fun hs => exec_busError_forgotten ha hs, fun hs hrun => ?_, fun hs hhalted => ⟨fun hk => ?_, fun hk => ?_⟩⟩
  · have hexec : exec .busError s = .next (errorRunning a u) := exec_busError_running ha hs hrun
    have hdata {k : AccessKind} {t : State} (hlive : live) (hk : a.kind = k) (hclass : errorClass k = .data)
        (hfault : dataFault u = t) : exec .busError s = .next t :=
      hexec.trans (congrArg Host.Outcome.next ((errorRunning_data (hk ▸ hclass) hlive u).trans hfault))
    refine ⟨fun b o hlive hk hw => ?_, fun b run hlive hk hw => ?_, fun b run hlive hk hw => ?_, fun b i o hlive hk hw => ?_,
      fun b run hlive hk hw => ?_, fun hlive hk => ?_, fun hk => ?_, fun n hk => ?_⟩
    · exact hdata hlive hk rfl (withProgress_flight u b _ _ hw)
    · exact hdata hlive hk rfl (withProgress_flight u b _ _ hw)
    · exact hdata hlive hk rfl (withProgress_flight u b _ _ hw)
    · exact hdata hlive hk rfl (withProgress_flight u b _ _ hw)
    · exact hdata hlive hk rfl (withProgress_flight u b _ _ hw)
    · exact hexec.trans (congrArg Host.Outcome.next (errorRunning_data_unused (errorClass_data hk) hlive u))
    · refine ⟨_, hexec.trans (congrArg Host.Outcome.next (errorRunning_halts hk u)), ?_⟩
      have hleftRuns : (raise .bus (letBlockBe a u)).port.running = true := (letBlockBe_running a u).trans hrun
      rw [hleft] at hleftRuns ⊢
      exact runWritten0_haltCause hleftRuns
    · exact hexec.trans (congrArg Host.Outcome.next (errorRunning_report hk u))
  · rw [← hleft, exec_busError_halted ha hs hhalted]
    exact congrArg Host.Outcome.next (errorHalted_raises hk u)
  · rw [exec_busError_halted ha hs hhalted]
    exact congrArg Host.Outcome.next (errorHalted_data (errorClass_data hk) u)

end Sys2Proof.Machine
end

section
/-!
PROOF. CommandQueue: a step takes the front command off the queue, and no command of the table touches what waits behind it
(notes/assumptions/1.md, 2.md).
-/
namespace Sys2Proof.Machine

/-! ### One step -/

theorem step_cons {s : State} {c : Instr} {rest : List Instr} (h : s.pending = c :: rest) :
    step s = exec c { s with pending := rest } := by rw [step, h]

theorem step_nil {s : State} (h : s.pending = []) : step s = .next (blankOutput s) := by rw [step, h]

/-- Settles O1: the two cases of the queue; blanking is code 64 on each component. -/
theorem stepRunsFrontCommand : Obligations.StepRunsFrontCommand := by
  unfold Obligations.StepRunsFrontCommand
  exact ⟨fun _ _ _ => step_cons, fun _ => step_nil⟩

/-! ### Shared operations -/

section
variable {s : State}

theorem ite_pending {p : Prop} [Decidable p] {t u : State} (ht : t.pending = s.pending) (hu : u.pending = s.pending) :
    (if p then t else u).pending = s.pending := by
  split <;> assumption

theorem withOrder_pending {code : BitVec 8} {take : OrderBlock → State} (h : ∀ b, (take b).pending = s.pending) :
    (withOrder code s take).pending = s.pending := by
  obtain he | ⟨b, -, he⟩ := withOrder_cases code s take <;> rw [he]
  exact h b

theorem withProgress_pending {take : OrderBlock → Progress → State} (h : ∀ b p, (take b p).pending = s.pending) :
    (withProgress s take).pending = s.pending := by
  obtain he | ⟨b, p, -, he⟩ := withProgress_cases s take <;> rw [he]
  exact h b p

theorem complete_pending {isKind : AccessKind → Bool} {live stale : Access → State → State}
    (hlive : ∀ a t, (live a t).pending = t.pending) (hstale : ∀ a t, (stale a t).pending = t.pending) :
    (complete isKind s live stale).pending = s.pending := by
  obtain he | ⟨a, -, -, ⟨-, he⟩ | ⟨-, he⟩ | ⟨-, he⟩⟩ := complete_cases isKind s live stale <;> rw [he]
  · exact (hlive a _).trans (endAccess_pending a s)
  · exact (hstale a _).trans (endAccess_pending a s)
  · exact endAccess_pending a s

end

theorem judgeLink_pending (v : BitVec 32) (n : Nat) (s : State) : (judgeLink v n s).pending = s.pending := by rw [judgeLink_port]

theorem closeBlock_pending (b : OrderBlock) (s : State) : (closeBlock b s).pending = s.pending := by rw [closeBlock_port]

/-! ### The orders that read a coded parameter -/

section
variable (b : OrderBlock) (s : State)

theorem takeLoadScenes_pending : (takeLoadScenes b s).pending = s.pending := by
  refine ite_pending rfl (ite_pending rfl ?_)
  cases flagCode (param b 18 1) <;> rfl

theorem takeSetStandard_pending : (takeSetStandard b s).pending = s.pending := by
  refine ite_pending rfl (ite_pending rfl ?_)
  cases standardOf (param b 12 1) with
  | none => rfl
  | some std => exact ite_pending rfl rfl

theorem takeSetFollow_pending : (takeSetFollow b s).pending = s.pending := by
  refine ite_pending rfl ?_
  cases flagCode (param b 12 1) with
  | none => rfl
  | some on =>
    cases on with
    | false => rfl
    | true => exact ite_pending rfl rfl

theorem takeSetPicture_pending : (takeSetPicture b s).pending = s.pending := by
  refine ite_pending rfl ?_
  cases flagCode (param b 12 1) with
  | none => rfl
  | some clip => cases flagCode (param b 13 1) <;> rfl

theorem takeSetMonitor_pending : (takeSetMonitor b s).pending = s.pending := by
  unfold takeSetMonitor
  cases monitorArgs b with
  | none => rfl
  | some a => exact ite_pending rfl rfl

theorem takeSetRoute_pending : (takeSetRoute b s).pending = s.pending := by
  refine ite_pending rfl ?_
  split
  · rfl
  · cases (routeArgs b).mode with
    | none => rfl
    | some mode => exact ite_pending rfl (ite_pending rfl rfl)

theorem takeSetLink_pending : (takeSetLink b s).pending = s.pending := by
  unfold takeSetLink
  simp only
  cases (linkArgs b).link with
  | none => rfl
  | some l =>
    cases (linkArgs b).autoWake with
    | none => rfl
    | some w => exact ite_pending (changeLink_frame (linkArgs b) w l s).pending rfl

theorem takeWakeLink_pending : (takeWakeLink b s).pending = s.pending := by
  unfold takeWakeLink
  cases linkOfCode (param b 12 1) with
  | none => rfl
  | some l => exact ite_pending rfl (wakeByOrder_frame l s).pending

theorem takeResetLink_pending : (takeResetLink b s).pending = s.pending := by
  unfold takeResetLink
  cases linkOfCode (param b 12 1) with
  | none => rfl
  | some l => exact ite_pending rfl rfl

theorem takeStartPass_pending : (takeStartPass b s).pending = s.pending := by
  unfold takeStartPass
  simp only
  cases startRefused (passArgs b) s with
  | none => exact (acceptPass_frame (passArgs b) s).pending
  | some r => rfl

theorem takeSetReports_pending : (takeSetReports b s).pending = s.pending := by
  unfold takeSetReports
  cases flagCode (param b 17 1) with
  | none => rfl
  | some on =>
    cases on with
    | false => rfl
    | true => exact ite_pending rfl rfl

end

/-! ### Accesses -/

section
variable (s : State)

theorem afterSceneFetch_pending (record : BitVec 512) : (afterSceneFetch record s).pending = s.pending := by
  refine withProgress_pending fun b p => ?_
  cases p with
  | fetchScene o => rw [putFetched_eq]; rfl
  | _ => rfl

theorem afterLoadFetch_pending (record : BitVec 512) : (afterLoadFetch record s).pending = s.pending := by
  refine withProgress_pending fun b p => ?_
  cases p with
  | fetchLoad run => exact ite_pending rfl rfl
  | _ => rfl

theorem afterLookFetch_pending (record : BitVec 256) : (afterLookFetch record s).pending = s.pending := by
  refine withProgress_pending fun b p => ?_
  cases p with
  | fetchLook i o =>
    simp only [putLook]
    split <;> rfl
  | _ => rfl

theorem afterSceneSlot_pending : (afterSceneSlot s).pending = s.pending := by
  refine withProgress_pending fun b p => ?_
  cases p with
  | slotScene run => exact ite_pending rfl rfl
  | _ => rfl

theorem afterLookSlot_pending : (afterLookSlot s).pending = s.pending := by
  refine withProgress_pending fun b p => ?_
  cases p with
  | slotLook run => exact ite_pending rfl rfl
  | _ => rfl

theorem afterHeader_pending : (afterHeader s).pending = s.pending := by
  unfold afterHeader
  cases s.port.walker with
  | idle => exact ite_pending (judgeLink_pending ..) rfl
  | _ => rfl

theorem afterBlock_pending (block : BitVec 256) : (afterBlock block s).pending = s.pending := by
  unfold afterBlock
  cases s.port.walker with
  | reading o n => exact ite_pending rfl (ite_pending rfl (ite_pending (judgeLink_pending ..) rfl))
  | _ => rfl

theorem afterTaken_pending : (afterTaken s).pending = s.pending := by
  unfold afterTaken
  cases s.port.walker with
  | taking b halted =>
    cases halted with
    | false => exact ite_pending rfl rfl
    | true => rfl
  | _ => rfl

theorem afterAborted_pending : (afterAborted s).pending = s.pending := by
  unfold afterAborted
  cases s.port.walker with
  | closing b n halted =>
    exact ite_pending (closeBlock_pending ..) ((judgeLink_pending ..).trans (closeBlock_pending ..))
  | aborting b => exact closeBlock_pending ..
  | _ => rfl

theorem afterResultIndex_pending : (afterResultIndex s).pending = s.pending :=
  withProgress_pending fun _ p => by cases p <;> rfl

theorem afterFinal_pending : (afterFinal s).pending = s.pending := by
  refine withProgress_pending fun b p => ?_
  cases p with
  | finishing r => exact closeBlock_pending ..
  | _ => rfl

theorem advanceFill_pending : (advanceFill s).pending = s.pending := ite_pending rfl rfl

theorem afterJournal_pending (a : Access) : (afterJournal a s).pending = s.pending := by
  unfold afterJournal
  cases a.kind with
  | journal pops advances =>
    have hpop : (if pops then { s with journal := { s.journal with queue := s.journal.queue.tail } } else s).pending
        = s.pending := ite_pending rfl rfl
    exact ite_pending ((advanceFill_pending _).trans hpop) hpop
  | _ => rfl

theorem afterReport_pending (a : Access) : (afterReport a s).pending = s.pending := by
  unfold afterReport
  cases a.kind <;> rfl

theorem grantAccess_pending : (grantAccess s).pending = s.pending := by
  obtain he | ⟨r, -, -, he⟩ := grantAccess_cases s <;> rw [he]
  exact grantTo_pending r s

theorem letBlockBe_pending (a : Access) : (letBlockBe a s).pending = s.pending := ite_pending rfl rfl

theorem dataFault_pending : (dataFault s).pending = s.pending := withProgress_pending fun _ p => by cases p <;> rfl

theorem errorRunning_pending (a : Access) : (errorRunning a s).pending = s.pending := by
  unfold errorRunning
  cases errorClass a.kind with
  | data => exact ite_pending (dataFault_pending s) rfl
  | port => exact letBlockBe_pending s a
  | journal | report => rfl

theorem errorHalted_pending (a : Access) : (errorHalted a s).pending = s.pending := by
  unfold errorHalted
  cases errorClass a.kind with
  | port => exact letBlockBe_pending s a
  | data | journal | report => rfl

theorem busErrorNow_pending : (busErrorNow s).pending = s.pending := by
  unfold busErrorNow
  cases s.port.access with
  | none => rfl
  | some a =>
    have hdrop := dropAccess_pending s
    exact ite_pending hdrop (ite_pending ((errorRunning_pending _ a).trans hdrop) ((errorHalted_pending _ a).trans hdrop))

end

/-! ### Every command -/

theorem takeReading_pending (reading : Nat) (s : State) : (takeReading reading s).pending = s.pending := by
  have hlow : (lowReading reading s).pending = s.pending := ite_pending (offer_pending ..) rfl
  have hservice (t : State) : (serviceCheck t).pending = t.pending := ite_pending (offer_pending ..) rfl
  exact ite_pending rfl (ite_pending rfl (ite_pending hlow (hservice _)))

/-- Every command completes, and what waits behind it is as it was. -/
theorem exec_pending (c : Instr) (s : State) : ∃ t, exec c s = .next t ∧ t.pending = s.pending := by
  have completion {isKind : AccessKind → Bool} {live : Access → State → State} (h : ∀ a t, (live a t).pending = t.pending) :
      (complete isKind s live unused).pending = s.pending := complete_pending h fun _ _ => rfl
  have message (l : Link) (bytes : List Byte) : (tellLosses s (takeBytes l bytes s)).pending = s.pending :=
    ((takeBytes_frame ..).trans (tellLosses_frame ..)).pending
  have expiry (k : TimerKind) (l : Link) : (tellLosses s (expiryOf k l s)).pending = s.pending :=
    ((expiryOf_frame ..).trans (tellLosses_frame ..)).pending
  cases c with
  | mark => exact ⟨_, rfl, withOrder_pending fun b => rfl⟩
  | clearScenes | lockScenes | unlockScenes | readLooks | ackMonitor =>
    exact ⟨_, rfl, withOrder_pending fun b => ite_pending rfl rfl⟩
  | putScene | readScenes | clearHouseLooks | setJournal =>
    exact ⟨_, rfl, withOrder_pending fun b => ite_pending rfl (ite_pending rfl rfl)⟩
  | removeScene | setHouseArea | setPosition =>
    exact ⟨_, rfl, withOrder_pending fun b => ite_pending rfl (ite_pending rfl (ite_pending rfl rfl))⟩
  | putLook =>
    exact ⟨_, rfl, withOrder_pending fun b =>
      ite_pending rfl (ite_pending rfl (ite_pending rfl (ite_pending rfl (ite_pending rfl rfl))))⟩
  | loadScenes => exact ⟨_, rfl, withOrder_pending (takeLoadScenes_pending · s)⟩
  | setStandard => exact ⟨_, rfl, withOrder_pending (takeSetStandard_pending · s)⟩
  | setFollow => exact ⟨_, rfl, withOrder_pending (takeSetFollow_pending · s)⟩
  | setPicture => exact ⟨_, rfl, withOrder_pending (takeSetPicture_pending · s)⟩
  | setLight => exact ⟨_, rfl, withOrder_pending fun b => ite_pending (decideRest_frame s).pending rfl⟩
  | setMonitor => exact ⟨_, rfl, withOrder_pending (takeSetMonitor_pending · s)⟩
  | setRoute => exact ⟨_, rfl, withOrder_pending (takeSetRoute_pending · s)⟩
  | setLink => exact ⟨_, rfl, withOrder_pending (takeSetLink_pending · s)⟩
  | wakeLink => exact ⟨_, rfl, withOrder_pending (takeWakeLink_pending · s)⟩
  | resetLink => exact ⟨_, rfl, withOrder_pending (takeResetLink_pending · s)⟩
  | startPass => exact ⟨_, rfl, withOrder_pending (takeStartPass_pending · s)⟩
  | abortPass => exact ⟨_, rfl, withOrder_pending fun b => ite_pending (abortPassNow_frame .order s).pending rfl⟩
  | setReports => exact ⟨_, rfl, withOrder_pending (takeSetReports_pending · s)⟩
  | sceneFetchComplete record => exact ⟨_, rfl, completion fun _ t => afterSceneFetch_pending t record⟩
  | loadRecordFetchComplete record => exact ⟨_, rfl, completion fun _ t => afterLoadFetch_pending t record⟩
  | lookFetchComplete record => exact ⟨_, rfl, completion fun _ t => afterLookFetch_pending t record⟩
  | readScenesSlotWritten => exact ⟨_, rfl, completion fun _ => afterSceneSlot_pending⟩
  | readLooksSlotWritten => exact ⟨_, rfl, completion fun _ => afterLookSlot_pending⟩
  | headerReadComplete bytes => exact ⟨_, rfl, complete_pending (fun _ _ => rfl) fun _ _ => rfl⟩
  | headerWriteComplete => exact ⟨_, rfl, completion fun _ => afterHeader_pending⟩
  | linkReadComplete link => exact ⟨_, rfl, completion fun _ _ => judgeLink_pending ..⟩
  | blockReadComplete block => exact ⟨_, rfl, completion fun _ t => afterBlock_pending t block⟩
  | takenWriteComplete => exact ⟨_, rfl, completion fun _ => afterTaken_pending⟩
  | resultIndexWriteComplete => exact ⟨_, rfl, completion fun _ => afterResultIndex_pending⟩
  | finalWriteComplete => exact ⟨_, rfl, completion fun _ => afterFinal_pending⟩
  | abortedWriteComplete => exact ⟨_, rfl, completion fun _ => afterAborted_pending⟩
  | journalWriteComplete => exact ⟨_, rfl, completion fun a t => afterJournal_pending t a⟩
  | reportWriteComplete => exact ⟨_, rfl, completion fun a t => afterReport_pending t a⟩
  | accessGrant => exact ⟨_, rfl, grantAccess_pending s⟩
  | busError => exact ⟨_, rfl, busErrorNow_pending s⟩
  | runWritten1 | runWritten0 | baseWrite | enterRest | sampleTriple => exact ⟨_, rfl, ite_pending rfl rfl⟩
  | attentionWrite | noticeMaskWrite | perfEvent | directiveSent => exact ⟨_, rfl, rfl⟩
  | softReset | powerOnReset | boardReset => exact ⟨_, rfl, rfl⟩
  | fieldEvent p order => exact ⟨_, rfl, fieldStep_pending p false order s⟩
  | referenceWatchExpiry order => exact ⟨_, rfl, ite_pending rfl (fieldStep_pending _ true order s)⟩
  | standInField order => exact ⟨_, rfl, ite_pending (fieldStep_pending _ true order s) rfl⟩
  | lightSampleEvent reading => exact ⟨_, rfl, takeReading_pending reading.toNat (blankOutput s)⟩
  | awake | cued | locked | written | done | trouble | damagedFrame => exact ⟨_, rfl, message ..⟩
  | wakeTimerExpiry | cueTimerExpiry | watchdogExpiry | closeTimerExpiry => exact ⟨_, rfl, expiry ..⟩
  | startByte l => exact ⟨_, rfl, ((takeByte_frame ..).trans (tellLosses_frame ..)).pending⟩
  | autoDown l =>
    exact ⟨_, rfl, ite_pending ((autoDownNow_frame l s).trans (tellLosses_frame ..)).pending rfl⟩

/-- Settles O2, by the cases of the command table. -/
theorem everyCommandCompletes : Obligations.EveryCommandCompletes := exec_pending

end Sys2Proof.Machine
end
